-- ==== Sys2Proof/Word.lean ====
section
/-!
DEFINITION. Word.lean: the plain types of values. A byte and a 32-bit register word are bit vectors, because the spec
masks, shifts and hashes them; a current, a voltage, a temperature, a count and an instant are numbers.
-/
namespace Sys2Proof

/-- One byte of a packet, a record or a stored block (R15: most significant byte first in every multi-byte field). -/
abbrev Byte := BitVec 8

/-- A 32-bit register word (R16). -/
abbrev Word := BitVec 32

/-- A string of bytes, first byte first. -/
abbrev Bytes := List Byte

/-- An instant of the model's one running clock, in ns since power was first applied. Unit time (R12) is a count of its
own, kept by each controller as an offset from this clock. -/
abbrev Instant := Nat

/-- Unit time: a signed count of ns since 2000-01-01T00:00:00 TAI (R12). -/
abbrev UnitTime := Int

/-- Milliamperes, signed. -/
abbrev MilliAmp := Int

/-- Millivolts, signed. -/
abbrev MilliVolt := Int

/-- Tenths of a degree Celsius, signed, as R617 carries temperatures. -/
abbrev DeciDeg := Int

/-- The two controller slots (R17). -/
inductive Ctl where
  | a | b
deriving DecidableEq, Repr

/-- The two bus ports (R20): BUS-A and BUS-B. -/
inductive Bus where
  | a | b
deriving DecidableEq, Repr

/-- A cartridge slot, 0 to 3 standing for slots 1 to 4 (R17). -/
abbrev Slot := Fin 4

/-- A channel, 0 to 15 standing for CH01 to CH16 (R18). -/
abbrev Ch := Fin 16

/-- A twin pair, 0 to 7 standing for TW1 to TW8 (R19). -/
abbrev Pair := Fin 8

/-- A loop output or a speed input, 0 to 3 standing for 1 to 4. -/
abbrev Quad := Fin 4

/-- A client slot (R542). -/
abbrev Client := Fin 16

/-- A GNSS tracker, 0 to 31. -/
abbrev Tracker := Fin 32

/-- The two GNSS bands: L1/E1 and L5/E5a. -/
inductive Band where
  | l1 | l5
deriving DecidableEq, Repr

/-- Where a packet reaches a controller: a bus port, or the service port X50. -/
inductive Via where
  | bus (p : Bus)
  | x50
deriving DecidableEq, Repr

/-- An IPv4 address and a UDP port. -/
structure Endpoint where
  ip   : Nat := 0
  port : Nat := 0
deriving DecidableEq, Repr

/-- A request of a client as it stands once checks 1 to 6 of R509 have passed: the fields of the packet of R523 and
where it came from. The opcode is the command's own. -/
structure Request where
  /-- The controller that received it. -/
  ctl     : Ctl := .a
  /-- The port it came by. -/
  via     : Via := .bus .a
  /-- Set when it was addressed to the unit address, clear for a controller address (R563). -/
  toUnit  : Bool := true
  /-- The address and UDP port it came from. -/
  src     : Endpoint := ⟨0, 0⟩
  /-- Client slot, byte 2. -/
  client  : Client := 0
  /-- Key generation, byte 3. -/
  gen     : Nat := 1
  /-- Sequence, bytes 4 to 9. -/
  seq     : Nat := 1
  /-- Flag GROUP. -/
  group   : Bool := false
  /-- Flag NO_REPLY. -/
  noReply : Bool := false
  /-- Flag RETRANS. -/
  retrans : Bool := false
  /-- It passed its tag check under the bootstrap key (R961). -/
  boot    : Bool := false
  /-- Requested unit time, bytes 16 to 23; 0 for at once. -/
  time    : UnitTime := 0
  /-- The parameters. -/
  params  : Bytes := []
deriving DecidableEq, Repr

/-- What one cartridge measures in a housekeeping round (R114, R373, R423). -/
structure CartRound where
  /-- PD_FWD of positions 1 to 4, 0.1 °C. -/
  fwd     : Vector DeciDeg 4 := Vector.replicate 4 250
  /-- PD_FW of positions 1 to 4, 0.1 °C. -/
  fw      : Vector DeciDeg 4 := Vector.replicate 4 250
  /-- CART_MEAS, 0.1 °C. -/
  meas    : DeciDeg := 250
  /-- CART_AIR, 0.1 °C. -/
  air     : DeciDeg := 250
  /-- FEED1 and FEED2, mV. -/
  feedMv  : Vector MilliVolt 2 := Vector.replicate 2 0
  /-- Power bus, mV. -/
  busMv   : MilliVolt := 0
  /-- Current that the cartridge draws from its power bus, mA. -/
  load    : MilliAmp := 0
  /-- Reverse current of each ORing branch, mA: 0 for a branch that blocks it (R112). -/
  rev     : Vector Nat 2 := Vector.replicate 2 0
  /-- How long that reverse current has flown without a break, ms (R150). -/
  revMs   : Vector Nat 2 := Vector.replicate 2 0
  /-- Departure of the housekeeping reference reading from its stored value on path 1 of each position, ppm. -/
  ref1    : Vector Int 4 := Vector.replicate 4 0
  /-- The same on path 2. -/
  ref2    : Vector Int 4 := Vector.replicate 4 0
  /-- Departure of the proof current as both paths find it, ppm. -/
  proof   : Int := 0
  /-- Oscillator against unit time, 0.01 ppm. -/
  osc     : Int := 0
deriving DecidableEq, Repr

/-- What the sensors of the unit read in a housekeeping round (R423). -/
structure HkRound where
  /-- Cartridges 1 to 4. -/
  carts   : Vector CartRound 4 := Vector.replicate 4 {}
  /-- INLET1 and INLET2, 0.1 °C. -/
  inlet   : Vector DeciDeg 2 := Vector.replicate 2 250
  /-- CTRL_DIE of A and B. -/
  die     : Vector DeciDeg 2 := Vector.replicate 2 250
  /-- CTRL_BOARD of A and B. -/
  board   : Vector DeciDeg 2 := Vector.replicate 2 250
  /-- GNSS_BOARD. -/
  gnss    : DeciDeg := 250
  /-- Fan speeds, rpm. -/
  rpm     : Vector Nat 2 := Vector.replicate 2 0
  /-- Fan supply currents, % of that expected for the duty. -/
  pct     : Vector Nat 2 := Vector.replicate 2 100
deriving DecidableEq, Repr

/-- What the front ends of one channel deliver for one sample interval of 50 µs: the means over the interval, or over the part of it that no
MEAS window takes (R346, R348, R353). A triggered pair carries point values in place of the means (R354). -/
structure SampleIn where
  /-- Path 1, µA, in the polarity of its commutator, before every correction (R365). -/
  u1   : Int := 0
  /-- Path 2, µA, likewise. -/
  u2   : Int := 0
  /-- OUT voltage, µV, before the correction of R375. -/
  uv   : Int := 0
  /-- The input of path 1 exceeded ±100 A in the interval (R347). -/
  sat1 : Bool := false
  /-- The input of path 2 exceeded ±100 A in the interval. -/
  sat2 : Bool := false
deriving DecidableEq, Repr

/-- The fields of a PTP Announce message that the unit uses (R718, R720). -/
structure Announce where
  /-- Identity of the master (the port it speaks from). -/
  master  : Nat
  /-- Domain. -/
  domain  : Nat
  /-- grandmasterPriority1. -/
  pri1    : Nat
  /-- clockClass. -/
  cls     : Nat
  /-- clockAccuracy, as ns. -/
  accNs   : Nat
  /-- offsetScaledLogVariance. -/
  var     : Nat
  /-- grandmasterPriority2. -/
  pri2    : Nat
  /-- grandmasterIdentity. -/
  gm      : Nat
  /-- stepsRemoved. -/
  steps   : Nat
  /-- ptpTimescale. -/
  ptp     : Bool
  /-- currentUtcOffset, s. -/
  utc     : Int
  /-- currentUtcOffsetValid. -/
  utcOk   : Bool
  /-- leap59. -/
  leap59  : Bool
  /-- leap61. -/
  leap61  : Bool
  /-- logAnnounceInterval. -/
  logAnn  : Int
  /-- logSyncInterval. -/
  logSync : Int
  /-- logMinDelayReqInterval. -/
  logDelay : Int
deriving DecidableEq, Repr

/-- What the five correlators of a band hold as an integration ends: in-phase and quadrature (R756). -/
structure Dump where
  /-- The tracker. -/
  trk   : Tracker
  /-- The band. -/
  band  : Band
  /-- Very early. -/
  ve    : Int × Int := (0, 0)
  /-- Early. -/
  e     : Int × Int := (0, 0)
  /-- Prompt. -/
  p     : Int × Int := (0, 0)
  /-- Late. -/
  l     : Int × Int := (0, 0)
  /-- Very late. -/
  vl    : Int × Int := (0, 0)
  /-- Bit or secondary-code synchronisation is reached (R757). -/
  sync  : Bool := false
deriving DecidableEq, Repr

/-- What is known of a tracker and band at a measurement epoch beside the state of its loops: decoded data and estimates (R762, R764, R778). -/
structure TrkObs where
  /-- The tracker. -/
  trk     : Tracker
  /-- The band. -/
  band    : Band
  /-- Transmit second, where it is known from decoded data or from a prior fix; R764. -/
  second  : Option Nat := none
  /-- Whole primary codes transmitted since it began. -/
  periods : Nat := 0
  /-- Half-cycle ambiguity resolved. -/
  half    : Bool := false
  /-- Navigation data decoded. -/
  decoded : Bool := false
  /-- C/N0, 0.01 dB-Hz. -/
  cn0     : Nat := 0
  /-- Elevation, 0.1 °. -/
  elev    : Int := 0
  /-- Departure of (E − L) / P or (VE − VL) / P from its value for a clean signal, the larger of the two, thousandths; R778. -/
  shape   : Nat := 0
deriving DecidableEq, Repr

/-- One satellite as the solution of R769 takes it. -/
structure SatObs where
  /-- The satellite, coded as in R762. -/
  sat   : Nat
  /-- Carrier-smoothed pseudorange, mm: the ionosphere-free combination, or that of L1/E1. -/
  range : Int
  /-- Doppler on L1/E1, µHz. -/
  rate  : Int
  /-- Elevation, 0.1 °. -/
  elev  : Int
  /-- C/N0, 0.01 dB-Hz. -/
  cn0   : Nat
deriving DecidableEq, Repr

/-- What the weighted least-squares solution of R769 gives. -/
structure Solution where
  /-- Latitude, 10^−7 °. -/
  lat    : Int := 0
  /-- Longitude, 10^−7 °. -/
  lon    : Int := 0
  /-- Height, mm. -/
  height : Int := 0
  /-- Rate of the latitude, 10^−10 ° per s. -/
  dLat   : Int := 0
  /-- Rate of the longitude, 10^−10 ° per s. -/
  dLon   : Int := 0
  /-- Vertical speed, mm/s. -/
  up     : Int := 0
  /-- Position in WGS 84, earth-centred, mm. -/
  pos    : Vector Int 3 := Vector.replicate 3 0
  /-- Velocity, mm/s. -/
  vel    : Vector Int 3 := Vector.replicate 3 0
  /-- Offset of the source time of R714 against unit time, ns. -/
  clock  : Int := 0
  /-- Variance of the horizontal position to the north, mm². -/
  varN   : Nat := 0
  /-- Variance to the east, mm². -/
  varE   : Nat := 0
  /-- Covariance of the two, mm². -/
  cov    : Int := 0
  /-- Squared normalised residual of each satellite, thousandths. -/
  resid  : List (Nat × Nat) := []
deriving DecidableEq, Repr, Inhabited

/-- A satellite that the search of a capture has found (R784, R785). -/
structure SnapSat where
  /-- The satellite, coded as in R762. -/
  sat  : Nat
  /-- Peak above the mean, 0.1 dB. -/
  peak : Nat
  /-- Code phase within the primary code period, chips in 2^−16. -/
  code : Nat
  /-- Doppler, mHz. -/
  doppler : Int
deriving DecidableEq, Repr

/-- What the window device answers to a probe (R702). -/
structure ProbeIn where
  /-- The three identification bytes. -/
  jedec   : Nat
  /-- SFDP signature found. -/
  sfdp    : Bool := false
  /-- Density, log2 bytes. -/
  density : Nat := 24
  /-- Page size, log2 bytes, where the table gives one. -/
  page    : Option Nat := none
  /-- Erase sizes whose table opcodes are 0x20, 0x52 and 0xD8, bits 0 to 2. -/
  erase   : Nat := 0
  /-- The table states 4-byte addressing only. -/
  four    : Bool := false
  /-- The status of the device reads busy (R708). -/
  busy    : Bool := false
deriving DecidableEq, Repr

/-- What stands in the code plug socket (R954 to R956). -/
inductive Socket where
  | empty
  | blank
  | bad
  | plug (serial : Bytes)
deriving DecidableEq, Repr

/-- A part that samples lines or scrubs a memory: a cartridge or a controller (R822, R930). -/
inductive Part where
  | cart (s : Slot)
  | ctrl (c : Ctl)
deriving DecidableEq, Repr

end Sys2Proof
end

