-- ==== Sys2Proof/Syntax.lean ====
section
/-!
DEFINITION. Syntax.lean: the commands of the block, one constructor for each row of spec/opcode_table.json, in the table's
order. Every command happens at an instant `t` of the model's running clock (log entry 1), and its operands are what the
outside gives it: a request of a client, the bytes of a packet, a reading of a sensor, or the part it happens to (log entry 2).
-/
namespace Sys2Proof

/-- The commands of the unit. -/
inductive Instr where
  /-- PING (R594). Session command 0x0000 that returns an empty DONE reply. -/
  | ping (t : Instant) (q : Request)
  /-- IDENTIFY (R595). Returns the 240-byte identity record of the unit and the answering controller. -/
  | identify (t : Instant) (q : Request)
  /-- SESSION_INFO (R594). Returns the client's role, mask, key generations, outstanding requests, H, leases and last report sequence. -/
  | sessionInfo (t : Instant) (q : Request)
  /-- SET_ADDRESS (R597). SERVICE command that writes the address items of one port to the code plug and identity copies; takes effect 1 s after the reply. -/
  | setAddress (t : Instant) (q : Request)
  /-- SUBSCRIBE (R596). Creates or renews a subscription to a stream with a filter, period and lifetime. -/
  | subscribe (t : Instant) (q : Request)
  /-- UNSUBSCRIBE (R596). Ends a subscription by handle; an unknown handle returns DONE with no effect. -/
  | unsubscribe (t : Instant) (q : Request)
  /-- LIST_SUBS (R594). Lists the client's subscriptions. -/
  | listSubs (t : Instant) (q : Request)
  /-- SET_CHANNEL (R601). Journaled command that sets a channel's HOST level, at once or at a scheduled unit time. -/
  | setChannel (t : Instant) (q : Request)
  /-- SET_GROUP (R602). Journaled all-or-none command that sets the levels and optional PWM blocks of several channels. -/
  | setGroup (t : Instant) (q : Request)
  /-- SET_PWM (R601). Journaled command that makes a PWM block the channel's settings, and with SET_LEVEL sets level PWM. -/
  | setPwm (t : Instant) (q : Request)
  /-- CLEAR_TRIP (R271). Journaled command that ends TRIPPED or LOCKED_OUT on a channel or twin, subject to cooling and stuck-on rules. -/
  | clearTrip (t : Instant) (q : Request)
  /-- CLEAR_GLAZE (R605). Journaled command that clears a channel's glaze latch unless its fault input is still asserted. -/
  | clearGlaze (t : Instant) (q : Request)
  /-- OWN (R547). Journaled command that leases a channel set to the client, renewing or taking over leases. -/
  | own (t : Instant) (q : Request)
  /-- RELEASE (R606). Journaled command that ends the client's leases on the named channels. -/
  | release (t : Instant) (q : Request)
  /-- SET_LOOP (R464). Journaled command that sets the current of a loop output whose source is HOST, at once or scheduled. -/
  | setLoop (t : Instant) (q : Request)
  /-- GET_CONFIG (R612). Returns committed or staged configuration item records from a cursor. -/
  | getConfig (t : Instant) (q : Request)
  /-- STAGE_CONFIG (R609). Journaled command that checks item records in order and stages them into the one staging area. -/
  | stageConfig (t : Instant) (q : Request)
  /-- COMMIT_CONFIG (R610). Checks and commits the staged configuration as one transaction, raising the epoch and writing the hash. -/
  | commitConfig (t : Instant) (q : Request)
  /-- DISCARD_CONFIG (R608). Discards the staging area held by the client, or by anyone for a SERVICE client. -/
  | discardConfig (t : Instant) (q : Request)
  /-- GET_CHANNEL (R615). Returns state words and measurement records of the channels in a mask. -/
  | getChannel (t : Instant) (q : Request)
  /-- GET_TWIN (R615). Returns the twin status records of the pairs in a mask. -/
  | getTwin (t : Instant) (q : Request)
  /-- LATCH_MEAS (R355). Arms a measurement latch of all channels at unit time T. -/
  | latchMeas (t : Instant) (q : Request)
  /-- LATCH_READ (R618). Returns the records of the last completed latch. -/
  | latchRead (t : Instant) (q : Request)
  /-- GET_TRIGGER (R615). Returns the latest triggered sample pair and 100 ms trigger mean of a channel. -/
  | getTrigger (t : Instant) (q : Request)
  /-- GET_ENERGY (R615). Returns the 16 controller energy counters. -/
  | getEnergy (t : Instant) (q : Request)
  /-- GET_HK (R617). Returns the housekeeping record of the last completed round. -/
  | getHk (t : Instant) (q : Request)
  /-- GET_ALARMS (R615). Returns active alarm records from an index. -/
  | getAlarms (t : Instant) (q : Request)
  /-- GET_PORT_STATS (R615). Returns port state and counters, or pages of the stranger source table. -/
  | getPortStats (t : Instant) (q : Request)
  /-- GET_TIME (R619). Returns time state, source, TAI-UTC, estimated error and PPS residual. -/
  | getTime (t : Instant) (q : Request)
  /-- GET_GNSS (R619). Returns the GNSS fix, position, jamming indicators and flags. -/
  | getGnss (t : Instant) (q : Request)
  /-- GET_GNSS_MEAS (R619). Returns measurement records of one band from a tracker index. -/
  | getGnssMeas (t : Instant) (q : Request)
  /-- SNAP_CAPTURE (R780). Captures raw GNSS samples for a length from a start instant, optionally processed on-chip. -/
  | snapCapture (t : Instant) (q : Request)
  /-- SNAP_READ (R786). Returns bytes of the held snapshot file. -/
  | snapRead (t : Instant) (q : Request)
  /-- LOG_READ (R810). Examines log records from an index in a direction and returns those matching a class mask. -/
  | logRead (t : Instant) (q : Request)
  /-- LOG_FIND (R811). Returns the lowest index of a record at or after an instant. -/
  | logFind (t : Instant) (q : Request)
  /-- LOG_MARK (R812). Journaled command that writes a MARK record with host text. -/
  | logMark (t : Instant) (q : Request)
  /-- LOG_STATUS (R621). Returns oldest and newest index, loss counter and queue depth. -/
  | logStatus (t : Instant) (q : Request)
  /-- CONE_READ (R623). Returns cone entries from a cone index. -/
  | coneRead (t : Instant) (q : Request)
  /-- CONE_STATUS (R622). Returns cone entry count, highest index and lifetime counters. -/
  | coneStatus (t : Instant) (q : Request)
  /-- CONE_CLEAR (R436). SERVICE command with S50 at ENABLE that erases all cone entries. -/
  | coneClear (t : Instant) (q : Request)
  /-- WIN_READ (R697). Reads bytes of the memory window by a fast read. -/
  | winRead (t : Instant) (q : Request)
  /-- WIN_WRITE (R698). Programs one page of the memory window, queued and polled until done. -/
  | winWrite (t : Instant) (q : Request)
  /-- WIN_ERASE (R698). Erases a 4 KiB, 32 KiB, 64 KiB block or the whole window device. -/
  | winErase (t : Instant) (q : Request)
  /-- SPI_XFER (R690). Runs one SPI transaction of up to 200 frames on a select. -/
  | spiXfer (t : Instant) (q : Request)
  /-- PAIR_STATUS (R627). Returns unit mode, pair link and both controller entries. -/
  | pairStatus (t : Instant) (q : Request)
  /-- ROLE_SWAP (R886). Moves the ACTIVE role to a STANDBY_SYNCED peer without a fault. -/
  | roleSwap (t : Instant) (q : Request)
  /-- RESOLVE_SPLIT (R893). SERVICE command naming the slot whose configuration wins a SPLIT. -/
  | resolveSplit (t : Instant) (q : Request)
  /-- REG_READ (R650). Reads up to 64 register words, clearing RC fields and latching LO words. -/
  | regRead (t : Instant) (q : Request)
  /-- REG_WRITE (R630). Masked write of one register word; refused for RO and SH registers, logged always. -/
  | regWrite (t : Instant) (q : Request)
  /-- FW_BEGIN (R632). Opens a firmware transfer to a target controller with an image header. -/
  | fwBegin (t : Instant) (q : Request)
  /-- FW_DATA (R632). Delivers image body bytes at an offset. -/
  | fwData (t : Instant) (q : Request)
  /-- FW_COMMIT (R632). Checks the complete image and marks it TRIAL and preferred. -/
  | fwCommit (t : Instant) (q : Request)
  /-- FW_RESTART (R633). Restarts a controller, swapping roles first if it is ACTIVE. -/
  | fwRestart (t : Instant) (q : Request)
  /-- FW_STATUS (R631). Returns the boot record state and image headers of a controller. -/
  | fwStatus (t : Instant) (q : Request)
  /-- KEY_LOAD (R531). Loads an AES-wrapped key into a client slot as NEXT or first CURRENT generation. -/
  | keyLoad (t : Instant) (q : Request)
  /-- KEY_CLEAR (R533). Erases all keys of a slot and ends its window, leases, subscriptions and scheduled requests. -/
  | keyClear (t : Instant) (q : Request)
  /-- SIGN_REVOKE (R631). Revokes a firmware signing key index. -/
  | signRevoke (t : Instant) (q : Request)
  /-- DEBUG_HALT (R963). Halts or resumes the firing engine of a cartridge over X50. -/
  | debugHalt (t : Instant) (q : Request)
  /-- CART_EPOCH_RESET (R966). Resets a cartridge's stored claim epoch to 0 over X50. -/
  | cartEpochReset (t : Instant) (q : Request)
  /-- SCRUB_EN (R672). Write of SCRUB_EN in SCRUB_CTRL enabling or disabling MRAM scrubbing. -/
  | scrubEn (t : Instant) (c : Ctl) (on : Bool)
  /-- SCRUB_NOW (R647). Self-clearing bit of SCRUB_CTRL that starts a full scrub pass. -/
  | scrubNow (t : Instant) (c : Ctl)
  /-- OLTEST_NOW (R655). Self-clearing bit of CART_TEST that runs the off-state test of a position at once. -/
  | oltestNow (t : Instant) (c : Ch) (mv0 mv1 : MilliVolt)
  /-- HS_SELFTEST_NOW (R656). Self-clearing bit of CART_TEST that runs the hard-short comparator self-test. -/
  | hsSelftestNow (t : Instant) (s : Slot) (shunt mirror : BitVec 4)
  /-- NOTCH_ENABLE (R673). Write of a band's notch enable in GNSS_CTRL, releasing or allowing its notches. -/
  | notchEnable (t : Instant) (c : Ctl) (b : Band) (on : Bool)
  /-- SYASKEG_DATAGRAM (R509). A UDP datagram to port 48720 is checked in order and dropped, answered or executed. -/
  | syaskegDatagram (t : Instant) (c : Ctl) (p : Bus) (src : Endpoint) (dst : Nat) (data : Bytes)
  /-- X50_TRANSFER (R958). A USB bulk transfer on X50 carrying one Syaskeg packet is checked and answered. -/
  | x50Transfer (t : Instant) (c : Ctl) (data : Bytes)
  /-- IPV4_DATAGRAM (R497). A received IPv4 datagram is accepted or dropped as NOT_FOR_UNIT. -/
  | ipv4Datagram (t : Instant) (c : Ctl) (p : Bus) (mac : Nat) (data : Bytes)
  /-- ARP_FRAME (R499). A received ARP request or reply is answered or learned into the cache. -/
  | arpFrame (t : Instant) (c : Ctl) (p : Bus) (op mac ip target : Nat)
  /-- ICMP_ECHO_REQUEST (R500). An echo request is answered within the 10 per second limit. -/
  | icmpEchoRequest (t : Instant) (c : Ctl) (p : Bus) (ip dst id : Nat) (data : Bytes)
  /-- PTP_SYNC (R719). A PTP Sync message is timestamped and used for offset measurement. -/
  | ptpSync (t : Instant) (c : Ctl) (p : Bus) (master domain seq : Nat) (twoStep : Bool) (origin : Int)
  /-- PTP_FOLLOW_UP (R719). A PTP Follow_Up message completes a two-step Sync. -/
  | ptpFollowUp (t : Instant) (c : Ctl) (p : Bus) (master domain seq : Nat) (origin : Int)
  /-- PTP_ANNOUNCE (R720). A PTP Announce message enters master selection and TAI-UTC values. -/
  | ptpAnnounce (t : Instant) (c : Ctl) (p : Bus) (a : Announce)
  /-- PTP_DELAY_RESP (R721). A PTP Delay_Resp completes a path delay measurement. -/
  | ptpDelayResp (t : Instant) (c : Ctl) (p : Bus) (master domain seq : Nat) (rx : Int)
  /-- DELAY_REQ (R720). The controller sends a Delay_Req at the master's interval. -/
  | delayReq (t : Instant) (c : Ctl)
  /-- PTP_MASTER_LOST (R720). Announce messages stop for 3 intervals and the master is lost. -/
  | ptpMasterLost (t : Instant) (c : Ctl)
  /-- PLCA_BEACON (R491). A PLCA beacon is heard or, as coordinator, sent. -/
  | plcaBeacon (t : Instant) (c : Ctl) (p : Bus) (heard : Bool)
  /-- BEACON_LOSS (R514). No beacon for 4 PLCA cycles; counted, PLCA_DEGRADED after 3 in 10 s. -/
  | beaconLoss (t : Instant) (c : Ctl) (p : Bus)
  /-- RX_FCS (R514). A frame with a wrong FCS is received and counted. -/
  | rxFcs (t : Instant) (c : Ctl) (p : Bus)
  /-- PORT_QUIET (R507). 750 ms without liveness evidence makes a port QUIET and sends an ARP to PORT_WATCH. -/
  | portQuiet (t : Instant) (c : Ctl) (p : Bus)
  /-- PORT_DOWN (R507). 1 s without evidence or a PHY fault makes a port DOWN. -/
  | portDown (t : Instant) (c : Ctl) (p : Bus) (diag : Bool)
  /-- PORT_UP (R507). 5 s of evidence returns a DOWN port to UP. -/
  | portUp (t : Instant) (c : Ctl) (p : Bus)
  /-- ARP_RETRY (R499). An unresolved ARP request is repeated at 100 ms and 200 ms, then the datagram is dropped. -/
  | arpRetry (t : Instant) (c : Ctl) (p : Bus) (ip : Nat)
  /-- ARP_ENTRY_EXPIRY (R499). An ARP cache entry expires after 300 s. -/
  | arpEntryExpiry (t : Instant) (c : Ctl) (p : Bus)
  /-- GRATUITOUS_ARP (R496). A new ACTIVE repeats its gratuitous ARP at 100 ms and 1 s, and every 10 s in conflict. -/
  | gratuitousArp (t : Instant) (c : Ctl) (p : Bus)
  /-- DUP_ENTRY_EXPIRY (R504). A duplicate-store entry is discarded after 1 s. -/
  | dupEntryExpiry (t : Instant) (c : Ctl)
  /-- STRANGER_TRAFFIC_CLEAR (R512). 60 s with fewer than 10 drops clears STRANGER_TRAFFIC. -/
  | strangerTrafficClear (t : Instant) (c : Ctl) (p : Bus)
  /-- ADDRESS_CHANGE_EFFECT (R493). New addresses take effect 1 s after the SET_ADDRESS reply. -/
  | addressChangeEffect (t : Instant) (c : Ctl)
  /-- KEY_RETIRING_ERASE (R530). A RETIRING key generation is erased 10 s after the change. -/
  | keyRetiringErase (t : Instant) (cl : Client)
  /-- LEASE_EXPIRY (R549). A lease ends at its expiry instant. -/
  | leaseExpiry (t : Instant) (c : Ch)
  /-- SUBSCRIPTION_END (R569). A subscription ends at the end of its lifetime without renewal. -/
  | subscriptionEnd (t : Instant) (cl : Client) (handle : Nat)
  /-- STREAM_REPORT (R570). A periodic or on-change stream report is formed and sent to a subscriber. -/
  | streamReport (t : Instant) (cl : Client) (handle : Nat)
  /-- STAGE_HOLD_EXPIRY (R608). A staging area held 600 s without use is discarded. -/
  | stageHoldExpiry (t : Instant)
  /-- REPORT_SEQ_MIRROR (R571). Report sequences are mirrored to the standby every 100 ms. -/
  | reportSeqMirror (t : Instant)
  /-- SCHEDULE_ARM (R554). The ACTIVE sends a scheduled transaction to its cartridges as armed entries before T. -/
  | scheduleArm (t : Instant) (jsn : Nat)
  /-- ARMED_APPLY (R867). A cartridge applies an armed entry at T within 1 us. -/
  | armedApply (t : Instant) (s : Slot)
  /-- SCHEDULE_UNARMED_APPLY (R555). A scheduled transaction unarmed at T minus 1 ms is applied in the next frame slot. -/
  | scheduleUnarmedApply (t : Instant) (jsn : Nat)
  /-- SCHEDULED_SET_LOOP (R556). A scheduled SET_LOOP is applied by the ACTIVE at T. -/
  | scheduledSetLoop (t : Instant) (jsn : Nat)
  /-- LOGIC_POWER_UP (R157). The logic rail reaches 18 V; the controller is released from reset as BOOTING. -/
  | logicPowerUp (t : Instant) (c : Ctl) (selfTest : Bool)
  /-- FIRMWARE_RUNNING (R169). The image has started; it reads the code plug and configuration and replays the journal, entering ELECTING. -/
  | firmwareRunning (t : Instant) (c : Ctl)
  /-- ELECT (R171). A peer ELECT record is received and the election rules decide the role. -/
  | elect (t : Instant) (c : Ctl)
  /-- ELECT_SEND (R170). A controller sends its ELECT record every 10 ms. -/
  | electSend (t : Instant) (c : Ctl)
  /-- ELECT_TIMEOUT (R171). No peer record within 400 ms (800 ms for slot B by R195); ACTIVE alone or HOLD. -/
  | electTimeout (t : Instant) (c : Ctl) (peerPowered : Bool)
  /-- CLAIM_REQ (R176). A cartridge receives a claim request and arms with the epoch or refuses. -/
  | claimReq (t : Instant) (c : Ctl) (s : Slot)
  /-- CLAIM_ACK (R176). The controller receives CLAIM_ACK, commits the restore transaction and sends CLAIM_GO. -/
  | claimAck (t : Instant) (c : Ctl) (s : Slot)
  /-- CLAIM_GO (R177). A cartridge compares the limp digest and stores the token and applies the transaction, or refuses LIMP_MOVED. -/
  | claimGo (t : Instant) (c : Ctl) (s : Slot)
  /-- CLAIM_ARM_TIMEOUT (R177). No CLAIM_GO within 20 ms of CLAIM_ACK; the cartridge disarms. -/
  | claimArmTimeout (t : Instant) (s : Slot)
  /-- CLAIM_RETRY (R189). A failed claim is retried after 20 ms, or every 1 s once CART_UNCLAIMED. -/
  | claimRetry (t : Instant) (c : Ctl) (s : Slot)
  /-- COMMAND_READY (R187). Every cartridge is claimed or CART_UNCLAIMED; the ACTIVE takes the unit address, loops and fans. -/
  | commandReady (t : Instant) (c : Ctl)
  /-- IMAGE_CONFIRMED (R166). After 60 s in ACTIVE or STANDBY_SYNCED the running TRIAL image is marked CONFIRMED. -/
  | imageConfirmed (t : Instant) (c : Ctl)
  /-- LOGIC_DIP (R124). A logic rail dip below 16 V of at most 15 ms ends and is logged. -/
  | logicDip (t : Instant) (c : Ctl) (mv : MilliVolt)
  /-- POWER_FAIL (R125). The logic rail stays below 16 V over 15 ms; the flush runs and the controller is held in reset. -/
  | powerFail (t : Instant) (c : Ctl)
  /-- POWER_FAIL_RESTART (R126). The rail has held 18 V for 100 ms after the flush; the controller restarts. -/
  | powerFailRestart (t : Instant) (c : Ctl) (selfTest : Bool)
  /-- HOLDUP_EXHAUSTED (R152). The hold-up store runs out before or during the flush and the controller stops. -/
  | holdupExhausted (t : Instant) (c : Ctl) (steps : Nat)
  /-- HOLDUP_CHARGED (R152). The hold-up store finishes charging and the charging mark is cleared. -/
  | holdupCharged (t : Instant) (c : Ctl)
  /-- HOLDUP_PREDICTION (R150). A 2 ms discharge step predicts hold-up at start and every 24 h, raising HOLDUP_LOW. -/
  | holdupPrediction (t : Instant) (c : Ctl) (ms : Nat)
  /-- LOGIC_INPUT_STATE (R121). A logic input changes between PRESENT, LOW and ABSENT. -/
  | logicInputState (t : Instant) (c : Ctl) (i : Fin 2) (mv : MilliVolt)
  /-- POWER_BUS_BAND (R116). A cartridge power bus crosses a band threshold (DARK, UVLO, LOW, NORMAL, HIGH). -/
  | powerBusBand (t : Instant) (s : Slot) (mv : MilliVolt)
  /-- UVLO_FREEWHEEL_CAP (R117). The freewheel switch turns off 20 ms after UVLO entry. -/
  | uvloFreewheelCap (t : Instant) (c : Ch)
  /-- OV_OFF (R116). The power bus has been HIGH for 100 ms; channels turn off. -/
  | ovOff (t : Instant) (s : Slot)
  /-- OV_OFF_EXIT (R119). The power bus stays below 32 V for 100 ms after OV_OFF. -/
  | ovOffExit (t : Instant) (s : Slot)
  /-- RESTART_STAGGER (R119). A channel's staggered restart delay expires and it turns on afresh. -/
  | restartStagger (t : Instant) (c : Ch)
  /-- CARTRIDGE_START (R848). A cartridge leaves DARK, reads its MRAM, arms its comparators and enters limp-home. -/
  | cartridgeStart (t : Instant) (s : Slot) (mv : MilliVolt) (serial : Bytes)
  /-- INSERTION_HOLD_END (R412). The twin insertion hold ends 500 ms after leaving DARK without a claim. -/
  | insertionHoldEnd (t : Instant) (c : Ch)
  /-- CELL_INSERTED (R132). A cell is detected after ABSENT and qualification begins. -/
  | cellInserted (t : Instant) (c : Ctl)
  /-- CELL_QUALIFICATION_END (R133). After 5 s the cell is classified QUALIFIED, PRECHARGE or REFUSED. -/
  | cellQualificationEnd (t : Instant) (c : Ctl) (ohm : Nat) (mv : MilliVolt)
  /-- PRECHARGE_DONE (R132). A PRECHARGE cell reaches 1.5 V, or fails after 2 h. -/
  | prechargeDone (t : Instant) (c : Ctl) (mv : MilliVolt)
  /-- CELL_REMOVED (R134). The cell is declared ABSENT and the charger stops. -/
  | cellRemoved (t : Instant) (c : Ctl)
  /-- CELL_LOAD_TEST (R135). Every 24 h the cell is paused, loaded 10 mA for 10 s, and marked QUALIFIED or WEAK. -/
  | cellLoadTest (t : Instant) (c : Ctl) (minMv dropMv : MilliVolt)
  /-- CHARGER_CONTROL (R130). The charger starts below 2.6 V or ends below 0.8 mA. -/
  | chargerControl (t : Instant) (c : Ctl) (mv : MilliVolt) (ua : Nat)
  /-- CHARGER_FAULT (R150). Charger output above 2.95 V turns the charger off. -/
  | chargerFault (t : Instant) (c : Ctl) (mv : MilliVolt)
  /-- HOUSEKEEPING_ROUND (R423). Every 100 ms sensors are read, fan duty set, feeds and derating evaluated. -/
  | housekeepingRound (t : Instant) (r : HkRound)
  /-- SHED (R141). Persistent overload sheds the highest-ranked channel, then one every 100 ms. -/
  | shed (t : Instant)
  /-- SHED_RESUME (R146). Shedding resumes 1 s after a host turns on a shed channel during overload. -/
  | shedResume (t : Instant)
  /-- CH_DERATE_EXCEEDED (R446). A channel over its limit for 10 s raises the alarm, and after DERATE_GRACE is shed. -/
  | chDerateExceeded (t : Instant) (c : Ch)
  /-- DERATE_STEP (R444). The derate step rises at once or falls after 10 s of running fans. -/
  | derateStep (t : Instant)
  /-- FAN_TRAY_TIMEOUT (R438). No drive command for 100 ms runs both fans at 100 %. -/
  | fanTrayTimeout (t : Instant)
  /-- FAN_START_CHECK (R440). A start check attempt ends after 2 s, pausing 5 s, retrying or declaring FAN_BLOCKED. -/
  | fanStartCheck (t : Instant) (f : Fin 2) (rpm : Nat)
  /-- FAN_TACH_FAULT (R441). A running fan without tachometer for 1 s is classified by supply current over 1 s. -/
  | fanTachFault (t : Instant) (f : Fin 2) (rpm pct : Nat)
  /-- FAN_TACH_RECOVERY (R442). A TACH_LOST fan returns to RUNNING after 10 s of valid readings. -/
  | fanTachRecovery (t : Instant) (f : Fin 2) (rpm : Nat)
  /-- FAN_RETRY (R442). A failed fan is retried by a start check every 10 min. -/
  | fanRetry (t : Instant) (f : Fin 2)
  /-- FAN_TRAY_PRESENCE (R447). Fan tray removal sets ABSENT and step 2; insertion starts a start check. -/
  | fanTrayPresence (t : Instant) (present : Bool)
  /-- DIE_THERMAL_SHUTDOWN (R426). A power die reaches 170 C; the channel trips THERMAL and a cone entry opens. -/
  | dieThermalShutdown (t : Instant) (c : Ch) (fw : Bool) (temp : DeciDeg)
  /-- DIE_THERMAL_EXIT (R427). The die cools below 150 C; the shutdown ends and the cone entry is completed. -/
  | dieThermalExit (t : Instant) (c : Ch) (fw : Bool) (temp : DeciDeg)
  /-- CTRL_TSD (R430). CTRL_DIE reaches 135 C; the core supply is removed and CTRL_TSD latched. -/
  | ctrlTsd (t : Instant) (c : Ctl) (temp : DeciDeg)
  /-- CTRL_TSD_RELEASE (R430). The die cools below 115 C and the core powers on afresh. -/
  | ctrlTsdRelease (t : Instant) (c : Ctl) (temp : DeciDeg) (selfTest : Bool)
  /-- CONE_COLLECT (R434). The ACTIVE collects pending cone entries from a cartridge within 1 s or at claim. -/
  | coneCollect (t : Instant) (s : Slot)
  /-- SETPOINT_FRAME (R866). A cartridge receives a setpoint frame and applies its image, register access and armed entries. -/
  | setpointFrame (t : Instant) (c : Ctl) (s : Slot) (ok : Bool)
  /-- STATUS_FRAME (R161). A controller receives a cartridge status frame with claim, JSN, states and measurements. -/
  | statusFrame (t : Instant) (c : Ctl) (s : Slot) (ok : Bool)
  /-- FRAME_SLOT (R910). At each 10 us slot the controller transmits setpoint frames to every cartridge link. -/
  | frameSlot (t : Instant) (c : Ctl)
  /-- CART_HOLD_EXPIRY (R186). No valid frame from the claim holder for CART_HOLD; the cartridge enters limp-home. -/
  | cartHoldExpiry (t : Instant) (s : Slot)
  /-- TURN_ON (R207). A new level ON or PWM is applied and the turn-on sequence runs with the profile START. -/
  | turnOn (t : Instant) (c : Ch) (mid serOk : Bool)
  /-- TURN_OFF (R210). A new level OFF or FREEWHEEL is applied and the turn-off sequence starts decay. -/
  | turnOff (t : Instant) (c : Ch)
  /-- DECAY_CURRENT_LOW (R210). Load current falls below 50 mA; freewheel and series switches open. -/
  | decayCurrentLow (t : Instant) (c : Ch) (ma : MilliAmp)
  /-- DECAY_CAP (R210). 20 ms after SLOW decay began, the freewheel switch turns off. -/
  | decayCap (t : Instant) (c : Ch) (ma : MilliAmp)
  /-- OFF_STATE_TEST (R217). 500 ms after OFF and then every 1 s the open-load test runs. -/
  | offStateTest (t : Instant) (c : Ch) (mv0 mv1 : MilliVolt)
  /-- ON_STATE_OPEN_LOAD (R219). The average stays below OL_ON_I for 1 s, or above it for 1 s, setting or clearing OPEN_LOAD. -/
  | onStateOpenLoad (t : Instant) (c : Ch)
  /-- REVERSE (R214). Shunt current below -2 A for 2 us turns the switches off. -/
  | reverse (t : Instant) (c : Ch) (ma : MilliAmp)
  /-- REVERSE_HOLD_END (R215). 100 ms after a REVERSE turn-off the channel turns on afresh. -/
  | reverseHoldEnd (t : Instant) (c : Ch)
  /-- REVERSE_FLAG_CLEAR (R215). REVERSE clears after 10 s with no further event. -/
  | reverseFlagClear (t : Instant) (c : Ch)
  /-- START_END (R229). A profile START ends by its timer or condition and RUN or HOLD begins. -/
  | startEnd (t : Instant) (c : Ch) (mv : MilliVolt)
  /-- PRECHARGE_TIMEOUT (R229). OUT has not reached 90 % within PRE_T; the channel trips. -/
  | prechargeTimeout (t : Instant) (c : Ch) (mv : MilliVolt)
  /-- PRECHARGE_ENERGY (R229). Precharge dissipation exceeds 5 J; the channel trips. -/
  | prechargeEnergy (t : Instant) (c : Ch) (mj : Nat)
  /-- HEATER_DRIFT (R229). Element resistance out of tolerance for 10 s sets HEATER_DRIFT, or 10 s back clears it. -/
  | heaterDrift (t : Instant) (c : Ch) (mv : MilliVolt)
  /-- HARD_SHORT (R251). A hard-short comparator crosses 90 A and the forward switch is discharged at once. -/
  | hardShort (t : Instant) (c : Ch) (shunt mirror : MilliAmp)
  /-- REGULATION_ENGAGE (R246). Current crosses the limit in force and regulation engages. -/
  | regulationEngage (t : Instant) (c : Ch) (ma : MilliAmp)
  /-- REGULATION_END (R247). Regulation ends and LIMITING clears. -/
  | regulationEnd (t : Instant) (c : Ch) (ma : MilliAmp) (enhanced : Nat) (period : Bool)
  /-- LIMIT_TIME (R248). The limit timer reaches LIM_T; the channel trips. -/
  | limitTime (t : Instant) (c : Ch)
  /-- LIMIT_TIMER_RESET (R248). 100 ms without regulation resets the limit timer. -/
  | limitTimerReset (t : Instant) (c : Ch)
  /-- WIRE_I2T (R253). The 1 ms wire model update reaches 1.0; the channel trips. -/
  | wireI2t (t : Instant) (c : Ch)
  /-- STUCK_ON (R257). The MID comparator stays asserted for its time; the series switch disconnects and the channel locks out. -/
  | stuckOn (t : Instant) (c : Ch) (ns conf : Nat) (intervals : Nat)
  /-- DISCONNECT_FAILED (R282). The series switch does not confirm off within 20 us of a stuck-on disconnect. -/
  | disconnectFailed (t : Instant) (c : Ch) (ns : Nat)
  /-- STUCK_OFF (R260). SW stays below half the bus with both switches on; the channel locks out. -/
  | stuckOff (t : Instant) (c : Ch) (sw : MilliVolt) (ns : Nat) (intervals : Nat)
  /-- GATE_MON_FAULT (R999). The gate monitor fails to follow a command; stuck checks are suspended. -/
  | gateMonFault (t : Instant) (c : Ch) (ns : Nat)
  /-- RETRY_ATTEMPT (R266). A retry attempt falls due with its gates open and turns the channel on or ends the trip. -/
  | retryAttempt (t : Instant) (c : Ch)
  /-- RETRY_COUNTER_RESET (R267). The attempt counter resets after 60 s or the last interval without a trip. -/
  | retryCounterReset (t : Instant) (c : Ch)
  /-- PROT_STATE_SAVE (R283). Every 1 s the cartridge stores x, n, trip state and interval in MRAM. -/
  | protStateSave (t : Instant) (s : Slot)
  /-- PERIOD_BOUNDARY (R297). A PWM period boundary passes pending settings, forward on edge and ramp steps. -/
  | periodBoundary (t : Instant) (c : Ch)
  /-- PWM_COMPARE (R290). The counter reaches the on-time and the forward off command is issued. -/
  | pwmCompare (t : Instant) (c : Ch)
  /-- FREEWHEEL_ON (R312). SW falls below 2 V or the 500 ns ceiling passes and the freewheel switch turns on. -/
  | freewheelOn (t : Instant) (c : Ch) (sw : MilliVolt) (ns : Nat) (fwdOff : Bool)
  /-- FREEWHEEL_OFF_AHEAD (R313). Before the forward on edge the freewheel is commanded off, with FW_SKIP after 500 ns. -/
  | freewheelOffAhead (t : Instant) (c : Ch) (offNs waitNs : Nat)
  /-- FREEWHEEL_LOW_CURRENT (R314). Freewheel current falls below 50 mA and the freewheel switch turns off. -/
  | freewheelLowCurrent (t : Instant) (c : Ch) (ma : MilliAmp)
  /-- SW_CMP_FAULT (R339). The switching-node comparator reaches the ceiling every interval above 1 A for 1 s. -/
  | swCmpFault (t : Instant) (c : Ch) (ma : MilliAmp) (ceiling : Bool)
  /-- TRIGGER_FIRE (R318). The counter equals TRG_POS and both measurement paths are sampled. -/
  | triggerFire (t : Instant) (c : Ch) (trgB : Bool) (u1 u2 : Int)
  /-- BLANK_WINDOW_START (R322). An auxiliary timer starts at its event and blanks its consumers. -/
  | blankWindowStart (t : Instant) (s : Slot) (k : Fin 4) (src : Fin 4) (event : Fin 4)
  /-- BLANK_WINDOW_END (R323). An auxiliary timer window expires and blanking ends. -/
  | blankWindowEnd (t : Instant) (s : Slot) (k : Fin 4)
  /-- DELAY_LINE_CALIBRATION (R308). Every 1 ms each delay line is calibrated and DLY_FAULT set or cleared. -/
  | delayLineCalibration (t : Instant) (c : Ch) (n : Nat)
  /-- DEBUG_RESUME (R964). A halt ends by command, S50 RUN, X50 detach, lever or DARK, and the engine resumes. -/
  | debugResume (t : Instant) (s : Slot)
  /-- AVERAGE_INTERVAL_END (R349). A 1 ms, 100 ms or 1 s averaging interval ends at a unit-time multiple. -/
  | averageIntervalEnd (t : Instant) (c : Ch) (k : Fin 3) (x : List SampleIn) (mirror : MilliAmp)
  /-- LATCH_INSTANT (R355). At latch instant T every claimed cartridge forms a latch sample. -/
  | latchInstant (t : Instant) (k : Slot) (x : Vector SampleIn 4)
  /-- LATCH_COMPLETE (R618). 2 ms after T the latch completes and becomes readable. -/
  | latchComplete (t : Instant)
  /-- ENERGY_SAVE (R356). Every 1 s the cartridge writes its energy accumulator to MRAM. -/
  | energySave (t : Instant) (s : Slot)
  /-- VISIT_START (R363). A wedging visit starts at its place in the 10 s cycle. -/
  | visitStart (t : Instant) (s : Slot) (pos : Fin 4)
  /-- VISIT_END (R361). A 2 s visit ends and each path's result is accepted or rejected. -/
  | visitEnd (t : Instant) (k : Slot)
  /-- VISIT_ABANDONED (R364). A visit is abandoned on OPENED, FROZEN, bus band or saturation. -/
  | visitAbandoned (t : Instant) (s : Slot) (sat : Bool)
  /-- OFFSET_LEARN (R366). After 100 ms OFF with series open, the next 100 ms mean is taken as external offset. -/
  | offsetLearn (t : Instant) (c : Ch)
  /-- PATH_COMPARISON (R369). Every 100 ms the controllers compare the two paths and set the crazing flag at the tenth disagreement. -/
  | pathComparison (t : Instant) (c : Ch)
  /-- CRAZING_CLEAR (R371). After 60 s of agreement the crazing flag clears. -/
  | crazingClear (t : Instant) (c : Ch)
  /-- PATH_FAIL (R1000). A path dead, stuck or saturated is excluded, or returns alone after 1 s. -/
  | pathFail (t : Instant) (c : Ch) (path2 bad : Bool)
  /-- VOLTAGE_CALIBRATION (R375). Every 100 ms each voltage input is corrected from the 10 V calibration level. -/
  | voltageCalibration (t : Instant) (s : Slot) (input : Fin 9) (uv : Int)
  /-- SHARING_LOOP (R396). Every 1 ms the controller adjusts twin trim and checks share and alignment. -/
  | sharingLoop (t : Instant) (p : Pair) (drift : Int)
  /-- TWIN_UNBALANCED (R416). Trim at 300 mV for 1 s raises TWIN_UNBALANCED. -/
  | twinUnbalanced (t : Instant) (p : Pair)
  /-- LEVER_OPEN (R410). A cartridge lever switch opens; REMOVING is set and its channels turn off. -/
  | leverOpen (t : Instant) (s : Slot)
  /-- LEVER_CLOSE (R410). A seated cartridge's lever switch closes again and REMOVING clears. -/
  | leverClose (t : Instant) (s : Slot)
  /-- LEFT (R410). All switches of a withdrawing cartridge are confirmed off and LEFT is reported. -/
  | left (t : Instant) (s : Slot)
  /-- SLOT_LEFT (R411). Status frames of a LEFT cartridge stop and SLOT_LEFT is logged. -/
  | slotLeft (t : Instant) (s : Slot)
  /-- SLOT_LOST (R419). A cartridge is drawn without the lever and its partner takes the load. -/
  | slotLost (t : Instant) (s : Slot)
  /-- TWIN_JOIN (R413). A reinserted half joins when its partner enters RUN or HOLD. -/
  | twinJoin (t : Instant) (c : Ch)
  /-- LOOP_UPDATE (R463). Every 10 ms the ACTIVE recomputes each loop output. -/
  | loopUpdate (t : Instant) (q : Quad)
  /-- TAKE (R468). A TAKE rising edge ramps the loop stages over 5 ms between controllers. -/
  | take (t : Instant) (c : Ctl)
  /-- LOOP_STAGE_TIMEOUT (R470). A stage without update or TAKE for 10 ms ramps to no current. -/
  | loopStageTimeout (t : Instant) (c : Ctl) (q : Quad)
  /-- COMPLIANCE (R466). Shortfall beyond 0.05 mA for 50 ms raises COMPLIANCE. -/
  | compliance (t : Instant) (c : Ctl) (q : Quad) (ua : Nat) (mv : MilliVolt)
  /-- LOOP_PROBE (R467). Every 1 s under FAIL_LOW the stage probes 3.6 mA and predicts terminal voltage. -/
  | loopProbe (t : Instant) (q : Quad) (mv35 mv36 : MilliVolt)
  /-- LOOP_HOST_TMO (R461). LOOP_HOST_TMO elapses since the last SET_LOOP and the source becomes invalid. -/
  | loopHostTmo (t : Instant) (q : Quad)
  /-- TACH_EDGE (R472). A rising edge on a TACH input is timestamped. -/
  | tachEdge (t : Instant) (q : Quad)
  /-- TACH_EVALUATION (R474). Every 100 ms the speed is computed and the input state evaluated. -/
  | tachEvaluation (t : Instant) (q : Quad)
  /-- TACH_SPINUP_END (R475). TACH_SPINUP ends without RUNNING and the input is classified. -/
  | tachSpinupEnd (t : Instant) (q : Quad)
  /-- TACH_STALL (R477). STALLED with TRIP commits a TACH_STALL trip to the bound channel. -/
  | tachStall (t : Instant) (q : Quad)
  /-- TACH_OVERRANGE (R480). A signal above 2000 Hz or with short phases raises TACH_OVERRANGE. -/
  | tachOverrange (t : Instant) (q : Quad) (above : Bool)
  /-- TIME_EVALUATION (R724). Every 1 s the ACTIVE evaluates sources, steers and logs state changes. -/
  | timeEvaluation (t : Instant) (c : Ctl)
  /-- SOURCE_QUALIFIED (R718). A source's condition holds for 10 s and it qualifies. -/
  | sourceQualified (t : Instant) (c : Ctl) (ptp : Bool)
  /-- TIME_STEP (R726). Unit time is stepped in the window after a PPS edge. -/
  | timeStep (t : Instant) (c : Ctl)
  /-- TIME_ARBITRATION (R741). 10 s after the third disagreement the winner source is chosen. -/
  | timeArbitration (t : Instant) (c : Ctl) (oneBand : Bool)
  /-- SUSPECT_EXPIRY (R739). A SUSPECT source is evaluated afresh after 10 min. -/
  | suspectExpiry (t : Instant) (c : Ctl) (ptp : Bool)
  /-- HOLDOVER_EXPIRY (R730). 4 h after entry holdover ends and the state becomes RTC. -/
  | holdoverExpiry (t : Instant) (c : Ctl)
  /-- TAI_UTC_CHANGE (R25). An announced TAI-UTC change takes effect at its unit time. -/
  | taiUtcChange (t : Instant) (c : Ctl)
  /-- PPS_EDGE (R731). A PPS_OUT edge is emitted at a whole second in LOCKED or HOLDOVER. -/
  | ppsEdge (t : Instant) (c : Ctl)
  /-- TIME_REPORT (R735). The ACTIVE forms and sends the TIME_REPORT for the next edge. -/
  | timeReport (t : Instant) (c : Ctl) (f : Nat)
  /-- PPS_DELAY_CALIBRATION (R732). Every 1 ms the PPS delay line is calibrated. -/
  | ppsDelayCalibration (t : Instant) (c : Ctl) (n : Nat)
  /-- TIME_PAIR_DIFF (R738). Controller times differ above 1 us for 1 s, or clear after 10 s. -/
  | timePairDiff (t : Instant)
  /-- TCXO_FAIL (R743). A failed TCXO puts the controller in FAULTED. -/
  | tcxoFail (t : Instant) (c : Ctl) (noEdges : Bool) (ppmRtc ppmGnss : Nat)
  /-- SAMPLE_FRAME (R749). A 100 us GNSS sample frame arrives and is checked or erased. -/
  | sampleFrame (t : Instant) (c : Ctl) (ok agcLimit : Bool) (magPct : Nat) (ppm : Int) (agc1 agc5 : Nat) (dumps : List Dump)
  /-- ACQUISITION_SEARCH (R754). An FFT search of a satellite completes and succeeds or fails. -/
  | acquisitionSearch (t : Instant) (c : Ctl) (k : Tracker) (peak next : Nat) (code : Nat) (bin : Fin 41)
  /-- HAND_OVER (R755). The second band locks, or is abandoned after 500 ms and retried every 10 s. -/
  | handOver (t : Instant) (c : Ctl) (k : Tracker) (locked : Bool) (cand : Fin 4) (cn0 : Nat)
  /-- LOSS_OF_LOCK (R758). A band below its thresholds for 1 s loses lock; after 10 s the tracker is released. -/
  | lossOfLock (t : Instant) (c : Ctl) (k : Tracker) (b : Band) (cn0 pli : Nat)
  /-- SIDE_PEAK_SHIFT (R758). An E1-C VE or VL above prompt for 100 ms shifts the replica by one chip. -/
  | sidePeakShift (t : Instant) (c : Ctl) (k : Tracker) (late : Bool) (side prompt : Nat)
  /-- MEASUREMENT_EPOCH (R761). At each epoch all trackers are latched and position and time solved. -/
  | measurementEpoch (t : Instant) (c : Ctl) (obs : List TrkObs)
  /-- SPECTRAL_MONITOR (R774). Every 100 ms notches engage or release and the jamming indicator is computed. -/
  | spectralMonitor (t : Instant) (c : Ctl) (b : Band) (khz : Int) (above : Nat) (track0 track1 : Nat) (power : Int)
  /-- EPHEMERIS_DECODED (R766). A complete ephemeris set is checked and stored. -/
  | ephemerisDecoded (t : Instant) (c : Ctl) (sat : Nat) (ref : UnitTime) (healthy ok : Bool)
  /-- ALMANAC_WRITE (R767). Almanac and UTC data are written to MRAM at most every 10 min. -/
  | almanacWrite (t : Instant) (c : Ctl) (tai : Option (Int × Option (Int × UnitTime)))
  /-- SNAP_STORED (R780). A capture's samples are stored and the reply is sent. -/
  | snapStored (t : Instant) (c : Ctl) (data : Bytes)
  /-- SNAP_PROCESSED (R784). On-chip processing of a capture completes and the results file is held. -/
  | snapProcessed (t : Instant) (c : Ctl) (found : List SnapSat)
  /-- SCHEDULED_CAPTURE (R781). At each SNAP_INTERVAL multiple a capture is made or SNAP_SKIPPED logged. -/
  | scheduledCapture (t : Instant) (c : Ctl)
  /-- FFT_SELF_TEST (R793). The FFT known-vector test runs every 24 h. -/
  | fftSelfTest (t : Instant) (c : Ctl) (pass : Bool)
  /-- GNSS_CARD_PRESENCE (R795). The GNSS card is inserted or removed. -/
  | gnssCardPresence (t : Instant) (present : Bool)
  /-- ANT_OPEN (R100). Antenna current below 3 mA for 1 s raises ANT_OPEN. -/
  | antOpen (t : Instant) (ma : Nat)
  /-- ANT_SHORT (R100). Antenna current at limit for 100 ms switches bias off for 10 s. -/
  | antShort (t : Instant) (ma : Nat)
  /-- ANT_BIAS_REAPPLY (R100). Bias is reapplied 10 s after an ANT_SHORT. -/
  | antBiasReapply (t : Instant)
  /-- LOG_RECORD (R804). A log record is formed and admitted to the write queue or lost. -/
  | logRecord (t : Instant) (code flags source object : Nat) (body : Bytes)
  /-- LOSS (R805). A LOSS record is formed when the queue next holds fewer than 56 records. -/
  | loss (t : Instant)
  /-- VOYAGE (R808). A ballast channel changes conduction and the cartridge forms a voyage entry. -/
  | voyage (t : Instant) (c : Ch)
  /-- VOYAGE_ACK (R808). The written voyage record is acknowledged to the cartridge. -/
  | voyageAck (t : Instant) (s : Slot)
  /-- MIRROR_GAP_TIMEOUT (R813). A log index gap open 1 ms puts the standby into STANDBY_UNSYNCED. -/
  | mirrorGapTimeout (t : Instant) (c : Ctl)
  /-- LINE_SAMPLE (R821). Every 1 ms each LH and FLT line is classified. -/
  | lineSample (t : Instant) (w : Part) (i : Fin 10) (lineMv railMv : Nat)
  /-- CONTACT_CHANGE (R822). Ten samples in the new contact class accept the change. -/
  | contactChange (t : Instant) (w : Part) (i : Fin 10)
  /-- LINE_STATE (R822). Line open or short is declared after 50 samples or ends after 500. -/
  | lineState (t : Instant) (w : Part) (i : Fin 10)
  /-- FLT_ASSERT (R823). A fault input comparator indicates for 100 ns and glaze or OPEN forces act. -/
  | fltAssert (t : Instant) (s : Slot) (i : Fin 2) (k : Nat) (ns : Nat)
  /-- FLT_RELEASE (R828). The comparator has not indicated for 1 ms; OPEN stops governing. -/
  | fltRelease (t : Instant) (s : Slot) (i : Fin 2) (k : Nat) (ns : Nat)
  /-- LIMP_DEMAND (R831). Every 1 ms each channel demands a level from its table and applies changes. -/
  | limpDemand (t : Instant) (s : Slot)
  /-- SOAK_END (R837). The soak interval expires and the new level is adopted. -/
  | soakEnd (t : Instant) (c : Ch)
  /-- HANDOVER_RAMP_END (R839). The handover ramp ends and the new level applies in full. -/
  | handoverRampEnd (t : Instant) (c : Ch)
  /-- HEARTBEAT_SEND (R853). Every 250 us each controller sends a heartbeat on both lanes. -/
  | heartbeatSend (t : Instant) (c : Ctl)
  /-- HEARTBEAT (R853). A peer heartbeat is received with state, time and pending records. -/
  | heartbeat (t : Instant) (c : Ctl) (lane0 lane1 : Bool)
  /-- HEARTBEAT_MISSED (R854). A 250 us window passes without a valid heartbeat; lanes go down after 4. -/
  | heartbeatMissed (t : Instant) (c : Ctl) (peerPowered : Bool)
  /-- FAIL_N (R855). The peer's FAIL_N line asserts or releases. -/
  | failN (t : Instant) (c : Ctl) (asserted : Bool)
  /-- LOCKSTEP_MISMATCH (R855). The lockstep cores disagree; FAIL_N asserts and the controller resets. -/
  | lockstepMismatch (t : Instant) (c : Ctl) (selfTest : Bool)
  /-- WATCHDOG_EXPIRY (R855). The watchdog expires; FAIL_N asserts and the controller resets. -/
  | watchdogExpiry (t : Instant) (c : Ctl) (selfTest : Bool)
  /-- FAILOVER (R879). A standby declares the ACTIVE lost and takes over the cartridges. -/
  | failover (t : Instant) (c : Ctl)
  /-- PREPARE (R860). The standby receives PREPARE, writes PREPARED and answers PREP_ACK. -/
  | prepare (t : Instant) (jsn : Nat)
  /-- PREP_ACK (R860). The ACTIVE receives PREP_ACK, writes COMMITTED and sends COMMIT. -/
  | prepAck (t : Instant) (jsn : Nat)
  /-- COMMIT (R860). The standby receives COMMIT, writes COMMITTED and answers COMMIT_ACK. -/
  | commit (t : Instant) (jsn : Nat)
  /-- COMMIT_ACK (R861). The ACTIVE receives COMMIT_ACK and releases the transaction's effect. -/
  | commitAck (t : Instant) (jsn : Nat)
  /-- MIRROR_TIMEOUT (R863). An acknowledgement missing 1 ms puts the standby in STANDBY_UNSYNCED. -/
  | mirrorTimeout (t : Instant)
  /-- STATE_DIGEST (R872). Every 100 ms the ACTIVE sends a state digest tagged with a JSN. -/
  | stateDigest (t : Instant)
  /-- DIGEST_MISMATCH (R872). The standby's digest differs at the same JSN; it becomes STANDBY_UNSYNCED. -/
  | digestMismatch (t : Instant)
  /-- RESYNC_COMPLETE (R873). The standby completes resynchronisation and reaches STANDBY_SYNCED. -/
  | resyncComplete (t : Instant)
  /-- JOIN_COMPLETE (R874). A joining controller finishes copying and reaches STANDBY_SYNCED. -/
  | joinComplete (t : Instant)
  /-- HANDOFF (R886). The peer receives HANDOFF and claims the cartridges to become ACTIVE. -/
  | handoff (t : Instant)
  /-- AUTO_ROLE_SWAP (R888). A cartridge link silent 100 us starts an automatic role swap. -/
  | autoRoleSwap (t : Instant)
  /-- SPLIT_REELECT (R895). A HOLD controller whose peer is unpowered or failed for 10 s re-enters ELECTING. -/
  | splitReelect (t : Instant) (c : Ctl) (peerPowered : Bool)
  /-- CONTROLLER_LEVER_OPEN (R944). A controller's lever switch opens and it enters SERVICE. -/
  | controllerLeverOpen (t : Instant) (c : Ctl)
  /-- LEVER_WAIT_EXPIRY (R945). An ACTIVE without standby, lever open 10 s, enters SERVICE. -/
  | leverWaitExpiry (t : Instant) (c : Ctl)
  /-- CONTROLLER_LEVER_CLOSE (R946). A SERVICE controller's lever closes and it enters ELECTING. -/
  | controllerLeverClose (t : Instant) (c : Ctl)
  /-- CODE_PLUG_CHECK (R954). Every 1 s the plug socket is checked for removal or a blank plug. -/
  | codePlugCheck (t : Instant) (c : Ctl) (k : Socket)
  /-- S50_CHANGE (R960). S50 is turned between RUN and ENABLE. -/
  | s50Change (t : Instant) (enable : Bool)
  /-- X50_ATTACH (R957). The attached controller on X50 changes and the new one attaches after 200 ms. -/
  | x50Attach (t : Instant) (cable : Bool)
  /-- SCRUB_PASS (R930). A scrub pass completes and the next starts at once. -/
  | scrubPass (t : Instant) (w : Part) (mram sram : Nat)
  /-- DOUBLE_BIT_ERROR (R931). A read or scrub finds a double-bit error, handled by region. -/
  | doubleBitError (t : Instant) (w : Part) (addr : Nat)
  /-- SERIES_TEST (R929). Once per 24 h each OFF channel runs the series test. -/
  | seriesTest (t : Instant) (c : Ch) (out mid : MilliVolt)
  /-- DAILY_SELFTEST (R932). Every 24 h the ACTIVE sets HS_SELFTEST_NOW on each claimed cartridge. -/
  | dailySelftest (t : Instant) (c : Ctl)
  /-- WIN_POLL (R698). A window status poll every WIN_POLL reads busy until the operation completes. -/
  | winPoll (t : Instant) (c : Ctl) (status : Nat)
  /-- WIN_TIMEOUT (R699). Busy persists past the operation time-out; HW_FAULT DEVICE. -/
  | winTimeout (t : Instant) (c : Ctl) (status : Nat)
  /-- WIN_PROBE (R702). The window device is probed for identification and SFDP parameters. -/
  | winProbe (t : Instant) (c : Ctl) (p : ProbeIn)
  /-- EXP_SUPPLY (R708). The 3V3 supply at its limit for 100 ms raises EXP_SUPPLY. -/
  | expSupply (t : Instant) (ma : Nat)
  /-- LOGIC_RAIL_DIP_ONSET (R129). The logic rail falls below 16 V; the backup domain changes over to the cell within 10 us, a running cell load test is removed, and the 15 ms … -/
  | logicRailDipOnset (t : Instant) (c : Ctl) (mv : MilliVolt) (store : Nat)
  /-- PPS_PULSE_END (R731). 100 ms after an emitted edge, PPS_OUT returns low on the logic output and to B above A on RS-422. -/
  | ppsPulseEnd (t : Instant) (c : Ctl)
  /-- SPI_TRANSACTION_END (R691). The running SPI transaction ends, its select is released, its reply is sent, and the next queued transaction or a pending configuration change may … -/
  | spiTransactionEnd (t : Instant) (c : Ctl) (rx : Bytes)
  /-- ENERGY_COUNTER_WRITE (R383). Every 60 s each controller writes its energy counters to MRAM. -/
  | energyCounterWrite (t : Instant) (c : Ctl)
  /-- NOT_APPLIED (R604). A committed channel command whose cartridge has not reported its JSN within 5 ms of the carrying frame slot is answered HW_FAULT with detail … -/
  | notApplied (t : Instant) (jsn : Nat)
  /-- BUS_COLLISIONS (R519). A port's collision rate above 100 per second for 10 s raises BUS_COLLISIONS, and below 10 per second for 60 s clears it. -/
  | busCollisions (t : Instant) (c : Ctl) (p : Bus) (rate : Nat)
  /-- PLCA_DEGRADED_CLEAR (R519). 60 s without a beacon loss clears PLCA_DEGRADED. -/
  | plcaDegradedClear (t : Instant) (c : Ctl) (p : Bus)
  /-- ADDR_CONFLICT_CLEARED (R519). 60 s without a conflicting ARP ends ADDR_CONFLICT and its 10 s gratuitous ARP defence. -/
  | addrConflictCleared (t : Instant) (c : Ctl) (p : Bus)
  /-- ANT_OPEN_CLEARED (R100). Antenna current above 5 mA for 1 s clears ANT_OPEN, with the clearing logged. -/
  | antOpenCleared (t : Instant) (ma : Nat)
  /-- ANT_SHORT_CLEARED (R100). Bias reapplied for 1 s without reaching the 60 mA limit clears ANT_SHORT. -/
  | antShortCleared (t : Instant) (ma : Nat)
  /-- EXP_SUPPLY_CLEARED (R708). The X40 3V3 supply below its limit for 1 s clears EXP_SUPPLY. -/
  | expSupplyCleared (t : Instant) (ma : Nat)
  /-- CARTRIDGE_LINK_LOSS (R927). A cartridge's status frames stop on the standby's link for 100 us, and the loss is reported as MODE_CHANGE. -/
  | cartridgeLinkLoss (t : Instant) (c : Ctl) (s : Slot)
deriving DecidableEq, Repr

end Sys2Proof
end

