-- ==== Sys2Proof/Decode.lean ====
section
/-!
DEFINITION. Decode.lean: the commands that a word of the opcode table's bits spells. No row of the table gives bits: a command is an event
at a pin, a port or a register, and not a word (log entry 5). The packets, records and register words that the spec does encode are read
where they arrive (Machine/Datagram.lean, Machine/RegCmds.lean).
-/
namespace Sys2Proof

/-- The command that a word of `nbits` bits spells: none, because no row of the table gives bits. -/
def decodeTableWord (_nbits _w : Nat) : Option Instr := none

end Sys2Proof
end

