-- ==== Sys2Proof/Config.lean ====
section
/-!
DEFINITION. Config.lean: what an implementation fixes and the spec leaves open, and the free values. Every constant here is
opaque: it has no value that a proof could use, so a statement holds whatever it is (log entry 6).
-/
namespace Sys2Proof

/-- The free values of the model, by the number of the draw: a value the spec does not give. Log entry 6. -/
opaque Config.freeNat : Nat → Nat

/-- The Ed25519 signature of an image verifies under the signing key of this index, over these header bytes 0 to 63 and this
body (R164). The spec names the keys and does not give them. Log entry 9. -/
opaque Config.signatureOk : (key : Nat) → (header body signature : Bytes) → Bool

/-- The UNIT_MAC derived from a unit serial number (R492: derived, by a rule the spec does not give). Log entry 9. -/
opaque Config.unitMac : Bytes → Nat

/-- The factory MAC address of a PHY, by controller serial number and port (R494). Log entry 9. -/
opaque Config.phyMac : Bytes → Bus → Nat

/-- The identification field of an IPv4 datagram that the unit sends, by its body: with DF set it identifies nothing, and no rule gives it. Log entry 9. -/
opaque Config.ipIdent : Bytes → Fin 65536

/-- The GNSS card is of issue B and not of issue A (R1 gives both). Log entry 9. -/
opaque Config.gnssIssueB : Bool

/-- The hardware issue letter of a part by its part code of R595 (R1): the code plug (2) and the fan tray (9) of issue B, the cells (11, 12)
of issue A, and the GNSS card (10) of issue A or B. -/
def Config.partIssue (part : Nat) : Nat :=
  if part = 2 ∨ part = 9 then 0x42 else if part = 10 then (if Config.gnssIssueB then 0x42 else 0x41) else 0x41

/-- The serial number of such a part, 12 bytes, by its part code: no rule gives it. Log entry 9. -/
opaque Config.partSerial : Nat → Bytes

/-- The estimated error reported while unit time is UNSET (R730 gives none). Log entry 9. -/
opaque Config.unsetError : Nat

/-- Damping of the steering loop in thousandths (R725 gives its order and its time constant alone). Log entry 9. -/
opaque Config.loopDamping : Nat

/-- The noise floor that the GNSS card has stored for a band, 0.1 dB (R776). Log entry 9. -/
opaque Config.cardFloor : Band → Int

/-- The baseband version of GNSS_ID (R661). Log entry 9. -/
opaque Config.basebandVersion : Nat

/-- What lies at an MRAM address that no rule places, as a region code and an index in it: 0 image, 1 configuration copy, 2 boot record copy,
3 client key, 4 identity copy, 5 event log, 6 energy and lifetime counters, anything else unused. Log entry 9. -/
opaque Config.mramRegion : Nat → Nat

/-- The index in that region. Log entry 9. -/
opaque Config.mramIndex : Nat → Nat

/-- What lies at an address of cartridge MRAM: 0 configuration items, 1 protection state, 2 limp set, anything else another store. Log
entry 9. -/
opaque Config.cartRegion : Nat → Nat

/-- The forecast of R576, in µs, before it is brought into its range: the bound's code, the client and the instant. The spec
gives the basis of the forecast and leaves its making open where the release of the resource is not scheduled. Log entry 9. -/
opaque Config.forecast : Nat → Client → Instant → Nat

/-- The place of the second tap of the proof source's sequence among those of a 15-bit register that a trinomial makes maximal-length (R360 names
the length alone). Log entry 67. -/
opaque Config.chopTap : Fin 6

/-- The state with which that register starts each visit, less 1 (R360 gives none). Log entry 67. -/
opaque Config.chopSeed : Fin 32767

/-- The natural share of the lower half of a twin that carries trim, 0.01 %: the trim of the lower half less that of the higher, mV, the duty and the
half currents, mA (R398 names what it is computed from, and not how). Log entry 74. -/
opaque Config.naturalShare : (trim : Int) → (duty : Nat) → (low high : Int) → Nat

/-- Group delay that the GNSS card has stored for a band, ps (R750). Log entry 9. -/
opaque Config.cardDelay : Band → Int

/-- The gains of the tracking loops, in thousandths: 0 to 2 of the third-order PLL from the highest derivative down, 3 and 4 of the second-order FLL. The
spec gives the order and the noise bandwidth of each, which leave its damping open (R757). Log entry 72. -/
opaque Config.loopGain : Nat → Int

/-- Doppler in µHz predicted for a satellite on a band, from its ephemeris or almanac, the last good position and the card clock, at an instant
(R753). Log entry 72. -/
opaque Config.predictDoppler : (sat : Nat) → Band → (lat lon height ppm : Int) → UnitTime → Int

/-- Elevation in 0.1 ° predicted for a satellite (R754). Log entry 72. -/
opaque Config.predictElev : (sat : Nat) → (lat lon height : Int) → UnitTime → Int

/-- The weighted least-squares solution (R769): from the satellites, whether their ranges are free of the ionosphere, whether the time offset between
the systems is solved, whether the source time is Galileo System Time, and the epoch. The spec names the method and its models and does not give the
weights. Log entry 72. -/
opaque Config.solver : List SatObs → (iono both gst : Bool) → UnitTime → Solution

/-- The coarse-time position of a capture (R784). Log entry 72. -/
opaque Config.coarse : List SnapSat → UnitTime → Solution

end Sys2Proof
end

