-- ==== Sys2Proof/Machine/Bytes.lean ====
section
/-!
DEFINITION. Machine/Bytes.lean: bytes of numbers and numbers of bytes, most significant byte first (R15), and CRC-32.
-/
namespace Sys2Proof.Machine

/-- The `n` low bytes of `v`, most significant first; R15. -/
def be : Nat → Nat → Bytes
  | 0, _ => []
  | n + 1, v => BitVec.ofNat 8 (v >>> (8 * n)) :: be n v

/-- A signed number in `n` bytes, two's complement; R15. -/
def beInt (n : Nat) (v : Int) : Bytes := be n (v % (2 ^ (8 * n) : Nat)).toNat

/-- The number that bytes spell, most significant first; R15. -/
def natOf (b : Bytes) : Nat := b.foldl (fun a x => 256 * a + x.toNat) 0

/-- `n` bytes from offset `o`. -/
def slice (b : Bytes) (o n : Nat) : Bytes := (b.drop o).take n

/-- The unsigned field of `n` bytes at offset `o`. -/
def field (b : Bytes) (o n : Nat) : Nat := natOf (slice b o n)

/-- A number of `n` bits read as two's complement. -/
def toSigned (n v : Nat) : Int := if v < 2 ^ (n - 1) then v else (v : Int) - (2 ^ n : Nat)

/-- The signed field of `n` bytes at offset `o`. -/
def fieldInt (b : Bytes) (o n : Nat) : Int := toSigned (8 * n) (field b o n)

/-- `n` zero bytes. -/
def zeros (n : Nat) : Bytes := List.replicate n 0

/-- Bytes cut or filled with zeros to length `n`. -/
def padTo (n : Nat) (b : Bytes) : Bytes := b.take n ++ zeros (n - b.length)

/-- Twelve ASCII spaces: a serial number that cannot be read; R595. -/
def spaces12 : Bytes := List.replicate 12 0x20

/-- A number brought into the range of `n` unsigned bits by stopping at its ends. -/
def satU (n : Nat) (v : Nat) : Nat := min v (2 ^ n - 1)

/-- A number brought into the range of `n` signed bits by stopping at its ends. -/
def satS (n : Nat) (v : Int) : Int := max (-((2 ^ (n - 1) : Nat) : Int)) (min v ((2 ^ (n - 1) : Nat) - 1))

/-- Bit `i` of a number. -/
def bit (v i : Nat) : Bool := v.testBit i

/-- Bits [`i` + `n` − 1 : `i`] of a number; R8. -/
def bits (v i n : Nat) : Nat := (v >>> i) % 2 ^ n

/-- One bit as a number. -/
def b2n (b : Bool) : Nat := if b then 1 else 0

/-- The mask whose bit `i` is `f i`, for `n` bits. -/
def maskOf (n : Nat) (f : Nat → Bool) : Nat := ((List.range n).map fun i => b2n (f i) <<< i).sum

/-- One bit of the reflected CRC-32 division, polynomial 0x04C1_1DB7. -/
def crcBit (c : Nat) : Nat := if c % 2 = 1 then (c / 2) ^^^ 0xEDB88320 else c / 2

/-- One byte of it. -/
def crcByte (c : Nat) (b : Byte) : Nat :=
  crcBit (crcBit (crcBit (crcBit (crcBit (crcBit (crcBit (crcBit (c ^^^ b.toNat))))))))

/-- CRC-32 over bytes, with the register started at ones and complemented at the end. -/
def crc32 (b : Bytes) : Nat := (b.foldl crcByte 0xFFFFFFFF) ^^^ 0xFFFFFFFF

/-- Sum of 16-bit words in one's complement, a last odd byte taken with a zero: the checksum of IPv4, ICMP and UDP. -/
def sum16 : Bytes → Nat
  | [] => 0
  | [a] => a.toNat * 256
  | a :: b :: l =>
    let n := a.toNat * 256 + b.toNat + sum16 l
    n % 65536 + n / 65536

end Sys2Proof.Machine
end

