-- ==== Sys2Proof/Machine/Crypto.lean ====
section
/-!
DEFINITION. Machine/Crypto.lean: the three published functions the packets rest on: SHA-256 (FIPS 180-4) with HMAC
(RFC 2104) for the tag of R528 and the hashes of R170, R612 and R872, and the AES-256 key unwrap of RFC 3394 for R531.
-/
namespace Sys2Proof.Machine

/-- The 64 round constants of SHA-256, 32 bits each, the first lowest. -/
def shaK : Nat := 0xC67178F2BEF9A3F7A4506CEB90BEFFFA8CC7020884C8781478A5636F748F82EE682E6FF35B9CCA4F4ED8AA4A391C0CB334B0BCB52748774C1E376C0819A4C116106AA070F40E3585D6990624D192E819C76C51A3C24B8B70A81A664BA2BFE8A192722C8581C2C92E766A0ABB650A735453380D134D2C6DFC2E1B213827B70A851429296706CA6351D5A79147C6E00BF3BF597FC7B00327C8A831C66D983E515276F988DA5CB0A9DC4A7484AA2DE92C6F240CA1CC0FC19DC6EFBE4786E49B69C1C19BF1749BDC06A780DEB1FE72BE5D74550C7DC3243185BE12835B01D807AA98AB1C5ED5923F82A459F111F13956C25BE9B5DBA5B5C0FBCF71374491428A2F98

/-- A working state of SHA-256: eight 32-bit words. -/
structure Sha where
  a : Nat := 0x6A09E667
  b : Nat := 0xBB67AE85
  c : Nat := 0x3C6EF372
  d : Nat := 0xA54FF53A
  e : Nat := 0x510E527F
  f : Nat := 0x9B05688C
  g : Nat := 0x1F83D9AB
  h : Nat := 0x5BE0CD19
deriving DecidableEq, Repr

/-- Rotation of a 32-bit word to the right. -/
def rotr32 (n x : Nat) : Nat := (x >>> n) ||| ((x <<< (32 - n)) % 2 ^ 32)

/-- One more word of the message schedule; the list holds the newest word first. -/
def shaNext (w : List Nat) : List Nat :=
  let x := w.getD 1 0
  let y := w.getD 14 0
  let s1 := rotr32 17 x ^^^ rotr32 19 x ^^^ (x >>> 10)
  let s0 := rotr32 7 y ^^^ rotr32 18 y ^^^ (y >>> 3)
  ((s1 + w.getD 6 0 + s0 + w.getD 15 0) % 2 ^ 32) :: w

/-- The schedule extended by `n` words. -/
def shaSchedule : Nat → List Nat → List Nat
  | 0, w => w
  | n + 1, w => shaSchedule n (shaNext w)

/-- One round with schedule word `w` and constant `k`. -/
def shaRound (s : Sha) (w k : Nat) : Sha :=
  let s1 := rotr32 6 s.e ^^^ rotr32 11 s.e ^^^ rotr32 25 s.e
  let ch := (s.e &&& s.f) ^^^ ((2 ^ 32 - 1 - s.e) &&& s.g)
  let t1 := s.h + s1 + ch + k + w
  let s0 := rotr32 2 s.a ^^^ rotr32 13 s.a ^^^ rotr32 22 s.a
  let maj := (s.a &&& s.b) ^^^ (s.a &&& s.c) ^^^ (s.b &&& s.c)
  { a := (t1 + s0 + maj) % 2 ^ 32, b := s.a, c := s.b, d := s.c, e := (s.d + t1) % 2 ^ 32, f := s.e, g := s.f, h := s.g }

/-- The rounds over a schedule, oldest word first, from round `i` on. -/
def shaRounds (s : Sha) : Nat → List Nat → Sha
  | _, [] => s
  | i, w :: ws => shaRounds (shaRound s w ((shaK >>> (32 * i)) % 2 ^ 32)) (i + 1) ws

/-- One block of 64 bytes, as sixteen words. -/
def shaBlock (s : Sha) (block : Bytes) : Sha :=
  let w := ((List.range 16).map fun i => field block (4 * i) 4).reverse
  let r := shaRounds s 0 (shaSchedule 48 w).reverse
  { a := (s.a + r.a) % 2 ^ 32, b := (s.b + r.b) % 2 ^ 32, c := (s.c + r.c) % 2 ^ 32, d := (s.d + r.d) % 2 ^ 32,
    e := (s.e + r.e) % 2 ^ 32, f := (s.f + r.f) % 2 ^ 32, g := (s.g + r.g) % 2 ^ 32, h := (s.h + r.h) % 2 ^ 32 }

/-- `n` blocks in turn. -/
def shaBlocks (s : Sha) : Nat → Bytes → Sha
  | 0, _ => s
  | n + 1, m => shaBlocks (shaBlock s (m.take 64)) n (m.drop 64)

/-- The message with its padding: a one bit, zeros, and the length in bits over 64 bits. -/
def shaPad (m : Bytes) : Bytes :=
  m ++ [0x80] ++ List.replicate ((119 - m.length % 64) % 64) 0 ++ be 8 (8 * m.length)

/-- SHA-256, 32 bytes. -/
def sha256 (m : Bytes) : Bytes :=
  let p := shaPad m
  let s := shaBlocks {} (p.length / 64) p
  be 4 s.a ++ be 4 s.b ++ be 4 s.c ++ be 4 s.d ++ be 4 s.e ++ be 4 s.f ++ be 4 s.g ++ be 4 s.h

/-- HMAC-SHA-256 under a key of at most 64 bytes; R528. -/
def hmac (key m : Bytes) : Bytes :=
  let k := padTo 64 key
  sha256 (k.map (· ^^^ 0x5C) ++ sha256 (k.map (· ^^^ 0x36) ++ m))

/-- The AES S-box, one byte for each input, the first lowest. -/
def aesS : Nat := 0x16BB54B00F2D99416842E6BF0D89A18CDF2855CEE9871E9B948ED9691198F8E19E1DC186B95735610EF6034866B53E708A8BBD4B1F74DDE8C6B4A61C2E2578BA08AE7A65EAF4566CA94ED58D6D37C8E779E4959162ACD3C25C2406490A3A32E0DB0B5EDE14B8EE4688902A22DC4F816073195D643D7EA7C41744975FEC130CCDD2F3FF1021DAB6BCF5389D928F40A351A89F3C507F02F94585334D43FBAAEFD0CF584C4A39BECB6A5BB1FC20ED00D153842FE329B3D63B52A05A6E1B1A2C830975B227EBE28012079A059618C323C7041531D871F1E5A534CCF73F362693FDB7C072A49CAFA2D4ADF04759FA7DC982CA76ABD7FE2B670130C56F6BF27B777C63

/-- The inverse S-box. -/
def aesInv : Nat := 0x7D0C2155631469E126D677BA7E042B17619953833CBBEBC8B0F52AAE4D3BE0A0EF9CC9939F7AE52D0D4AB519A97F51605FEC8027591012B131C7078833A8DD1FF45ACD78FEC0DB9A2079D2C64B3E56FC1BBE18AA0E62B76F89C5291D711AF1476EDF751CE837F9E28535ADE72274AC9673E6B4F0CECFF297EADC674F4111913A6B8A130103BDAFC1020F3FCA8F1E2CD00645B3B80558E4F70AD3BC8C00ABD890849D8DA75746155EDAB9EDFD5048706C92B6655DCC5CA4D41698688664F6F87225D18B6D49A25B76B224D92866A12E084EC3FA420B954CEE3D23C2A632947B54CBE9DEC444438E3487FF2F9B8239E37CFBD7F3819EA340BF38A53630D56A0952

/-- A byte through the S-box. -/
def subByte (x : Nat) : Nat := (aesS >>> (8 * x)) % 256

/-- A byte through the inverse S-box. -/
def invSubByte (x : Nat) : Nat := (aesInv >>> (8 * x)) % 256

/-- Multiplication by x in the AES field. -/
def xtime (a : Nat) : Nat := if a ≥ 128 then (2 * a) ^^^ 0x11B else 2 * a

/-- Products with the four coefficients of the inverse column mix, as (14, 11, 13, 9). -/
def mulInv (a : Nat) : Nat × Nat × Nat × Nat :=
  let a2 := xtime a
  let a4 := xtime a2
  let a8 := xtime a4
  (a8 ^^^ a4 ^^^ a2, a8 ^^^ a2 ^^^ a, a8 ^^^ a4 ^^^ a, a8 ^^^ a)

/-- Bytewise exclusive or. -/
def xorBytes (a b : List Nat) : List Nat := List.zipWith (· ^^^ ·) a b

/-- One column through the inverse mix. -/
def invMix : List Nat → List Nat
  | [a, b, c, d] =>
    let (ae, ab, ad, a9) := mulInv a
    let (be, bb, bd, b9) := mulInv b
    let (ce, cb, cd, c9) := mulInv c
    let (de, db, dd, d9) := mulInv d
    [ae ^^^ bb ^^^ cd ^^^ d9, a9 ^^^ be ^^^ cb ^^^ dd, ad ^^^ b9 ^^^ ce ^^^ db, ab ^^^ bd ^^^ c9 ^^^ de]
  | l => l

/-- The 16 bytes of a block through the inverse row shift and the inverse S-box. -/
def invShiftSub (s : List Nat) : List Nat :=
  (List.range 16).map fun i => invSubByte (s.getD ((16 + i - 4 * (i % 4)) % 16) 0)

/-- The next word of the AES-256 key schedule after `i` words; the list holds the newest word first. -/
def aesNextKey (i : Nat) (ks : List (List Nat)) : List (List Nat) :=
  let p := ks.getD 0 []
  let t := if i % 8 = 0 then
      xorBytes ((p.drop 1 ++ p.take 1).map subByte) [2 ^ (i / 8 - 1), 0, 0, 0]
    else if i % 8 = 4 then p.map subByte else p
  xorBytes (ks.getD 7 []) t :: ks

/-- The key schedule extended by `n` words from word `i` on. -/
def aesKeys : Nat → Nat → List (List Nat) → List (List Nat)
  | 0, _, ks => ks
  | n + 1, i, ks => aesKeys n (i + 1) (aesNextKey i ks)

/-- The round key of round `r`, 16 bytes, from the schedule with its oldest word first. -/
def aesRoundKey (ks : List (List Nat)) (r : Nat) : List Nat := ((ks.drop (4 * r)).take 4).flatten

/-- The inverse rounds from round `r` down to 1. -/
def aesDown (ks : List (List Nat)) : Nat → List Nat → List Nat
  | 0, s => xorBytes (invShiftSub s) (aesRoundKey ks 0)
  | r + 1, s =>
    let x := xorBytes (invShiftSub s) (aesRoundKey ks (r + 1))
    aesDown ks r (invMix (x.take 4) ++ invMix ((x.drop 4).take 4) ++ invMix ((x.drop 8).take 4) ++ invMix ((x.drop 12).take 4))

/-- Decryption of one block under a 32-byte key. -/
def aes256Dec (key block : List Nat) : List Nat :=
  let w := ((List.range 8).map fun i => (key.drop (4 * i)).take 4).reverse
  let ks := (aesKeys 52 8 w).reverse
  aesDown ks 13 (xorBytes block (aesRoundKey ks 14))

/-- One step of the unwrap: the register A and the blocks R, for step number `t` and block `i` from 0. -/
def unwrapStep (key : List Nat) (t i : Nat) (st : List Nat × List (List Nat)) : List Nat × List (List Nat) :=
  let a := xorBytes st.1 ((be 8 t).map BitVec.toNat)
  let b := aes256Dec key (a ++ st.2.getD i [])
  (b.take 8, st.2.set i (b.drop 8))

/-- The unwrap steps from step number `t` down to 1, for four blocks. -/
def unwrapFrom (key : List Nat) : Nat → List Nat × List (List Nat) → List Nat × List (List Nat)
  | 0, st => st
  | t + 1, st => unwrapFrom key t (unwrapStep key (t + 1) (t % 4) st)

/-- RFC 3394 key unwrap of 40 bytes under a 32-byte key: the 32 bytes, or none when the integrity check fails; R531. -/
def keyUnwrap (kek wrapped : Bytes) : Option Bytes :=
  let w := wrapped.map BitVec.toNat
  let r := (List.range 4).map fun i => (w.drop (8 * (i + 1))).take 8
  let x := unwrapFrom (kek.map BitVec.toNat) 24 (w.take 8, r)
  if wrapped.length = 40 ∧ x.1 = List.replicate 8 0xA6 then some (x.2.flatten.map (BitVec.ofNat 8)) else none

end Sys2Proof.Machine
end

