-- ==== Sys2Proof/Machine/Data/Sent.lean ====
section
/-!
DEFINITION. Machine/Data/Sent.lean: what the unit sends to the outside as the effect of one command. `State.out` holds the
outputs of the latest command; the next command begins with it empty.
-/
namespace Sys2Proof.Machine

/-- A Syaskeg packet that the unit sends (R523): the header fields, the parameters and the tag. -/
structure Packet where
  /-- Flags byte; R524. -/
  flags  : Nat
  /-- Client slot. -/
  client : Client
  /-- Key generation. -/
  gen    : Nat
  /-- Sequence. -/
  seq    : Nat
  /-- Opcode. -/
  opcode : Nat
  /-- Status. -/
  status : Nat
  /-- Unit time. -/
  time   : UnitTime
  /-- Parameters. -/
  params : Bytes
  /-- Tag, 16 bytes; R528. -/
  tag    : Bytes
deriving DecidableEq, Repr

/-- One transaction on X40 (R688 to R690, R694): one assertion of a select. Its bits beyond those of `frames` are dummy cycles or come in. -/
structure SpiTx where
  /-- The select. -/
  sel    : Nat
  /-- EXP_SPI_MODE. -/
  mode   : Nat
  /-- SCK period, ns. -/
  period : Nat
  /-- Bits of a frame. -/
  width  : Nat
  /-- The frames sent, right-justified. -/
  frames : List Nat
  /-- SCK periods from the first frame to the last. -/
  total  : Nat
  /-- Its reference instant, t = 0 of R694. -/
  start  : Instant
deriving DecidableEq, Repr

/-- One output of the unit. -/
inductive Sent where
  /-- A reply: the controller that sends it, the port, the destination, and whether it is sent from UNIT_IP (R563). -/
  | reply (c : Ctl) (via : Via) (dst : Endpoint) (fromUnit : Bool) (p : Packet)
  /-- A stream report on one port (R506, R570). -/
  | report (c : Ctl) (bus : Bus) (dst : Endpoint) (p : Packet)
  /-- An ARP request for an address, from an own address (R499, R507). -/
  | arpRequest (c : Ctl) (bus : Bus) (ip : Nat)
  /-- An ARP reply that gives this MAC for this address (R495). -/
  | arpReply (c : Ctl) (bus : Bus) (ip mac dest : Nat)
  /-- A gratuitous ARP for UNIT_IP with UNIT_MAC (R496). -/
  | gratuitous (c : Ctl) (bus : Bus) (ip mac : Nat)
  /-- An ICMP echo reply, with the identifier and sequence number of its request as 32 bits (R500). -/
  | echo (c : Ctl) (bus : Bus) (src dst id : Nat) (data : Bytes)
  /-- A PLCA beacon with its node count, sent as coordinator of the segment (R491). -/
  | beacon (c : Ctl) (bus : Bus) (count : Nat)
  /-- A PTP Delay_Req (R720). -/
  | delayReq (c : Ctl) (bus : Bus) (seq : Nat)
  /-- The rising edge of PPS_OUT (R731). -/
  | pps (c : Ctl)
  /-- An SPI transaction on X40 (R690). -/
  | spi (c : Ctl) (tx : SpiTx)
deriving DecidableEq, Repr

end Sys2Proof.Machine
end

