-- ==== Sys2Proof/Machine/Data/Channel.lean ====
section
/-!
DEFINITION. Machine/Data/Channel.lean: the state of one channel as its cartridge holds it: the stage and its profile
(chapter 05), the protections and the retry strategy (06), the PWM generator (07), the measurement paths (08), the twin
half (09), and the control sources and the handover (20).
-/
namespace Sys2Proof.Machine

/-- A demanded level, with the codes of R223 and R614 in order: OFF, ON, PWM, FREEWHEEL. -/
inductive Level where
  | off | on | pwm | freewheel
deriving DecidableEq, Repr

/-- The outputs of R205, in the code order of R223. -/
inductive Output where
  | off | on | pwm | freewheel | decay | highZ
deriving DecidableEq, Repr

/-- The profile phases of R226, in the code order of R223. -/
inductive Phase where
  | idle | start | run | hold
deriving DecidableEq, Repr

/-- The control sources of R819, in the code order of R223. -/
inductive Source where
  | host | limp | glaze | open
deriving DecidableEq, Repr

/-- Whether a trip stands: none, TRIPPED with a retry pending, LOCKED_OUT (R220, R264). -/
inductive Trip where
  | none | tripped | locked
deriving DecidableEq, Repr

/-- The generator settings of R288. -/
structure PwmSet where
  /-- PWM_PER; 24 bits; R288; reset 8000. -/
  per    : Nat := 8000
  /-- PWM_CMPA, the word of R292; 32 bits; R288; reset 0. -/
  cmpa   : Nat := 0
  /-- PWM_TRGA, the word of R317; 32 bits; R288; reset 0 (disabled). -/
  trga   : Nat := 0
  /-- PWM_TRGB, the word of R317; 32 bits; R288; reset 0 (disabled). -/
  trgb   : Nat := 0
  /-- PWM_PHASE; 24 bits; R288; reset 0. -/
  phase  : Nat := 0
  /-- ALIGN, set for CENTRE; 1 bit; R288; reset 0 (EDGE). -/
  centre : Bool := false
  /-- STATIC, set for ON; 1 bit; R288; reset 0 (OFF). -/
  static : Bool := false
  /-- EN; 1 bit; R288; reset 1. -/
  en     : Bool := true
deriving DecidableEq, Repr

/-- What a setpoint image carries for one channel (R866, R325). -/
structure Setpoint where
  /-- HOST level; 2 bits; R866; reset OFF (R240, DESIGN CHOICE 3). -/
  level   : Level := .off
  /-- PWM settings; R866; reset by R288. -/
  pwm     : PwmSet := {}
  /-- LIMIT_SHARE in units of one half: 1 for 0.5, 2 for 1.0; R391; reset 2. -/
  share   : Nat := 2
  /-- Trim of the half, mV, 0 to 300; R396; reset 0. -/
  trim    : Nat := 0
  /-- Retry release of the pair; 1 bit; R406; reset 0 (DESIGN CHOICE 3). -/
  release : Bool := false
  /-- Count of the commands of R838 applied to the channel: a changed count is a command of HOST. DESIGN CHOICE 12. -/
  cmds    : Nat := 0
  /-- Count of the SET_PWM applied to the channel, which re-enable a generator also where they change no setting; R304, R339. DESIGN CHOICE 12. -/
  sets    : Nat := 0
deriving DecidableEq, Repr

/-- The switches, the output and the load profile of one channel (chapter 05): the elements of R31 and R200 to R204 that a command or a rule switches. -/
structure Stage where
  /-- Output; 3 bits; R205; reset OFF (R239). -/
  output    : Output := .off
  /-- Phase of the load profile; 2 bits; R226; reset IDLE. -/
  phase     : Phase := .idle
  /-- Cause of the most recent change of output; 8 bits; R224; reset 0x00. -/
  cause     : Nat := 0
  /-- Forward switch commanded on; 1 bit; R205; reset 0. -/
  fwd       : Bool := false
  /-- Series switch commanded on; 1 bit; R205; reset 0. -/
  ser       : Bool := false
  /-- Freewheel switch commanded on; 1 bit; R205; reset 0. -/
  fw        : Bool := false
  /-- Instant OFF was reached; R217; reset 0 (DESIGN CHOICE 3). -/
  offAt     : Instant := 0
  /-- Instant DECAY began; R210; reset 0 (DESIGN CHOICE 3). -/
  decayAt   : Instant := 0
  /-- The decay goes through the freewheel switch (SLOW) and not the clamp; 1 bit; R212; reset 1 (R240). -/
  slow      : Bool := true
  /-- The decay ends in FREEWHEEL and not in OFF; 1 bit; R998; reset 0. -/
  toFw      : Bool := false
  /-- A turn-off has begun and its forward switch is still on: the instant t = 0 of R210 has passed, and no new level stops it; R998; reset 0. -/
  offDue    : Bool := false
  /-- Instant the output last became ON or PWM; R215; reset 0 (DESIGN CHOICE 3). -/
  onAt      : Instant := 0
  /-- Instant START began; R226; reset 0 (DESIGN CHOICE 3). -/
  startAt   : Instant := 0
  /-- A start held back until this instant: the stagger of R119; reset none. -/
  restartAt : Option Instant := none
  /-- End of the 100 ms hold that follows a REVERSE turn-off; R215; reset none. -/
  revUntil  : Option Instant := none
  /-- Instant of the last REVERSE event, for the 10 s of R215; reset 0 (DESIGN CHOICE 3). -/
  revAt     : Instant := 0
  /-- Flag REVERSE; 1 bit; R214; reset 0. -/
  reverse   : Bool := false
  /-- OPEN_LOAD as the off-state test set it; 1 bit; R217; reset 0. -/
  olOff     : Bool := false
  /-- OPEN_LOAD as the on-state check set it; 1 bit; R219; reset 0. -/
  olOn      : Bool := false
  /-- Flag EXT_VOLTAGE; 1 bit; R217; reset 0. -/
  extV      : Bool := false
  /-- Tests in a row that reached step 3 without setting OPEN_LOAD; R218; reset 0. -/
  olClean   : Nat := 0
  /-- Tests in a row that did not set EXT_VOLTAGE; R218; reset 0. -/
  extClean  : Nat := 0
  /-- Instant from which the next off-state test may run; R217; reset 0 (DESIGN CHOICE 3). -/
  testAt    : Instant := 0
  /-- Since when the average has stood on the side of OL_ON_I that would change the flag; R219; reset none. -/
  olSince   : Option Instant := none
  /-- Flag HEATER_DRIFT; 1 bit; R229; reset 0. -/
  drift     : Bool := false
  /-- Since when the element has stood on the side that would change HEATER_DRIFT; R229; reset none. -/
  driftSince : Option Instant := none
  /-- Dissipation integrated during a CAPACITIVE START, mJ; R229; reset 0. -/
  preMj     : Nat := 0
  /-- PROFILE in force for the running phase; R230; reset 0 RESISTIVE (R240). -/
  profile   : Nat := 0
  /-- START parameters in force since START began: INRUSH_LIM, INRUSH_T, LAMP_RAMP, MOT_START_DUTY, MOT_RAMP, PRE_I, PRE_T,
  HIT_T; R230; reset empty. -/
  par       : List Nat := []
  /-- The output was conducting when the last voyage entry was formed; R808; reset 0. -/
  voyOn     : Bool := false
  /-- Start of the running 24 h period of the series test; R929, R938; reset 0. -/
  serTestAt : Instant := 0
  /-- Running time of that period as kept in MRAM while the cartridge is in DARK, ns; R939; reset 0. -/
  serRun    : Nat := 0
  /-- A series test that was due and could not run is retried from here; R929; reset none. -/
  serRetry  : Option Instant := none
deriving DecidableEq, Repr

/-- The protections of one channel and its retry strategy (chapter 06). -/
structure Prot where
  /-- Wire model state x in units of 2^−60; R253; reset 0 (DESIGN CHOICE 3). -/
  x         : Nat := 0
  /-- Regulation is active; 1 bit; R246; reset 0. -/
  reg       : Bool := false
  /-- Flag LIMITING; 1 bit; R247; reset 0. -/
  limiting  : Bool := false
  /-- Limit timer, ns; R248; reset 0. -/
  limTimer  : Nat := 0
  /-- Instant regulation last began or was last counted; R248; reset 0 (DESIGN CHOICE 3). -/
  regAt     : Instant := 0
  /-- Instant regulation last ended; R248; reset 0 (DESIGN CHOICE 3). -/
  regEnd    : Instant := 0
  /-- Trip state; R220; reset none. -/
  trip      : Trip := .none
  /-- Cause of the trip in force; 8 bits; R243, R224; reset 0. -/
  tripCause : Nat := 0
  /-- The trip in force has not been logged yet; R279, R801; reset 0. -/
  tripLog   : Bool := false
  /-- Secondary causes, bit n for cause code 0x0B + n; 16 bits; R279, R801; reset 0. -/
  second    : Nat := 0
  /-- Instant of the trip; R264; reset 0 (DESIGN CHOICE 3). -/
  tripAt    : Instant := 0
  /-- Retry interval of the pending attempt, ns; R264; reset 0. -/
  interval  : Nat := 0
  /-- RETRY as it stood at the trip in force: 0 LATCH, 1 COUNTED, 2 PERIODIC, 3 THERMAL_WAIT; R262, R263; reset 0. -/
  strat     : Nat := 0
  /-- Attempt counter n; R264; reset 0. -/
  n         : Nat := 0
  /-- The channel runs on a turn-on by a retry attempt, so a trip is a failed retry; 1 bit; R266; reset 0. -/
  retrying  : Bool := false
  /-- An attempt that fell due is held because OPEN governs or the band forbids it; 1 bit; R269, R145; reset 0. -/
  held      : Bool := false
  /-- Since when the output has been ON or PWM in RUN or HOLD without a trip; R267; reset none. -/
  cleanSince : Option Instant := none
  /-- Since when the limp-home level has demanded OFF while LOCKED_OUT; R272; reset none. -/
  limpOff   : Option Instant := none
  /-- The forward power die is in thermal shutdown; 1 bit; R426; reset 0. -/
  dieFwd    : Bool := false
  /-- The freewheel power die is in thermal shutdown; 1 bit; R426; reset 0. -/
  dieFw     : Bool := false
  /-- Instant a power die last left thermal shutdown; R427, R452; reset 0. -/
  dieExit   : Instant := 0
  /-- Last power-die temperature reported, 0.1 °C; R264 (TW_TEMP), R801; reset 0 (as DIE_TEMP, R657; DESIGN CHOICE 3). -/
  dieTemp   : DeciDeg := 0
  /-- Instant of that reading; a reading older than 300 ms is not valid; R424; reset none. -/
  dieAt     : Option Instant := none
  /-- PD_FWD of the last round, 0.1 °C; R657; reset 0. -/
  fwdT      : DeciDeg := 0
  /-- PD_FW of the last round, 0.1 °C; R657; reset 0. -/
  fwT       : DeciDeg := 0
  /-- DISCONNECT_FAILED: 0 none, 1 by R282, 2 by the series test of R929; reset 0. -/
  discFail  : Nat := 0
  /-- HS_SELFTEST failed; 1 bit; R282; reset 0. -/
  hsFail    : Bool := false
  /-- GATE_MON_FAULT; 1 bit; R282; reset 0. -/
  gateMon   : Bool := false
  /-- Saved x, n, trip, cause and elapsed interval of R283; reset all 0. -/
  savedX    : Nat := 0
  /-- Saved attempt counter; R283; reset 0. -/
  savedN    : Nat := 0
  /-- Saved trip state; R283; reset none. -/
  savedTrip : Trip := .none
  /-- Saved trip cause; R283; reset 0. -/
  savedCause : Nat := 0
  /-- RETRY and the retry interval of the saved trip, ns; R263, R283; reset 0. -/
  savedStrat : Nat := 0
  /-- Its retry interval, ns; R263, R283; reset 0. -/
  savedIv   : Nat := 0
  /-- Saved elapsed part of the interval, ns; R283; reset 0. -/
  savedElapsed : Nat := 0
  /-- The stored protection state passes its CRC; 1 bit; R282; reset 1. -/
  savedOk   : Bool := true
deriving DecidableEq, Repr

/-- The PWM generator of one channel (chapter 07). -/
structure Gen where
  /-- Active copy of the settings; R297; reset by R288. -/
  act       : PwmSet := {}
  /-- Shadow copy; R297; reset by R288. -/
  shadow    : PwmSet := {}
  /-- The shadow copy waits for a boundary; 1 bit; R297, R303; reset 0. -/
  pending   : Bool := false
  /-- Instant the shadow copy was written, for the 2 ticks of R299; reset 0. -/
  shadowAt  : Instant := 0
  /-- A set written in time for the next boundary, where the one in the shadow copy came too late for it; R299; reset none. -/
  early     : Option PwmSet := none
  /-- The generator is enabled; 1 bit; R301, R303; reset 0 (R340). -/
  enabled   : Bool := false
  /-- ENABLED: the generator governs the forward switch; 1 bit; R206, R301, R329, R337; reset 0. -/
  governs   : Bool := false
  /-- The first period boundary since the enable has passed, so that the counter runs; R301; reset 0. -/
  begun     : Bool := false
  /-- Instant of the last period boundary, in quarters of a ns, of which a tick holds 25: the counter of R287 counts from it; reset 0. -/
  perAt     : Nat := 0
  /-- Period that runs since the last boundary, ticks; R228, R230, R289; reset 8000 (R288). -/
  runPer    : Nat := 8000
  /-- Instant at which the next period boundary falls, in quarters of a ns; R289, R301; reset 0. -/
  boundAt   : Nat := 0
  /-- Edges of the period issued: 0 none, 1 the on edge, 2 both; R290, R291; reset 0. -/
  edges     : Nat := 0
  /-- TRGA has fired in the period; 1 bit; R318; reset 0. -/
  firedA    : Bool := false
  /-- TRGB has fired in the period; 1 bit; R318; reset 0. -/
  firedB    : Bool := false
  /-- PWM_EDGE in force, which sets the gate drive strength of every edge: 0 FAST, 1 NORMAL, 2 SOFT; R316, R338; reset 1. -/
  edge      : Nat := 1
  /-- Fine steps of on-time that the generator applies, after R294 and the ramps of R228 and R839; reset 0. -/
  applied   : Nat := 0
  /-- Flag CLAMPED; 1 bit; R295; reset 0. -/
  clamped   : Bool := false
  /-- CLAMPED as the ACTIVE controller has logged it; 1 bit; R295; reset 0. -/
  clampSent : Bool := false
  /-- Instant of the last record of an onset of CLAMPED, for the 10 s of R295; reset none. -/
  clampLog  : Option Instant := none
  /-- DLY_FAULT; 1 bit; R310; reset 0. -/
  dlyFault  : Bool := false
  /-- Calibrations in a row that were not valid; R310; reset 0. -/
  calBad    : Nat := 0
  /-- Calibrations in a row that were valid; R310; reset 0. -/
  calGood   : Nat := 0
  /-- N_CAL, the last valid calibration; 8 bits; R309, R329; reset 0 (R657). -/
  nCal      : Nat := 0
  /-- The last calibration result, valid or not; 8 bits; R657; reset 0. -/
  calLast   : Nat := 0
  /-- The last calibration result was valid; 1 bit; R657; reset 0. -/
  calOk     : Bool := false
  /-- Instant from which the next calibration of the delay line is due; R308, R328; reset 0. -/
  calDue    : Instant := 0
  /-- N_CAL in use for the conversion since the last boundary; 8 bits; R309; reset 96 (DESIGN CHOICE 3). -/
  nUse      : Nat := 96
  /-- The conversion in use places edges by tick only; 1 bit; R310; reset 0. -/
  coarse    : Bool := false
  /-- Tap of the forward off edge in use; 7 bits; R308; reset 0. -/
  tap       : Nat := 0
  /-- Tap of the forward on edge in use; 7 bits; R291, R308; reset 0. -/
  tapOn     : Nat := 0
  /-- FW_GATE_FAULT; 1 bit; R339; reset 0. -/
  fwGate    : Bool := false
  /-- Periods in a row that were skipped; R339; reset 0. -/
  fwSkips   : Nat := 0
  /-- DT_CEIL_CNT; 8 bits, saturating, cleared on read; R312; reset 0. -/
  dtCeil    : Nat := 0
  /-- FW_SKIP_CNT; 8 bits, saturating, cleared on read; R313; reset 0. -/
  fwSkip    : Nat := 0
  /-- Freewheel turn-off time measured in the previous period, ns; R313; reset 480, so that the first lead is 500 ns. -/
  fwOffNs   : Nat := 480
  /-- The freewheel switch stays off until the next off interval; 1 bit; R313, R314; reset 0. -/
  fwDone    : Bool := false
  /-- The off interval has reached the 500 ns ceiling; 1 bit; R312; reset 0. -/
  ceilHit   : Bool := false
  /-- The freewheel switch has been commanded off ahead of an on edge that is not yet issued; 1 bit; R313; reset 0. -/
  ahead     : Bool := false
  /-- Time after that edge at which the freewheel switch confirms off, ns; R313; reset 0. -/
  fwWait    : Nat := 0
  /-- SW_CMP_FAULT; 1 bit; R339; reset 0. -/
  swCmp     : Bool := false
  /-- Since when every off interval above 1 A has reached the ceiling; R339; reset none. -/
  swCmpSince : Option Instant := none
  /-- Latest TRGA pair, path 1 µA; R354; reset 0. -/
  trgA1     : Int := 0
  /-- Latest TRGA pair, path 2 µA; R354; reset 0. -/
  trgA2     : Int := 0
  /-- Unit time of the frame slot of the TRGA pair; R354; reset 0. -/
  trgATime  : UnitTime := 0
  /-- The TRGA pair is marked blanked; R354; reset 0. -/
  trgABlank : Bool := false
  /-- Latest TRGB pair, path 1 µA; R354; reset 0. -/
  trgB1     : Int := 0
  /-- Latest TRGB pair, path 2 µA; R354; reset 0. -/
  trgB2     : Int := 0
  /-- Unit time of the frame slot of the TRGB pair; R354; reset 0. -/
  trgBTime  : UnitTime := 0
  /-- The TRGB pair is marked blanked; R354; reset 0. -/
  trgBBlank : Bool := false
  /-- Sum and count of the TRGA pairs of the running 100 ms, µA; R354; reset 0. -/
  trgASum   : Int := 0
  /-- Number of TRGA pairs in the running 100 ms; R354; reset 0. -/
  trgACnt   : Nat := 0
  /-- 100 ms mean of the TRGA pairs, µA; R354; reset none. -/
  trgAMean  : Option Int := none
  /-- Sum of the TRGB pairs of the running 100 ms, µA; R354; reset 0. -/
  trgBSum   : Int := 0
  /-- Number of TRGB pairs in the running 100 ms; R354; reset 0. -/
  trgBCnt   : Nat := 0
  /-- 100 ms mean of the TRGB pairs, µA; R354; reset none. -/
  trgBMean  : Option Int := none
deriving DecidableEq, Repr

/-- A ramp of duty: a profile ramp of R228 or a handover ramp of R839. Duties are parts of `dutyOne`. -/
structure Ramp where
  /-- Start of the ramp. -/
  start   : Instant := 0
  /-- End of the ramp. -/
  stop    : Instant := 0
  /-- Duty at the start. -/
  duty0   : Nat := 0
  /-- Duty at the end. -/
  duty1   : Nat := 0
  /-- The ramp belongs to a handover, and not to the profile. -/
  hand    : Bool := false
deriving DecidableEq, Repr

/-- What a handover is doing (R837). -/
inductive Hand where
  | none | hold | soak | ramp
deriving DecidableEq, Repr

/-- Control sources, glaze latch, limp-home demand and handover of one channel (chapter 20). -/
structure Ctrl where
  /-- The governing source; 2 bits; R819; reset LIMP (R239). -/
  source    : Source := .limp
  /-- The level applied to the stage: the demanded, held or ramped level of the governing source; R840; reset OFF. -/
  level     : Level := .off
  /-- Cause that the next change of output takes; 8 bits; R224; reset 0x02 (DESIGN CHOICE 3: the limp-home truth table). -/
  why       : Nat := 2
  /-- The PWM settings that go with it; R836; reset by R288. -/
  pwm       : PwmSet := {}
  /-- Glaze latch; 1 bit, in MRAM; R827; reset 0. -/
  glaze     : Bool := false
  /-- Glaze level; 2 bits, in MRAM; R826; reset OFF. -/
  glazeLvl  : Level := .off
  /-- The input that set the latch, 0 FLT1, 1 FLT2; R827; reset 0. -/
  glazeIn   : Nat := 0
  /-- The latch and the level have been stored; R827; reset 1. -/
  glazeSaved : Bool := true
  /-- Instant at which the latch was set; R827; reset 0. -/
  glazeAt   : Instant := 0
  /-- OPEN governs: the channel is in OPEN_FOLLOW and its input is asserted; R828; reset 0. -/
  openF     : Bool := false
  /-- Level that LIMP_TABLE demands; 2 bits; R831; reset OFF. -/
  demand    : Level := .off
  /-- Level demanded when the first line fault was declared; R831 (HOLD); reset none. -/
  heldDemand : Option Level := none
  /-- LIMP_TABLE_FAULT: the stored limp set fails its check; 1 bit; R835; reset 0. -/
  limpBad   : Bool := false
  /-- The running handover; R837; reset none. -/
  hand      : Hand := .none
  /-- Policy the running handover began with; R841; reset 0. -/
  policy    : Nat := 0
  /-- End of the soak; R837; reset 0. -/
  soakEnd   : Instant := 0
  /-- HANDOVER_RAMP the running handover began with, ns; R841; reset 0. -/
  rampNs    : Nat := 0
  /-- The running ramp of duty; R228, R839; reset none. -/
  ramp      : Option Ramp := none
  /-- Insertion hold of a twin half until this instant; R412; reset none. -/
  insHold   : Option Instant := none
  /-- Twin half waiting to join until its partner is in RUN or HOLD; R413; reset 0. -/
  joinWait  : Bool := false
  /-- The next turn-on enters the partner's phase without START; R413; reset 0. -/
  noStart   : Bool := false
  /-- Twin marking in MRAM: 0 not a half, 1 to 8 pair, 9 half of unknown pair (as delivered); R389; reset 9. -/
  mark      : Nat := 9
  /-- The channel is the higher-numbered half; R389; reset 0. -/
  markHigh  : Bool := false
deriving DecidableEq, Repr

/-- What a path's demodulator has accumulated in one half of a visit (R361). -/
structure Demod where
  /-- Sum of the samples times the mean of the chop reference, µA in 150000ths; reset 0. -/
  prod  : Int := 0
  /-- Sum of the squares of that mean; reset 0. -/
  sqr   : Nat := 0
deriving DecidableEq, Repr

/-- One measurement path of one channel (chapter 08). -/
structure Path where
  /-- The commutator reverses the input in the next sample; 1 bit; R365; reset 0. -/
  pol       : Bool := false
  /-- Internal offset: the mean of the uncorrected samples of the last 1 ms, µA; R365; reset 0. -/
  inner     : Int := 0
  /-- The previous sample, µA; R353; reset 0. -/
  last      : Int := 0
  /-- The first 1.0 s of the visit; R361; reset 0. -/
  half1     : Demod := {}
  /-- The second 1.0 s of the visit; R361; reset 0. -/
  half2     : Demod := {}
  /-- Gain in parts per million of nominal; R361; reset 1000000 (DESIGN CHOICE 3). -/
  gain      : Int := 1000000
  /-- External offset learned, µA; R366; reset 0. -/
  offset    : Int := 0
  /-- Instant of the last accepted visit since cartridge start; R367; reset none. -/
  visitAt   : Option Instant := none
  /-- The last completed visit was accepted; 1 bit; R370; reset 0. -/
  visitOk   : Bool := false
  /-- VISIT_REJECTED; R364; reset 0. -/
  rejected  : Nat := 0
  /-- Visits rejected in a row; R380; reset 0. -/
  rejRow    : Nat := 0
  /-- Housekeeping rounds since the reference check last failed, capped at 10; R370; reset 10. -/
  refRounds : Nat := 10
  /-- The path's reference check fails now; 1 bit; R373; reset 0. -/
  refBad    : Bool := false
  /-- REF_DRIFT raised; R380; reset 0. -/
  refDrift  : Bool := false
  /-- PATH_FAIL; 1 bit; R380; reset 0. -/
  failed    : Bool := false
  /-- Since when a failed path has read neither dead, stuck nor saturated; R1000; reset none. -/
  aliveSince : Option Instant := none
  /-- Excluded by R370 or R380; reset 0. -/
  excluded  : Bool := false
  /-- The 1 s sliding mean of unblanked samples, µA; R369; reset 0. -/
  mean1s    : Int := 0
  /-- Gain table in 5 °C bins from −30 °C to +100 °C; R372; reset empty bins (no entry). -/
  bins      : List (Nat × Int) := []
  /-- Bin of the last accepted visit; R372; reset 0. -/
  visitBin  : Nat := 0
deriving DecidableEq, Repr

/-- What has been added up for an average (R349). -/
structure AvgSum where
  /-- Samples; reset 0. -/
  n         : Nat := 0
  /-- Sum of path 1, µA; reset 0. -/
  i1        : Int := 0
  /-- Sum of path 2, µA; reset 0. -/
  i2        : Int := 0
  /-- Sum of the OUT voltage, µV; reset 0. -/
  v         : Int := 0
  /-- Sum of the products of OUT voltage and current, pW; reset 0. -/
  p         : Int := 0
  /-- Sum of the positive products alone, pW; R356; reset 0. -/
  pos       : Nat := 0
  /-- Samples marked blanked; R353; reset 0. -/
  blanked   : Nat := 0
  /-- A sample of path 1 was saturated; R347; reset 0. -/
  sat1      : Bool := false
  /-- A sample of path 2 was saturated; R347; reset 0. -/
  sat2      : Bool := false
  /-- A sample was not tied to unit time; R352; reset 0. -/
  unaligned : Bool := false
deriving DecidableEq, Repr

/-- The unblanked, unsaturated samples of 100 ms, for the sliding means of R369. -/
structure Bucket where
  /-- Samples of path 1; reset 0. -/
  n1        : Nat := 0
  /-- Their sum, µA; reset 0. -/
  s1        : Int := 0
  /-- Samples of path 2; reset 0. -/
  n2        : Nat := 0
  /-- Their sum, µA; reset 0. -/
  s2        : Int := 0
deriving DecidableEq, Repr

/-- The samples of the 100 ms of R366, before the external offset is taken off. -/
structure OffSum where
  /-- The instant OFF was reached for which it counts; reset 0. -/
  off       : Instant := 0
  /-- Samples; reset 0. -/
  n         : Nat := 0
  /-- Sum of path 1, µA; reset 0. -/
  s1        : Int := 0
  /-- Sum of path 2, µA; reset 0. -/
  s2        : Int := 0
deriving DecidableEq, Repr

/-- One averaged result of R349: what a measurement record of R351 holds beside its header. -/
structure Avg where
  /-- Unit time of the end of the interval; R351; reset 0. -/
  time      : UnitTime := 0
  /-- Current, µA, none for no valid path; R351; reset none. -/
  current   : Option Int := none
  /-- OUT voltage, µV; R351; reset 0. -/
  volt      : Int := 0
  /-- Power, mW; R351; reset 0. -/
  power     : Int := 0
  /-- Samples marked blanked; R351; reset 0. -/
  blanked   : Nat := 0
  /-- A sample of path 1 was saturated; R352, R657; reset 0. -/
  sat1      : Bool := false
  /-- A sample of path 2 was saturated; R352, R657; reset 0. -/
  sat2      : Bool := false
  /-- UNALIGNED; R352; reset 1 (R352: no interval was tied to unit time). -/
  unaligned : Bool := true
  /-- Bound of R367, µA; reset 0. -/
  bound     : Nat := 0
  /-- Accuracy class, crazing flag and paths in use, the status byte [5:0] of R351; reset 0. -/
  status    : Nat := 0
deriving DecidableEq, Repr

/-- The measurement of one channel (chapter 08). -/
structure Meas where
  /-- Path 1; R344. -/
  p1        : Path := {}
  /-- Path 2; R344. -/
  p2        : Path := {}
  /-- Crazing flag; 1 bit; R369; reset 0. -/
  crazing   : Bool := false
  /-- Evaluations in a row that found disagreement; R369; reset 0. -/
  disagree  : Nat := 0
  /-- Since when R371's agreement has held; reset none. -/
  agreeSince : Option Instant := none
  /-- MEAS_LOST; 1 bit; R380; reset 0. -/
  lost      : Bool := false
  /-- VISIT_STARVED; 1 bit; R380; reset 0. -/
  starved   : Bool := false
  /-- The previous OUT voltage sample, µV; R375; reset 0. -/
  lastV     : Int := 0
  /-- Samples of the running 100 ms; R349; reset none. -/
  sum100ms  : AvgSum := {}
  /-- Samples of the running 1 s; R349; reset none. -/
  sum1s     : AvgSum := {}
  /-- The running 100 ms of the sliding means; R369; reset none. -/
  bucket    : Bucket := {}
  /-- The last ten 100 ms, the newest first; R369; reset empty. -/
  slide     : List Bucket := []
  /-- Samples for the external offset; R366; reset none. -/
  offSum    : OffSum := {}
  /-- Mean of the forward-switch mirror over the on-intervals of the last 1 ms, mA; R376; reset 0. -/
  mirror    : MilliAmp := 0
  /-- 1 ms average; R349. -/
  avg1ms    : Avg := {}
  /-- 100 ms average; R349. -/
  avg100ms  : Avg := {}
  /-- 1 s average; R349. -/
  avg1s     : Avg := {}
  /-- Path 1, last 1 ms average, µA; R657; reset none. -/
  i1        : Option Int := none
  /-- Path 2, last 1 ms average, µA; R657; reset none. -/
  i2        : Option Int := none
  /-- ENERGY_LO as latched by a read of ENERGY_HI; R651; reset none (live value). -/
  energyLo  : Option Nat := none
  /-- Latch sample; R355; reset none. -/
  latch     : Option Avg := none
  /-- Cartridge energy accumulator, µWh, 64 bits; R356; reset 0. -/
  energy    : Nat := 0
  /-- Accumulator as last written to MRAM; R356; reset 0. -/
  energySaved : Nat := 0
  /-- Remainder below 1 µWh, in pW over 50 µs; R356; reset 0. -/
  energyRem : Nat := 0
deriving DecidableEq, Repr

/-- Everything a cartridge holds for one channel. -/
structure Chan where
  /-- Stage and profile (chapter 05). -/
  stage  : Stage := {}
  /-- Protection and retry (chapter 06). -/
  prot   : Prot := {}
  /-- PWM generator (chapter 07). -/
  gen    : Gen := {}
  /-- Control sources and handover (chapter 20). -/
  ctrl   : Ctrl := {}
  /-- Measurement (chapter 08). -/
  meas   : Meas := {}
  /-- The setpoint in use, of the image of R866. -/
  set    : Setpoint := {}
deriving DecidableEq, Repr

end Sys2Proof.Machine
end

