-- ==== Sys2Proof/Machine/Data/Cart.lean ====
section
/-!
DEFINITION. Machine/Data/Cart.lean: the state of one power cartridge beside its four channels (supply band, claim token,
armed entries, ejector lever, input lines, voyage store, pending cone entries, visits), and of one twin pair.
-/
namespace Sys2Proof.Machine

/-- One stored value of a configuration item at an index (R593, R613), the value read as one unsigned number. -/
structure Item where
  /-- Item ID of R613. -/
  id  : Nat
  /-- Index: the channel, pair, loop, input, port, slot or timer number, 0 for the unit. -/
  ix  : Nat
  /-- The value, its bytes read most significant first. -/
  val : Nat
deriving DecidableEq, Repr

/-- A list of item values in rising order of item and index, without the values that equal the item's default. -/
abbrev Items := List Item

/-- Power bus bands of R116. -/
inductive BusBand where
  | dark | uvlo | low | normal | high
deriving DecidableEq, Repr

/-- One LH or FLT line as a cartridge or a controller classifies it (R821, R822). -/
structure Line where
  /-- Class of the last sample: 0 open contact, 1 closed contact, 2 line open, 3 line short; R821; reset 0 (INPUTS, R654). -/
  raw      : Nat := 0
  /-- Samples in a row in that class; R822; reset 0. -/
  run      : Nat := 0
  /-- Accepted contact state, set for closed; R822; reset none until accepted (R848). -/
  closed   : Option Bool := none
  /-- Declared line fault, 2 line open or 3 line short; R822; reset none. -/
  fault    : Option Nat := none
  /-- Samples in a row in the contact classes while a fault is declared; R822; reset 0. -/
  contacts : Nat := 0
deriving DecidableEq, Repr

/-- One fault input of a cartridge: its line and its comparator (R823). -/
structure FltIn where
  /-- Line classification; R821. -/
  line     : Line := {}
  /-- The input is asserted; 1 bit; R823; reset 0. -/
  asserted : Bool := false
deriving DecidableEq, Repr

/-- One auxiliary timer AT1 to AT4 (R320). -/
structure AuxTimer where
  /-- BLANK_SEL word in use; 32 bits; R320; reset 0x0001_0000 with EN 0. -/
  sel   : Nat := 0x00010000
  /-- End of the running window; R322; reset none. -/
  until_ : Option Instant := none
  /-- Start of the running window, for the 20 µs bound of LIM; R323; reset 0. -/
  since : Instant := 0
  /-- The windows of the last ms: start, end and the word in use; R353; reset empty. -/
  past  : List (Instant × Instant × Nat) := []
deriving DecidableEq, Repr

/-- A scheduled transaction armed at a cartridge (R867). -/
structure Armed where
  /-- JSN, low 32 bits; R867. -/
  jsn  : Nat
  /-- Requested unit time T; R867. -/
  time : UnitTime
  /-- New setpoints: channel position 0 to 3, its level and its settings where it sets them; R867. -/
  sets : List (Nat × Option Level × Option PwmSet)
deriving DecidableEq, Repr

/-- An entry of the cartridge's voyage store (R808). -/
structure VoyEntry where
  /-- Cartridge voyage sequence; 32 bits; R808. -/
  seq   : Nat
  /-- Unit time of the change; R808. -/
  time  : UnitTime
  /-- Channel position 0 to 3. -/
  pos   : Nat
  /-- 1 began conducting, 0 stopped; R809. -/
  began : Bool
  /-- Cause code; R809. -/
  cause : Nat
  /-- 1 s average before the event, mA; R809. -/
  run   : Int
  /-- The cartridge was REMOVING; R809. -/
  removing : Bool
  /-- The cartridge was unclaimed, so that no controller ran it; R809. -/
  unclaimed : Bool
  /-- Unit time was UNSET at the event; R799. -/
  unset : Bool := false
deriving DecidableEq, Repr

/-- A cone entry (R432), pending in a cartridge or held in the record. -/
structure ConeEntry where
  /-- Cone index, once it is in the record; 32 bits; R431. -/
  index   : Nat := 0
  /-- Onset, unit time. -/
  onset   : UnitTime := 0
  /-- Time in shutdown, ms; none while it lasts. -/
  lasted  : Option Nat := none
  /-- Instant of the onset on the running clock. -/
  from_   : Instant := 0
  /-- Die: 1 PD_FWD, 2 PD_FW, 3 CTRL_DIE. -/
  die     : Nat := 1
  /-- Slot code: 1 to 4, 0x0A, 0x0B. -/
  slot    : Nat := 0
  /-- Channel 1 to 16, 0 for CTRL_DIE. -/
  channel : Nat := 0
  /-- Flags. -/
  flags   : Nat := 0
  /-- Unit mode at the onset. -/
  mode    : Nat := 0
  /-- Derate step at the onset. -/
  step    : Nat := 0
  /-- Peak die reading, 0.1 °C. -/
  peak    : DeciDeg := 0
  /-- Inlet temperature, 0.1 °C. -/
  inlet   : DeciDeg := 0
  /-- Channel current before the onset, mA. -/
  current : Int := 0
  /-- Power bus or logic rail, mV. -/
  bus     : Int := 0
  /-- Lifetime shutdowns of the die. -/
  life    : Nat := 0
  /-- Serial number of the part. -/
  serial  : Bytes := []
  /-- The pending entry is in the record already and waits for its exit; R433. -/
  sent    : Bool := false
deriving DecidableEq, Repr

/-- What a setpoint frame carries to one cartridge (R866, R325, R355, R808). Armed entries are sent by SCHEDULE_ARM, register accesses by
their commands (log entry 8). -/
structure Frame where
  /-- Sender. -/
  ctl      : Ctl
  /-- The complete image of the four channels; R866. -/
  image    : List Setpoint
  /-- IMG_JSN; R866. -/
  imgJsn   : Nat
  /-- Unit time of the start of its frame slot; R350, R910. -/
  time     : UnitTime
  /-- The start of its frame slot, at which the cartridge applies it; R910. -/
  due      : Instant
  /-- Unit time is UNSET; R352. -/
  unset    : Bool
  /-- Voyage sequences acknowledged; R808. -/
  voyAck   : List Nat
  /-- Trips, lockouts and clears the controller commits, as (channel position, code): trip causes 0x10 to 0x1F by R405,
  R408 and R477, 0xC0 for CLEAR_TRIP, 0xC2 where it ends STUCK_ON (R271), 0xC1 for CLEAR_GLAZE. -/
  acts     : List (Nat × Nat)
  /-- Pending latch instant; R355. -/
  latch    : Option UnitTime
deriving DecidableEq, Repr

/-- The four channels are held beside it, in the unit's state. -/
structure Cart where
  /-- A cartridge is seated in the slot; R27; reset 1 (DESIGN CHOICE 4). -/
  seated   : Bool := true
  /-- Serial number, 12 ASCII bytes; R595; reset spaces (DESIGN CHOICE 4). -/
  serial   : Bytes := List.replicate 12 0x20
  /-- Hardware issue letter; R1, R595; reset 0x45, issue E (DESIGN CHOICE 4). -/
  issue    : Nat := 0x45
  /-- Power bus voltage, mV; R116; reset 0. -/
  busMv    : MilliVolt := 0
  /-- Power bus band; R116; reset DARK. -/
  band     : BusBand := .dark
  /-- Instant of entry to the band; R116, R119; reset 0. -/
  bandAt   : Instant := 0
  /-- OV_OFF acts; 1 bit; R116; reset 0. -/
  ovOff    : Bool := false
  /-- Since when the bus has stood below 32 V while OV_OFF acts; R119; reset none. -/
  ovSince  : Option Instant := none
  /-- Instant the cartridge left DARK; R412, R381; reset 0. -/
  darkEnd  : Instant := 0
  /-- Claim holder; R175; reset none. -/
  holder   : Option Ctl := none
  /-- Stored claim epoch; 32 bits; R175; reset 0 (DESIGN CHOICE 3). -/
  epoch    : Nat := 0
  /-- Instant the cartridge was last claimed; R352; reset 0. -/
  claimAt  : Instant := 0
  /-- Armed claim: claimant, epoch and the instant of its CLAIM_ACK; R176; reset none. -/
  armedBy  : Option (Ctl × Nat × Instant) := none
  /-- CLAIM_GO was refused with LIMP_MOVED; R177; reset 0. -/
  limpMoved : Bool := false
  /-- Limp digest; 32 bits; R161; reset 0 (LIMP_DIGEST, R654). -/
  digest   : Nat := 0
  /-- Instant of the last valid setpoint frame of the holder; R186; reset 0. -/
  holdAt   : Instant := 0
  /-- The controller whose valid frame came last, with its instant; R856, R412; reset none. -/
  lastFrom : Option (Ctl × Instant) := none
  /-- IMG_JSN of the image in use; 32 bits; R866; reset 0. -/
  imgJsn   : Nat := 0
  /-- JSN of the latest armed application; 32 bits; R869; reset 0. -/
  armJsn   : Nat := 0
  /-- Armed entries, at most 8; R867; reset none. -/
  armed    : List Armed := []
  /-- JSNs of the last 32 armed applications, in MRAM; R867; reset none. -/
  applied  : List Nat := []
  /-- Unit time of the holder less the running clock; R350; reset 0. -/
  timeOff  : Int := 0
  /-- Instant unit time last stepped in the holder's frames; R727; reset 0. -/
  stepAt   : Instant := 0
  /-- The holder's unit time is UNSET; R352; reset 1. -/
  unset    : Bool := true
  /-- Ejector lever switch open; R410; reset 0. -/
  lever    : Bool := false
  /-- REMOVING; 1 bit; R410; reset 0. -/
  removing : Bool := false
  /-- LEFT; 1 bit; R410; reset 0. -/
  left     : Bool := false
  /-- Instant the lever switch opened; R419; reset none. -/
  leverAt  : Option Instant := none
  /-- The firing engine is halted for debug; R963; reset 0. -/
  frozen   : Bool := false
  /-- Instant of the halt, for the timers that stop; R281; reset 0. -/
  frozenAt : Instant := 0
  /-- Configuration items in the cartridge MRAM, as written by R231, R185, R262, R321, R834; reset none (never written). -/
  items    : Items := []
  /-- The items in MRAM have been written by a claim; R240; reset 0. -/
  written  : Bool := false
  /-- LH1 to LH8; R821. -/
  lh       : Vector Line 8 := Vector.replicate 8 {}
  /-- FLT1 and FLT2; R823. -/
  flt      : Vector FltIn 2 := Vector.replicate 2 {}
  /-- AT1 to AT4; R320. -/
  at_      : Vector AuxTimer 4 := Vector.replicate 4 {}
  /-- Voyage store, at most 64 entries, in MRAM; R808; reset empty. -/
  voy      : List VoyEntry := []
  /-- Next cartridge voyage sequence; 32 bits; R808; reset 1 (DESIGN CHOICE 3). -/
  voySeq   : Nat := 1
  /-- Entries counted without being stored; R815; reset 0. -/
  voyLost  : Nat := 0
  /-- Cone entries pending, at most 16, in MRAM; R434; reset empty. -/
  cone     : List ConeEntry := []
  /-- Shutdowns counted without an entry: PD_FWD of positions 1 to 4, then PD_FW; R434; reset 0. -/
  coneLost : Vector Nat 8 := Vector.replicate 8 0
  /-- Channel position under visit; R359; reset none. -/
  visit    : Option Nat := none
  /-- Channel position of the running or the last visit; R359; reset 0. -/
  visitPos : Nat := 0
  /-- Its start; R361; reset 0. -/
  visitAt  : Instant := 0
  /-- Its end, at which the proof source is off; R361, R364; reset 0. -/
  visitStop : Instant := 0
  /-- The time of the 10 s cycle less the running clock, where no claim has brought it to unit time; R363, R379, R381; reset 0. -/
  grid     : Int := 0
  /-- PROOF_FAULT; R380; reset 0. -/
  proofBad : Bool := false
  /-- Proof checks passed in a row, capped at 10; R380; reset 10. -/
  proofOk  : Nat := 10
  /-- Instant PROOF_FAULT was raised; R367; reset 0. -/
  proofAt  : Instant := 0
  /-- CART_OSC_FAULT; R380; reset 0. -/
  oscBad   : Bool := false
  /-- Since when the oscillator has stood within ±50 ppm; R380; reset none. -/
  oscOkSince : Option Instant := none
  /-- Oscillator against unit time as last measured, 0.01 ppm; R654; reset 0. -/
  osc      : Int := 0
  /-- Frequency table of the oscillator, (bin, ppb); R374; reset empty. -/
  oscBins  : List (Nat × Int) := []
  /-- Power-die, CART_MEAS and CART_AIR readings of the last round, 0.1 °C; R617; reset 0 (DESIGN CHOICE 3). -/
  tDie     : DeciDeg := 0
  /-- CART_MEAS; R423; reset 0 (CART_TEMP, R654). -/
  tMeas    : DeciDeg := 0
  /-- CART_AIR; R423; reset 0 (CART_TEMP, R654). -/
  tAir     : DeciDeg := 0
  /-- FEED1 and FEED2 as measured, mV; R114; reset 0. -/
  feedMv   : Vector MilliVolt 2 := Vector.replicate 2 0
  /-- Branch currents, mA; R114; reset 0. -/
  branchMa : Vector MilliAmp 2 := Vector.replicate 2 0
  /-- Drop added to each ORing branch to balance the two, mV, at most 50; R113; reset 0. -/
  drop     : Vector Nat 2 := Vector.replicate 2 0
  /-- ORING_FAULT of each branch; R150; reset 0. -/
  oring    : Vector Bool 2 := Vector.replicate 2 false
  /-- The hard-short comparator self-test of the last claim ran; R282; reset 0. -/
  hsTested : Bool := false
  /-- Latch instant armed; R355; reset none. -/
  latchAt  : Option UnitTime := none
  /-- CLINK errors counted per controller A, B (frames with a wrong CRC); R918, R653; reset 0. -/
  linkErr  : Vector Nat 2 := Vector.replicate 2 0
  /-- A configuration write by the controller is due; R611; reset 0. -/
  cfgDue   : Bool := false
  /-- Gains of the nine voltage inputs, parts per million of nominal; R375; reset 1000000 (DESIGN CHOICE 3). -/
  vGain    : Vector Int 9 := Vector.replicate 9 1000000
  /-- Instant each of them was last connected to the calibration voltage; R375; reset none. -/
  calAt    : Vector (Option Instant) 9 := Vector.replicate 9 none
  /-- Start of the running scrub pass; R930, R938; reset 0. -/
  scrubIn  : Instant := 0
  /-- Single- and double-bit errors of the cartridge MRAM found by its scrub; R930, R654; reset 0. -/
  scrubCe  : Nat := 0
deriving DecidableEq, Repr

/-- One twin pair as the ACTIVE controller runs it (chapter 09). -/
structure Twin where
  /-- Trim of the lower-numbered half, mV; R396; reset 0. -/
  trimLow   : Nat := 0
  /-- Trim of the higher-numbered half, mV; R396; reset 0. -/
  trimHigh  : Nat := 0
  /-- Share of the lower half, 0.01 %; R403; reset none. -/
  share     : Option Nat := none
  /-- Natural share of the lower half, 0.01 %; R398; reset none. -/
  natural   : Option Nat := none
  /-- Boundary alignment, ns, higher less lower; R403; reset none. -/
  align     : Option Int := none
  /-- TWIN_UNBALANCED; R416; reset 0. -/
  unbalanced : Bool := false
  /-- Since when the trim has stood at 300 mV, or below 280 mV while the flag is set; R416; reset none. -/
  unbalSince : Option Instant := none
  /-- TWIN_ALIGN; R419; reset 0. -/
  alignBad  : Bool := false
  /-- Since when the boundaries have stood on the side that would change the flag; R419; reset none. -/
  alignSince : Option Instant := none
  /-- TWIN_DIVERGED; R419; reset 0. -/
  diverged  : Bool := false
  /-- Since when the levels have stood on the side that would change the flag; R419; reset none. -/
  divSince  : Option Instant := none
  /-- TWIN_UNMEASURED; R419; reset 0. -/
  unmeas    : Bool := false
  /-- Since when both halves have had a class other than NONE; R419; reset none. -/
  measSince : Option Instant := none
  /-- TWIN_FORCED, latched until read; R419; reset 0. -/
  forced    : Bool := false
  /-- Stuck-off masked; R408; reset 0. -/
  masked    : Bool := false
  /-- Averages in a row below 10 %, lower half; R408; reset 0. -/
  lowCount  : Nat := 0
  /-- Averages in a row below 10 %, higher half; R408; reset 0. -/
  highCount : Nat := 0
  /-- Wire model of the pair current, units of 2^−60; R405; reset 0. -/
  x         : Nat := 0
  /-- Instant of the last join; R402; reset none. -/
  joinAt    : Option Instant := none
  /-- The period boundary of the higher half that the last correction of R399 moved; reset 0. -/
  corrAt    : Instant := 0
deriving DecidableEq, Repr

end Sys2Proof.Machine
end

