-- ==== Sys2Proof/Machine/Data/Session.lean ====
section
/-!
DEFINITION. Machine/Data/Session.lean: keys, windows, leases, subscriptions and the staging area (chapters 13 and 14), the
journal (chapter 21), log records and the event log (chapter 19).
-/
namespace Sys2Proof.Machine

/-- State of a key generation (R526). -/
inductive KeyState where
  | current | next | retiring
deriving DecidableEq, Repr

/-- One live key generation (R526). -/
structure KeyGen where
  /-- Generation, 1 to 255. -/
  gen   : Nat
  /-- CURRENT, NEXT or RETIRING. -/
  st    : KeyState
  /-- The key, 32 bytes. -/
  key   : Bytes
  /-- For RETIRING, the instant at which it is erased (R530). -/
  erase : Instant := 0
deriving DecidableEq, Repr

/-- State of a window entry (R535). -/
inductive EntryState where
  | inProgress | scheduled | complete
deriving DecidableEq, Repr

/-- One entry of the sequence window (R535). -/
structure WinEntry where
  /-- Sequence of the request. -/
  seq    : Nat
  /-- IN_PROGRESS, SCHEDULED or COMPLETE. -/
  st     : EntryState
  /-- Status answered; R574. -/
  status : Nat
  /-- Opcode. -/
  opcode : Nat
  /-- The opcode is journaled. -/
  jour   : Bool
  /-- Execution or requested unit time. -/
  time   : UnitTime
  /-- CRC-32 digest of the request. -/
  digest : Nat
  /-- Detail code and channel of an error reply, for the reply to a retransmission; R567. -/
  detail : Nat := 0
  /-- Channel concerned, 1 to 16; R567. -/
  chan   : Nat := 0
  /-- Offset of the first offending parameter byte of an error reply; R567. -/
  off    : Nat := 0xFFFF
  /-- What the reply gives that the present state does not: the log index of a MARK (R812), a handle (R594), a count of items or
  entries (R607, R621), the result of a swap (R626). -/
  mark   : Nat := 0
deriving DecidableEq, Repr

/-- One subscription (R568). -/
structure Sub where
  /-- Handle, 0 to 7. -/
  handle : Nat
  /-- Stream number. -/
  stream : Nat
  /-- Period in 100 ms, 0 for on-change. -/
  period : Nat
  /-- Filter. -/
  filter : Nat
  /-- End instant, unit time. -/
  stop   : UnitTime
  /-- The next report is the first of the subscription, or the first after a failover; R570. -/
  first  : Bool := true
  /-- Instant of the last report, for the period and the 10 ms of R599. -/
  sentAt : Option Instant := none
  /-- For LOG, the index of the next record to send; for TIME_REPORT, LATCH and GNSS_MEAS, what was sent last; R599. -/
  cursor : Int := 0
  /-- For CHANNEL, TWIN, PAIR and ALARM, the content last sent, as numbers; R599. -/
  last   : List Nat := []
deriving DecidableEq, Repr

/-- What is kept for one client slot. -/
structure ClientSt where
  /-- Live key generations, at most two; R526; reset none (empty slot). -/
  keys   : List KeyGen := []
  /-- Highest accepted sequence H; 48 bits; R535; reset 0. -/
  high   : Nat := 0
  /-- Window entries, for sequences H − 63 to H; R535; reset none. -/
  win    : List WinEntry := []
  /-- Subscriptions, at most 8; R575; reset none. -/
  subs   : List Sub := []
  /-- Report sequence: that of the next report; 48 bits; R571; reset 1. -/
  repSeq : Nat := 1
  /-- Report sequence as last mirrored; R571; reset 1. -/
  repMir : Nat := 1
  /-- Report-loss count; 32 bits; R572; reset 0. -/
  repLoss : Nat := 0
  /-- KEY_LOST: the stored key fails its check; R580; reset 0. -/
  keyLost : Bool := false
  /-- The stored window fails its check; R580; reset 0. -/
  winLost : Bool := false
deriving DecidableEq, Repr

/-- A lease of one channel (R545). -/
structure Lease where
  /-- The client that holds it. -/
  client : Client
  /-- Expiry instant, unit time. -/
  stop   : UnitTime
deriving DecidableEq, Repr

/-- The staging area (R608). -/
structure Staging where
  /-- The client that holds it. -/
  holder : Client
  /-- Staged values, the last staged for an item and index. -/
  items  : Items
  /-- Instant of the last STAGE_CONFIG or COMMIT_CONFIG of the holder. -/
  usedAt : Instant
deriving DecidableEq, Repr

/-- A log record (R799): the header fields and the body, bytes 20 to 59. The CRC-32 of bytes 60 to 63 is computed. -/
structure LogRec where
  /-- Index; 32 bits; R802. -/
  index  : Nat := 0
  /-- Unit time of the event. -/
  time   : UnitTime := 0
  /-- Event code, class and event; R800. -/
  code   : Nat := 0
  /-- Flags byte. -/
  flags  : Nat := 0
  /-- Source byte. -/
  source : Nat := 0
  /-- Object byte. -/
  object : Nat := 0
  /-- Unit mode at the event. -/
  mode   : Nat := 0
  /-- Body, 40 bytes. -/
  body   : Bytes := []
  /-- The stored record fails its CRC; R817. -/
  bad    : Bool := false
deriving DecidableEq, Repr

/-- The event log of one controller (R802 to R806), and its write queue. -/
structure Log where
  /-- Records held, oldest first, at most 163840, in MRAM; R803; reset empty. -/
  recs    : List LogRec := []
  /-- Next index; 32 bits; R802; reset 0 (DESIGN CHOICE 3). -/
  next    : Nat := 0
  /-- Records formed and not yet written; R804; reset empty. -/
  queue   : List LogRec := []
  /-- Loss counter; 32 bits, in MRAM; R805; reset 0. -/
  losses  : Nat := 0
  /-- At a standby, since when a record held back waits for the records before it; R813; reset none. -/
  gapAt   : Option Instant := none
  /-- Records lost since the previous LOSS record; R805; reset 0. -/
  lost    : Nat := 0
  /-- Instant of the first record lost since then; R805; reset 0. -/
  lostFrom : UnitTime := 0
  /-- Instant of the last; R805; reset 0. -/
  lostTo  : UnitTime := 0
  /-- First corrupt record found since the previous LOG_CORRUPT record; R817; reset none. -/
  corrupt : Option Nat := none
  /-- Corrupt records found since then; R817; reset 0. -/
  corruptN : Nat := 0
  /-- Instant of the last LOG_CORRUPT record; R817; reset none. -/
  corruptAt : Option Instant := none
  /-- Voyage sequence of the next voyage record; 32 bits; R809; reset 1 (DESIGN CHOICE 3). -/
  voySeq  : Nat := 1
  /-- Pairs of cartridge serial and cartridge sequence already written; R808; reset none. -/
  voySeen : List (Bytes × Nat) := []
deriving DecidableEq, Repr

/-- Addresses of one port (R492). -/
structure PortAddr where
  /-- UNIT_IP; 32 bits. -/
  unit    : Nat := 0
  /-- CTRL_A_IP; 32 bits. -/
  ctrlA   : Nat := 0
  /-- CTRL_B_IP; 32 bits. -/
  ctrlB   : Nat := 0
  /-- NETMASK; 32 bits. -/
  mask    : Nat := 0
  /-- GATEWAY; 32 bits. -/
  gateway : Nat := 0
deriving DecidableEq, Repr

/-- State of a journal slot (R858). -/
inductive SlotState where
  | free | prepared | committed | aborted
deriving DecidableEq, Repr

/-- One change that a transaction makes to the mirrored state (R858: the new value of every object it changes). -/
inductive Change where
  /-- HOST level of a channel; `cmd` set when it is a command of R838. -/
  | level (c : Ch) (l : Level) (cmd : Bool)
  /-- Journaled PWM settings of a channel; R601. -/
  | pwm (c : Ch) (p : PwmSet)
  /-- Commanded current of a loop output, µA; R464. -/
  | loop (q : Quad) (ua : Nat)
  /-- Staging area; R608. -/
  | staging (st : Option Staging)
  /-- Committed configuration, its epoch and its hash; R611. -/
  | config (items : Items) (epoch : Nat) (hash : Bytes)
  /-- Lease of a channel; R545. -/
  | lease (c : Ch) (l : Option Lease)
  /-- Window entry of the request; R540. -/
  | entry (cl : Client) (e : WinEntry)
  /-- Key generations of a client; R534. -/
  | keys (cl : Client) (ks : List KeyGen)
  /-- The client's window is emptied and H set to 0; R533, R535. -/
  | window (cl : Client)
  /-- Subscriptions of a client; R569. -/
  | subs (cl : Client) (l : List Sub)
  /-- Withdrawal of a scheduled transaction with a detail code; R561, R582. -/
  | withdraw (jsn : Nat) (detail : Nat)
  /-- A trip, a lockout or a clear carried to the cartridge; R405, R408, R477, R270, R605. -/
  | act (c : Ch) (code : Nat)
  /-- Addresses of a port; R597. -/
  | address (p : Bus) (a : PortAddr)
  /-- A log record written inside the transaction; R806. -/
  | record (r : LogRec)
  /-- All cone entries erased; R436. -/
  | coneClear
  /-- A signing key revoked; R631. -/
  | revoke (k : Nat)
  /-- A takeover: the new claim epoch of the cartridges, the old and the new ACTIVE slot, whether it is cold, and the cause; R881. -/
  | claims (epoch : Nat) (old new : Ctl) (cold : Bool) (cause : Nat)
  /-- The role swap of R886 with its cause. -/
  | swap (dest : Ctl) (cause : Nat)
deriving DecidableEq, Repr

/-- A journal slot (R858). The header fields, the body as a list of changes, and what the controller keeps while the
transaction is in flight. -/
structure JSlot where
  /-- JSN; 64 bits. -/
  jsn      : Nat := 0
  /-- FREE, PREPARED, COMMITTED, ABORTED. -/
  st       : SlotState := .free
  /-- Kind, 1 to 6. -/
  kind     : Nat := 1
  /-- Client slot, 0xFF for none. -/
  client   : Nat := 0xFF
  /-- Flag [0], scheduled. -/
  sched    : Bool := false
  /-- Flag [2], committed without mirror. -/
  noMirror : Bool := false
  /-- Request sequence, 0 for none. -/
  seq      : Nat := 0
  /-- Opcode, 0 for none. -/
  opcode   : Nat := 0
  /-- Requested unit time T, 0 for at once. -/
  time     : UnitTime := 0
  /-- Commit instant, unit time. -/
  commitAt : UnitTime := 0
  /-- Cartridges the transaction acts on. -/
  mask     : Vector Bool 4 := Vector.replicate 4 false
  /-- Cartridges that have reported it applied. -/
  done     : Vector Bool 4 := Vector.replicate 4 false
  /-- The changes. -/
  changes  : List Change := []
  /-- The slot passes its CRC. -/
  ok       : Bool := true
  /-- The request to be answered. -/
  req      : Option Request := none
  /-- Instant the slot was written PREPARED. -/
  prepAt   : Instant := 0
  /-- Instant COMMIT was sent. -/
  sentAt   : Option Instant := none
  /-- The effect has been released; R861. -/
  released : Bool := false
  /-- The frame slot that first carried it, by the running clock; R604. -/
  frameAt  : Option Instant := none
  /-- The changes of a scheduled transaction have been taken into the HOST levels. -/
  taken    : Bool := false
  /-- The reply has been sent, or none is owed. -/
  replied  : Bool := false
deriving DecidableEq, Repr

end Sys2Proof.Machine
end

