-- ==== Sys2Proof/Machine/Data/Cooling.lean ====
section
/-!
DEFINITION. Machine/Data/Cooling.lean: the fan tray and derating with the cone record (chapter 10), the loop outputs and
the speed inputs (chapter 11), and the bus ports (chapter 12).
-/
namespace Sys2Proof.Machine

/-- The fan states of R439, in row order. -/
inductive FanState where
  | starting | pause | running | tachLost | stalled | stopped | blocked | absent
deriving DecidableEq, Repr

/-- One fan (R439 to R442). -/
structure Fan where
  /-- State; R439; reset STARTING (DESIGN CHOICE 3). -/
  st       : FanState := .starting
  /-- Instant the state was entered; reset 0. -/
  at_      : Instant := 0
  /-- Retries made in the running start check, 0 to 3; R440; reset 0. -/
  retries  : Nat := 0
  /-- Speed, rpm; R617; reset 0. -/
  rpm      : Nat := 0
  /-- Supply current as a percentage of that expected for the duty; R441; reset 100 (DESIGN CHOICE 3). -/
  pct      : Nat := 100
  /-- Since when the tachometer has been invalid in RUNNING, or valid in TACH_LOST; R441, R442; reset none. -/
  tachSince : Option Instant := none
  /-- Since when the supply current has been outside the normal band; R442; reset none. -/
  curSince : Option Instant := none
  /-- Since when the fan has counted as running; R444; reset none. -/
  runSince : Option Instant := none
  /-- Running time, ms (reported in h); R435; reset 0. -/
  runMs    : Nat := 0
  /-- Start attempts; R435; reset 0. -/
  starts   : Nat := 0
  /-- FAN_BLOCKED declarations; R435; reset 0. -/
  blocks   : Nat := 0
deriving DecidableEq, Repr

/-- Cooling, derating and shedding, run by the ACTIVE controller, and the fan tray (chapters 03 and 10). -/
structure Cool where
  /-- The fan tray is present; R447; reset 1 (DESIGN CHOICE 4). -/
  tray      : Bool := true
  /-- Fans 1 and 2; R439. -/
  fans      : Vector Fan 2 := Vector.replicate 2 {}
  /-- Duty commanded, %; R437; reset 100 (R438: no controller drives the tray). -/
  duty      : Nat := 100
  /-- Duty at which each fan is driven, %: none in a pause, 100 in a retry; R440; reset 100 (R438). -/
  drive     : Vector Nat 2 := Vector.replicate 2 100
  /-- Instant of the last drive command; R438; reset none. -/
  driveAt   : Option Instant := none
  /-- Readings of INLET1 and INLET2 in the last ten rounds, newest first, for the 1 s averages; R425; reset none. -/
  inletWin  : Vector (List DeciDeg) 2 := Vector.replicate 2 []
  /-- INLET1 and INLET2, 1 s averages, 0.1 °C; R425; reset 0 (INLET, R653). -/
  inlet     : Vector DeciDeg 2 := Vector.replicate 2 0
  /-- Each inlet sensor is valid; R452; reset 1. -/
  inletOk   : Vector Bool 2 := Vector.replicate 2 true
  /-- Since when each inlet sensor has stood within its range while not valid; R452; reset none. -/
  inletBack : Vector (Option Instant) 2 := Vector.replicate 2 none
  /-- The inlet sensors differ; R452; reset 0. -/
  inletDiff : Bool := false
  /-- Since when they have stood on the side that would change that; R452; reset none. -/
  inletSince : Option Instant := none
  /-- Inlet temperature of the last round, 0.1 °C; R425; reset 0 (DESIGN CHOICE 3). -/
  inletNow  : DeciDeg := 0
  /-- Inlet temperature used for derating, 0.1 °C; R444; reset 0 (DESIGN CHOICE 3). -/
  inletUsed : DeciDeg := 0
  /-- INLET_HIGH; R448; reset 0. -/
  inletHigh : Bool := false
  /-- Derate step 0 to 2; R443; reset 0 (DESIGN CHOICE 3: the step that the worked case of chapter 10 begins with). -/
  step      : Nat := 0
  /-- Since when each channel has exceeded its limit; R446; reset none. -/
  overSince : Vector (Option Instant) 16 := Vector.replicate 16 none
  /-- Since when each channel has been at or below its limit; R446; reset none. -/
  underSince : Vector (Option Instant) 16 := Vector.replicate 16 none
  /-- CH_DERATE_EXCEEDED of each channel; R446; reset 0. -/
  exceeded  : Vector Bool 16 := Vector.replicate 16 false
  /-- DIE_HOT of each channel; R428; reset 0. -/
  dieHot    : Vector Bool 16 := Vector.replicate 16 false
  /-- SENSOR_IMPLAUSIBLE of each channel's dies; R452; reset 0. -/
  dieBad    : Vector Bool 16 := Vector.replicate 16 false
  /-- Since when they have stood on the side that would change it; R452; reset none. -/
  dieSince  : Vector (Option Instant) 16 := Vector.replicate 16 none
  /-- FEED1 and FEED2 state: 0 ABSENT, 1 LOW, 2 PRESENT, 3 HIGH, none for UNKNOWN; R115, R617; reset none. -/
  feedSt    : Vector (Option Nat) 2 := Vector.replicate 2 none
  /-- Feed voltage, mV; R114; reset 0. -/
  feedMv    : Vector MilliVolt 2 := Vector.replicate 2 0
  /-- Feed current, mA; R114; reset 0. -/
  feedMa    : Vector MilliAmp 2 := Vector.replicate 2 0
  /-- Feed currents of the last ten rounds, newest first, for the 1 s average; R139; reset none. -/
  feedWin   : Vector (List MilliAmp) 2 := Vector.replicate 2 []
  /-- The state for which each feed's alarm stands, as `feedSt` codes it; R150; reset none. -/
  feedBad   : Vector (Option Nat) 2 := Vector.replicate 2 none
  /-- FEED_IMBALANCE; R150; reset 0. -/
  imbalance : Bool := false
  /-- Since when the feeds have stood on the side that would change FEED_IMBALANCE; R150; reset none. -/
  imbSince  : Option Instant := none
  /-- Since when the condition that ends each feed's alarm has held; R150; reset none. -/
  feedOkSince : Vector (Option Instant) 2 := Vector.replicate 2 none
  /-- FEED_OVERLOAD of each feed, with its onset; R139; reset none. -/
  feedOver  : Vector (Option Instant) 2 := Vector.replicate 2 none
  /-- UNIT_OVERLOAD, with its onset; R139; reset none. -/
  unitOver  : Option Instant := none
  /-- Unit total current, mA; R617; reset 0. -/
  totalMa   : MilliAmp := 0
  /-- Instant of the last shed; R141; reset none. -/
  shedAt    : Option Instant := none
  /-- Shedding runs for FEED_OVERLOAD of each feed, until it carries less than 115 A; R141; reset 0. -/
  shedFeed  : Vector Bool 2 := Vector.replicate 2 false
  /-- Shedding runs for UNIT_OVERLOAD, until the total stands 10 A below its limit; R141; reset 0. -/
  shedUnit  : Bool := false
  /-- A host turned a shed channel on while the overload persists: shedding resumes then; R146; reset none. -/
  shedResume : Option Instant := none
  /-- Unit time of the last completed housekeeping round; R617; reset 0. -/
  roundAt   : UnitTime := 0
  /-- GNSS_BOARD, 0.1 °C; R423; reset 0 (DESIGN CHOICE 3). -/
  gnssBoard : DeciDeg := 0
deriving DecidableEq, Repr

/-- The cone record of one controller (R431 to R436). -/
structure Cone where
  /-- Entries held, at most 1024, in MRAM; R431; reset empty. -/
  entries   : List ConeEntry := []
  /-- Next cone index; 32 bits; R436; reset 0 (R432: from 0). -/
  next      : Nat := 0
  /-- Shutdowns of PD_FWD for CH01 to CH16; R435; reset 0. -/
  fwd       : Vector Nat 16 := Vector.replicate 16 0
  /-- Shutdowns of PD_FW for CH01 to CH16; R435; reset 0. -/
  fw        : Vector Nat 16 := Vector.replicate 16 0
  /-- Shutdowns of CTRL_DIE of A and of B; R435; reset 0. -/
  ctrl      : Vector Nat 2 := Vector.replicate 2 0
  /-- Shutdowns not recorded; R435; reset 0. -/
  missed    : Nat := 0
  /-- Time at derate steps 0, 1 and 2, ms; R435; reset 0. -/
  stepMs    : Vector Nat 3 := Vector.replicate 3 0
  /-- Time with the inlet above 55 °C, ms; R435; reset 0. -/
  hotMs     : Nat := 0
deriving DecidableEq, Repr

/-- Sub-cause of COMPLIANCE (R466). -/
inductive Compl where
  | none | loopOpen | lowSupply
deriving DecidableEq, Repr

/-- One stage of a loop output on one controller (R458 to R470). -/
structure LoopStage where
  /-- Commanded current, µA; R462; reset 0. -/
  cmd      : Nat := 0
  /-- Current the stage is set to sink, µA; R463; reset 0. -/
  sink     : Nat := 0
  /-- The stage conducts for its controller; R37; reset 0. -/
  live     : Bool := false
  /-- A ramp of 5 ms runs from this instant: set for a ramp up, clear for a ramp to no current; R468; reset none. -/
  ramp     : Option (Instant × Bool) := none
  /-- Current from which a ramp to no current starts, µA; R468, R470; reset 0. -/
  from_    : Nat := 0
  /-- Instant of the last update by the controller; R470; reset 0. -/
  updAt    : Instant := 0
  /-- Measured current, µA; R459; reset 0. -/
  meas     : Nat := 0
  /-- COMPLIANCE and its sub-cause; R466; reset none. -/
  compl    : Compl := .none
  /-- Since when the shortfall has stood on the side that would change COMPLIANCE; R466, R467; reset none. -/
  shortSince : Option Instant := none
  /-- Instant from which the next probe is due; R467; reset 0. -/
  probeAt  : Instant := 0
  /-- Consecutive predictions of 8.5 V or more; R467; reset 0. -/
  probes   : Nat := 0
  /-- LOOP_STAGE_FAULT; R483; reset 0. -/
  fault    : Bool := false
  /-- Since when the stage has departed from its command; R483; reset none. -/
  faultSince : Option Instant := none
deriving DecidableEq, Repr

/-- One loop output as the unit holds it. -/
structure Loop where
  /-- The stages of controllers A and B; R37. -/
  stages  : Vector LoopStage 2 := Vector.replicate 2 {}
  /-- Instant of the last SET_LOOP applied; R461; reset 0. -/
  hostAt  : Instant := 0
  /-- LOOP_HOST_TMO has elapsed; R461; reset 0. -/
  hostOld : Bool := false
deriving DecidableEq, Repr

/-- States of a speed input (R474). -/
inductive TachState where
  | idle | spinup | running | stalled | stopped | lost
deriving DecidableEq, Repr

/-- One speed input (R471 to R480). -/
structure Tach where
  /-- State; R474; reset IDLE. -/
  st       : TachState := .idle
  /-- Instant SPINUP began, or IDLE was last found; R475; reset 0. -/
  spinAt   : Instant := 0
  /-- Instants of the rising edges of the last second, newest first; R472; reset none. -/
  edges    : List Instant := []
  /-- Frequency, mHz; R472; reset 0. -/
  freq     : Nat := 0
  /-- Since when a classification has been due: frequency low in RUNNING; R476; reset none. -/
  lowSince : Option Instant := none
  /-- Since when the frequency has been good in TACH_LOST; R478; reset none. -/
  goodSince : Option Instant := none
  /-- Sum of the current signature, mA, and number of 100 ms averages in it; R474; reset 0. -/
  sigSum   : Int := 0
  /-- Number of averages in the signature; R474; reset 0. -/
  sigCnt   : Nat := 0
  /-- The TACH_LOST alarm stands; R478; reset 0. -/
  lostAlarm : Bool := false
  /-- TACH_OVERRANGE; R480; reset 0. -/
  above     : Bool := false
  /-- Since when the signal has been within range; R483; reset none. -/
  rangeSince : Option Instant := none
deriving DecidableEq, Repr

/-- Port states of R507. -/
inductive PortState where
  | up | quiet | down
deriving DecidableEq, Repr

/-- An entry of the ARP cache (R499). -/
structure ArpEntry where
  /-- IPv4 address. -/
  ip     : Nat
  /-- MAC address; 48 bits. -/
  mac    : Nat
  /-- Instant it was learned. -/
  at_    : Instant
  /-- Instant of its last use. -/
  used   : Instant
deriving DecidableEq, Repr

/-- A destination being resolved, with its one waiting datagram (R499). -/
structure ArpWait where
  /-- IPv4 address. -/
  ip    : Nat
  /-- Requests sent, 1 to 3. -/
  tries : Nat
  /-- Instant of the last request. -/
  at_   : Instant
  /-- The datagram that waits. -/
  wait  : Sent
  /-- Length of its UDP payload. -/
  len   : Nat
deriving DecidableEq, Repr

/-- An entry of the source table (R511). -/
structure SrcEntry where
  /-- IPv4 address; 0xFFFF_FFFF with `other` set for the OTHER entry. -/
  ip       : Nat
  /-- UNKNOWN_SLOT drops. -/
  unknown  : Nat := 0
  /-- BUDGET_DROP drops. -/
  budget   : Nat := 0
  /-- TAG_FAIL drops. -/
  tagFail  : Nat := 0
  /-- WINDOW_DROP drops. -/
  window   : Nat := 0
  /-- Unit time of the last drop. -/
  last     : UnitTime := 0
  /-- Instant of the last STRANGER record for it. -/
  logAt    : Option Instant := none
  /-- Counts at that record. -/
  logged   : Nat × Nat × Nat × Nat := (0, 0, 0, 0)
deriving DecidableEq, Repr

/-- A duplicate-store entry (R504). -/
structure DupEntry where
  /-- Client slot. -/
  client : Client
  /-- Sequence. -/
  seq    : Nat
  /-- Tag, 16 bytes. -/
  tag    : Bytes
  /-- Port it came by. -/
  bus    : Bus
  /-- Instant it was kept. -/
  at_    : Instant
deriving DecidableEq, Repr

/-- The port counters of R514, 32 bits each, in the table's order. -/
structure PortCounts where
  /-- RX_OK. -/
  rxOk : Nat := 0
  /-- TX_OK. -/
  txOk : Nat := 0
  /-- RX_FCS. -/
  rxFcs : Nat := 0
  /-- COLLISIONS. -/
  coll : Nat := 0
  /-- BEACON_LOSS. -/
  beacon : Nat := 0
  /-- NOT_FOR_UNIT. -/
  notFor : Nat := 0
  /-- MALFORMED. -/
  malformed : Nat := 0
  /-- DUP_SUPPRESSED. -/
  dup : Nat := 0
  /-- UNKNOWN_SLOT. -/
  unknown : Nat := 0
  /-- BUDGET_DROP. -/
  budget : Nat := 0
  /-- TAG_FAIL. -/
  tagFail : Nat := 0
  /-- WINDOW_DROP. -/
  window : Nat := 0
  /-- ARP_UNRESOLVED. -/
  arp : Nat := 0
  /-- ECHO_DROPPED. -/
  echo : Nat := 0
  /-- PORT_DOWN. -/
  down : Nat := 0
deriving DecidableEq, Repr

/-- A frame on the transmit queue of a PHY (R517). -/
structure TxFrame where
  /-- Instant at which it has left. -/
  done   : Instant
  /-- Its time on the wire, ns. -/
  ns     : Nat
  /-- It is a stream report. -/
  report : Bool
deriving DecidableEq, Repr

/-- One PHY: a controller's side of one bus port (chapter 12). -/
structure Phy where
  /-- Port state; R507; reset DOWN (R520: the PHYs are held in reset until firmware running). -/
  st       : PortState := .down
  /-- Configured and out of reset; R520; reset 0. -/
  run      : Bool := false
  /-- Instant of the last liveness evidence; R507; reset none. -/
  seenAt   : Option Instant := none
  /-- Since when evidence has come in every second while DOWN; R507; reset none. -/
  upSince  : Option Instant := none
  /-- PLCA beacon heard; R491; reset 0. -/
  beacon   : Bool := false
  /-- Instants of the last beacon losses; R519; reset none. -/
  losses   : List Instant := []
  /-- PLCA_DEGRADED; R519; reset 0. -/
  degraded : Bool := false
  /-- BUS_COLLISIONS; R519; reset 0. -/
  collBad  : Bool := false
  /-- Since when the collision rate has stood on the side that would change BUS_COLLISIONS; R519; reset none. -/
  collSince : Option Instant := none
  /-- BUS_PORT_LOST; R508; reset 0. -/
  lost     : Bool := false
  /-- ADDR_CONFLICT, with the instant of the last conflicting ARP; R519; reset none. -/
  conflict : Option Instant := none
  /-- STRANGER_TRAFFIC; R512; reset 0. -/
  stranger : Bool := false
  /-- Instants of the silent drops of the last 60 s; R512; reset none. -/
  drops    : List Instant := []
  /-- ARP cache, at most 32; R499; reset empty. -/
  arp      : List ArpEntry := []
  /-- Resolutions running; R499; reset none. -/
  waits    : List ArpWait := []
  /-- KNOWN bucket, thousandths of a token, at most 100000; R510; reset 100000 (DESIGN CHOICE 3: full). -/
  known    : Nat := 100000
  /-- OPEN bucket; R510; reset 100000 (DESIGN CHOICE 3: full). -/
  open_    : Nat := 100000
  /-- Instant of the last refill; R510; reset 0. -/
  refillAt : Instant := 0
  /-- Source of the last packet of each client slot to pass its tag check, with the instant; R506, R510; reset none. -/
  lastSrc  : Vector (Option (Endpoint × Instant)) 16 := Vector.replicate 16 none
  /-- Source table, at most 64 entries; R511; reset empty. -/
  srcs     : List SrcEntry := []
  /-- The OTHER entry; R511. -/
  other    : SrcEntry := { ip := 0 }
  /-- Instants of the echo replies of the last second; R500; reset none. -/
  echoes   : List Instant := []
  /-- Frames queued for transmission, at most 16, in the order in which they leave; R517; reset none. -/
  txq      : List TxFrame := []
  /-- Counters; R514; reset 0. -/
  cnt      : PortCounts := {}
  /-- Gratuitous ARPs still to be sent for the role change, by instant; R496; reset none. -/
  garp     : List Instant := []
deriving DecidableEq, Repr

end Sys2Proof.Machine
end

