-- ==== Sys2Proof/Machine/Data/Time.lean ====
section
/-!
DEFINITION. Machine/Data/Time.lean: time keeping (chapter 17), the GNSS baseband (18) and the expansion port (16) of one
controller.
-/
namespace Sys2Proof.Machine

/-- Time states of R717, in code order. -/
inductive TimeState where
  | unset | locked | holdover | rtc
deriving DecidableEq, Repr

/-- The code of a time state (R717). -/
def TimeState.code : TimeState → Nat
  | .unset => 0 | .locked => 1 | .holdover => 2 | .rtc => 3

/-- A time source that can be measured: GNSS or PTP (R717). -/
structure Src where
  /-- The source qualifies; R718; reset 0. -/
  ok       : Bool := false
  /-- Since when its condition has held; R718; reset none. -/
  since    : Option Instant := none
  /-- Offset measured against unit time, ns; R725; reset 0. -/
  offset   : Int := 0
  /-- SUSPECT until this instant; R739; reset none. -/
  suspect  : Option Instant := none
  /-- Offset at the last evaluation at which both sources agreed, ns; R741; reset 0. -/
  agreed   : Int := 0
  /-- TAI−UTC the source reports, s; R715; reset none. -/
  tai      : Option Int := none
  /-- Announced next TAI−UTC and its unit time; R715; reset none. -/
  next     : Option (Int × UnitTime) := none
deriving DecidableEq, Repr

/-- The selected PTP master and the exchange in progress (R719 to R721). -/
structure Ptp where
  /-- Identity of the selected master; R720; reset none. -/
  master   : Option Nat := none
  /-- Port it is heard on; R720; reset BUS-A. -/
  bus      : Bus := .a
  /-- clockClass announced; R718; reset 0. -/
  cls      : Nat := 0
  /-- priority1, clockAccuracy, variance, priority2 and steps removed, for the comparison of R720; reset 0. -/
  dataset  : List Nat := []
  /-- clockAccuracy in ns, for R730; reset 0. -/
  accNs    : Nat := 0
  /-- ptpTimescale set; R718; reset 0. -/
  ptpScale : Bool := false
  /-- currentUtcOffsetValid; R718; reset 0. -/
  utcOk    : Bool := false
  /-- Announce interval, ns; R720; reset 0. -/
  annNs    : Nat := 0
  /-- logMinDelayReqInterval as ns; R720; reset 0. -/
  delayNs  : Nat := 0
  /-- Instant of the last Announce of the master; R720; reset none. -/
  annAt    : Option Instant := none
  /-- Instant the master last changed; R741; reset none. -/
  changeAt : Option Instant := none
  /-- Sequence and reception unit time of a two-step Sync that waits for its Follow_Up; R719; reset none. -/
  sync     : Option (Nat × UnitTime) := none
  /-- Sequence and transmission unit time of the Delay_Req under way; R721; reset none. -/
  req      : Option (Nat × UnitTime) := none
  /-- Instant of the last Delay_Req; R720; reset none. -/
  reqAt    : Option Instant := none
  /-- Sequence of the next Delay_Req; 16 bits; reset 0 (DESIGN CHOICE 3). -/
  reqSeq   : Nat := 0
  /-- Sync reception less master transmission, ns; R721; reset none. -/
  t21      : Option Int := none
  /-- Path delay, ns; R721; reset none. -/
  delay    : Option Int := none
  /-- Offset measurements of the last 10 s, with their instants; R718; reset none. -/
  offs     : List (Instant × Int) := []
deriving DecidableEq, Repr

/-- The TIME_REPORT of the next edge (R733, R735). -/
structure PpsReport where
  /-- Instant of the edge, unit time. -/
  edge    : UnitTime
  /-- Tap of the delay line. -/
  tap     : Nat
  /-- The edge lies at tick k + 1. -/
  carry   : Bool
  /-- Residual, ps. -/
  resid   : Int
  /-- The edge will be emitted, flag [0]. -/
  emit    : Bool
  /-- Content, 32 bytes, as sent. -/
  content : Bytes
deriving DecidableEq, Repr

/-- Time keeping of one controller (chapter 17). -/
structure TimeSt where
  /-- Unit time less the running clock as of the last change of the increment, ns; R712; reset 0. -/
  off      : Int := 0
  /-- Fraction of unit time below 1 ns, 2^−32 ns; R712; reset 0. -/
  frac     : Nat := 0
  /-- Steering increment, 2^−32 ns per tick of 10 ns; R712, R713; reset 0. -/
  steer    : Int := 0
  /-- Instant the increment last changed; R713; reset none. -/
  steerAt  : Option Instant := none
  /-- Integral term of the loop, 10^−6 of a unit of the increment; R725; reset 0. -/
  integ    : Int := 0
  /-- Instant from which the present increment has run; R712; reset 0. -/
  runAt    : Instant := 0
  /-- Time state; R717; reset UNSET. -/
  st       : TimeState := .unset
  /-- Governing source code, 0 none, 1 GNSS, 2 PTP, 3 HOLDOVER, 4 RTC; R717; reset 0. -/
  src      : Nat := 0
  /-- Unit time has been set since controller start; R718; reset 0. -/
  set      : Bool := false
  /-- Instant of entry to HOLDOVER; R718; reset none. -/
  holdAt   : Option Instant := none
  /-- The controller was LOCKED at this instant last; R718; reset none. -/
  lockedAt : Option Instant := none
  /-- Estimated error at the last change of state, ns; R730; reset 0. -/
  errBase  : Nat := 0
  /-- Instant of that change; R730; reset 0. -/
  errAt    : Instant := 0
  /-- GNSS as a source. -/
  gnss     : Src := {}
  /-- PTP as a source. -/
  ptp      : Src := {}
  /-- The PTP clock. -/
  ptpc     : Ptp := {}
  /-- Evaluations in a row that found GNSS and PTP more than 10 µs apart; R741; reset 0. -/
  apart    : Nat := 0
  /-- Arbitration falls due; R741; reset none. -/
  arbAt    : Option Instant := none
  /-- A step of this size waits for its window; R726; reset none. -/
  stepDue  : Option (Int × Nat) := none
  /-- TAI−UTC, s; R716; reset 37. -/
  tai      : Int := 37
  /-- Unit time at which it took effect; R13; reset 0. -/
  taiAt    : UnitTime := 0
  /-- Announced next TAI−UTC and its unit time; R715; reset none. -/
  taiNext  : Option (Int × UnitTime) := none
  /-- TAI_UTC_DISAGREE; R716; reset 0. -/
  taiBad   : Bool := false
  /-- Since when the offsets have stood on the side that would change TAI_UTC_DISAGREE; R716; reset none. -/
  taiSince : Option Instant := none
  /-- TIME_PAIR_DIFF; R738; reset 0. -/
  pairBad  : Bool := false
  /-- Since when the difference has stood on the side that would change it; R738; reset none. -/
  pairSince : Option Instant := none
  /-- The controller has taken a time of the pair since its start: its peer's, or its own as ACTIVE; R745; reset 0. -/
  joined   : Bool := false
  /-- Standby less ACTIVE time, ns; R619; reset none. -/
  pairDiff : Option Int := none
  /-- TIME_SOURCE_RANGE; R739; reset 0. -/
  rangeBad : Bool := false
  /-- TCXO frequency table, (bin, ppt); R728; reset empty. -/
  tcxoBins : List (Nat × Int) := []
  /-- TCXO ageing rate, ppt per day; R728; reset 0. -/
  tcxoAge  : Int := 0
  /-- N_CAL of the PPS line; 8 bits; R732; reset 0 (R653). -/
  nCal     : Nat := 0
  /-- DLY_FAULT of the PPS line; R732; reset 0. -/
  dlyFault : Bool := false
  /-- Calibrations in a row not valid, and valid; R732; reset 0. -/
  calBad   : Nat := 0
  /-- Calibrations in a row that were valid; R732; reset 0. -/
  calGood  : Nat := 0
  /-- The TIME_REPORT sent last; R735; reset none. -/
  report   : Option PpsReport := none
  /-- The last edge counted, emitted or not; R726, R740; reset none. -/
  edgeAt   : Option UnitTime := none
  /-- The last edge emitted; R740; reset none. -/
  lastPps  : Option UnitTime := none
  /-- PPS_OUT is high; R731; reset 0. -/
  ppsHigh  : Bool := false
  /-- Instant of the emitted edge; R731; reset 0. -/
  ppsAt    : Instant := 0
  /-- Residual of the last edge, ps; R619; reset 0. -/
  resid    : Int := 0
  /-- Unit time of the last step; R727; reset none. -/
  stepAt   : Option UnitTime := none
  /-- A step has happened since the previous report; R735; reset 0. -/
  stepped  : Bool := false
  /-- TCXO_FAIL; R743; reset 0. -/
  tcxoFail : Bool := false
deriving DecidableEq, Repr

/-- One band of one tracker (R756 to R764). -/
structure TrkBand where
  /-- Locked; R758; reset 0. -/
  lock    : Bool := false
  /-- C/N0, 0.01 dB-Hz; R762; reset 0. -/
  cn0     : Nat := 0
  /-- Since when C/N0 has stayed below 22 dB-Hz; R758; reset none. -/
  weak    : Option Instant := none
  /-- Since when the phase-lock indicator has stayed below 0.6; R758; reset none. -/
  loose   : Option Instant := none
  /-- Lost, and searched again since this instant; R758; reset none. -/
  lostAt  : Option Instant := none
  /-- Instant of carrier lock; R762; reset 0. -/
  lockAt  : Instant := 0
  /-- Slip flag of the next record; R758; reset 0. -/
  slip    : Bool := false
  /-- Since when VE or VL has exceeded prompt; R758; reset none. -/
  sideSince : Option Instant := none
  /-- Code phase of the replica within the primary code, chips in 2^−32, as of `at_`; R757, R763; reset 0. -/
  code    : Int := 0
  /-- Carrier phase since carrier lock, cycles in 2^−32, as of `at_`; R763; reset 0. -/
  phase   : Int := 0
  /-- Carrier frequency above nominal, µHz: the Doppler that the loops follow; R757, R762; reset 0. -/
  freq    : Int := 0
  /-- Second integrator of the carrier loop, µHz; R757; reset 0. -/
  vel     : Int := 0
  /-- First integrator of the carrier loop, µHz per s; R757; reset 0. -/
  acc     : Int := 0
  /-- Prompt correlator of the integration before, for the cross-product; R757; reset none. -/
  prompt  : Option (Int × Int) := none
  /-- Bit or secondary-code synchronisation, which brings the integration to 20 ms; 1 bit; R757; reset 0. -/
  sync    : Bool := false
  /-- Instant to which code and carrier phase have been carried; R761; reset 0. -/
  at_     : Instant := 0
  /-- Epochs over which the pseudorange has been smoothed; R769; reset 0. -/
  smoothN : Nat := 0
  /-- Carrier-smoothed pseudorange, mm; R769; reset 0. -/
  smooth  : Int := 0
  /-- Pseudorange of the last epoch from the code, mm; R769, R778; reset 0. -/
  range   : Int := 0
  /-- Carrier phase at the last epoch, cycles in 2^−32; R769; reset 0. -/
  epPhase : Int := 0
  /-- Since when a correlator ratio has departed by more than 0.2; R778; reset none. -/
  shapeSince : Option Instant := none
  /-- The record of the last epoch, 32 bytes; R762; reset none. -/
  record  : Option Bytes := none
deriving DecidableEq, Repr

/-- One tracker (R756, R759). -/
structure Trk where
  /-- Satellite, coded as in R762: number in [5:0], system in [6]; none for idle; R661; reset none. -/
  sat     : Option Nat := none
  /-- L1/E1. -/
  l1      : TrkBand := {}
  /-- L5/E5a. -/
  l5      : TrkBand := {}
  /-- Hand-over under way since this instant; R755; reset none. -/
  handAt  : Option Instant := none
  /-- A hand-over was abandoned and is retried from here; R755; reset none. -/
  handRetry : Option Instant := none
  /-- Ionospheric delay of the last 60 s as the codes and as the carriers show it, mm, with the instants; R778; reset empty. -/
  ionoHist : List (Instant × Int × Int) := []
deriving DecidableEq, Repr

/-- One notch filter (R774). -/
structure Notch where
  /-- Engaged; R661; reset 0. -/
  on      : Bool := false
  /-- Frequency from band centre, kHz; R661; reset 0. -/
  khz     : Int := 0
  /-- Depth, dB; R661; reset 0. -/
  depth   : Nat := 0
  /-- Since when the line has stayed below 6 dB; R774; reset none. -/
  lowSince : Option Instant := none
deriving DecidableEq, Repr

/-- Jamming classes of R777. -/
inductive Jam where
  | clear | interference | jamming
deriving DecidableEq, Repr

/-- One band of the baseband (R774 to R777). -/
structure BandSt where
  /-- Notches 0 and 1 of the band. -/
  n0      : Notch := {}
  /-- Second notch. -/
  n1      : Notch := {}
  /-- Spectra in a row in which the strongest free line stood 12 dB or more above the median; R774; reset 0. -/
  count   : Nat := 0
  /-- Notch enable of GNSS_CTRL; R661; reset 1. -/
  en      : Bool := true
  /-- Jamming indicator; 8 bits; R776; reset 0. -/
  jam     : Nat := 0
  /-- Class; R777; reset CLEAR. -/
  cls     : Jam := .clear
  /-- Since when the indicator has stood below the level that leaves the class; R777; reset none. -/
  lowSince : Option Instant := none
  /-- Noise floor, 0.1 dB; R776; reset 0 (DESIGN CHOICE 3: the card's stored value comes with its first frame). -/
  floor   : Int := 0
  /-- Floor at the start of the running day, for the 0.5 dB per day; R776; reset 0. -/
  dayFloor : Int := 0
  /-- Start of the running day; R776; reset 0. -/
  dayAt   : Instant := 0
  /-- Sum of the band power of the running 10 s, 0.1 dB; R776; reset 0. -/
  sum     : Int := 0
  /-- Number of values in it, to 100; R776; reset 0. -/
  cnt     : Nat := 0
  /-- Lowest 10 s mean of the running day; R776; reset none. -/
  dayMin  : Option Int := none
  /-- Lowest 10 s means of the six days before; R776; reset none. -/
  days    : List Int := []
  /-- AGC, 0.5 dB; R661; reset 0. -/
  agc     : Nat := 0
deriving DecidableEq, Repr

/-- An ephemeris set in the retention SRAM (R766). -/
structure Eph where
  /-- Satellite, coded as in R762. -/
  sat     : Nat
  /-- Time of reception, unit time. -/
  at_     : UnitTime
  /-- Reference time, unit time. -/
  ref     : UnitTime
  /-- The satellite is marked healthy. -/
  healthy : Bool
deriving DecidableEq, Repr

/-- A position fix (R770 to R773). -/
structure Fix where
  /-- Fix code, 0 to 2; R770. -/
  code    : Nat := 0
  /-- Latitude, 10^−7 °. -/
  lat     : Int := 0
  /-- Longitude, 10^−7 °. -/
  lon     : Int := 0
  /-- Height, mm. -/
  height  : Int := 0
  /-- Instant, unit time. -/
  time    : UnitTime := 0
  /-- Horizontal uncertainty, 0.1 m. -/
  unc     : Nat := 0
  /-- Satellites used. -/
  sats    : Nat := 0
  /-- Ionosphere-free. -/
  iono    : Bool := false
  /-- Rate of the latitude, 10^−10 ° per s; R770, R772. -/
  dLat    : Int := 0
  /-- Rate of the longitude, 10^−10 ° per s. -/
  dLon    : Int := 0
  /-- Vertical speed, mm/s. -/
  up      : Int := 0
  /-- Position in WGS 84, earth-centred, mm; R778. -/
  pos     : Vector Int 3 := Vector.replicate 3 0
  /-- Velocity, mm/s; R772. -/
  vel     : Vector Int 3 := Vector.replicate 3 0
deriving DecidableEq, Repr

/-- A capture that runs or is held (R780 to R786). -/
structure Snap where
  /-- Capture ID. -/
  id      : Nat
  /-- Length, ms. -/
  len     : Nat
  /-- L1/E1 in the band mask. -/
  b1      : Bool
  /-- L5/E5a in the band mask. -/
  b5      : Bool
  /-- Processing: 0 on-chip, 1 held for the host. -/
  proc    : Nat
  /-- Instant of the first sample, unit time. -/
  start   : UnitTime
  /-- Scheduled capture. -/
  sched   : Bool
  /-- Request to be answered when the samples are stored. -/
  req     : Option Request
  /-- Frames were erased while it ran. -/
  erased  : Bool := false
  /-- Unit time was UNSET at its start. -/
  unset   : Bool := false
  /-- Bytes 28 to 39 of the header, as they stood at the start: card clock, estimated error, AGC and jamming indicators. -/
  at_     : Bytes := []
  /-- Samples stored. -/
  stored  : Bool := false
  /-- The file, once held; R782. -/
  file    : Bytes := []
deriving DecidableEq, Repr

/-- The GNSS baseband of one controller (chapter 18). -/
structure Gnss where
  /-- The baseband runs; R794; reset 0. -/
  run      : Bool := false
  /-- GNSS_BASEBAND_FAULT; R793; reset 0. -/
  fault    : Bool := false
  /-- Instant of the last FFT self-test since the start; R793, R938; reset none. -/
  fftAt    : Option Instant := none
  /-- GNSS_CARD_FAULT; R793; reset 0. -/
  cardBad  : Bool := false
  /-- Since when every condition of GNSS_CARD_FAULT has been clear; R793; reset none. -/
  cardSince : Option Instant := none
  /-- Since when the AGC has stood at its limit on both bands; R793; reset none. -/
  agcSince : Option Instant := none
  /-- Since when the magnitude bits have been out of 15 % to 50 %; R793; reset none. -/
  magSince : Option Instant := none
  /-- Since when the card clock has been more than 50 ppm from unit time; R793; reset none. -/
  ppmSince : Option Instant := none
  /-- GNSS card clock against unit time, 0.001 ppm; R782; reset 0. -/
  ppm      : Int := 0
  /-- Instant of the last valid sample frame; R793; reset none. -/
  frameAt  : Option Instant := none
  /-- SAMPLE_ERR; 32 bits, cleared on read; R661; reset 0. -/
  sampleErr : Nat := 0
  /-- Frames and erased frames of the running second; R793; reset 0. -/
  secFrames : Nat := 0
  /-- Frames erased in the running second; R793; reset 0. -/
  secErased : Nat := 0
  /-- Start of the running second; R793; reset 0. -/
  secAt    : Instant := 0
  /-- GNSS_LINK_DEGRADED; R793; reset 0. -/
  linkBad  : Bool := false
  /-- Since when the erased frames have stayed below 0.01 %; R793; reset none. -/
  linkSince : Option Instant := none
  /-- GNSS_NO_SIGNAL; R793; reset 0. -/
  noSignal : Bool := false
  /-- Since when no satellite has been tracked; R793; reset none. -/
  idleSince : Option Instant := none
  /-- Trackers 0 to 31; R756. -/
  trk      : Vector Trk 32 := Vector.replicate 32 {}
  /-- Satellites whose search has failed, the earliest first: searched again after every other candidate, with K = 16; R752, R754; reset none. -/
  failed   : List Nat := []
  /-- Blocks summed in the last search: 4, or 16 for a satellite that had failed; R752; reset 0. -/
  blocks   : Nat := 0
  /-- L1/E1. -/
  l1       : BandSt := {}
  /-- L5/E5a. -/
  l5       : BandSt := {}
  /-- GNSS_RATE in force, Hz; R787; reset 1. -/
  rate     : Nat := 1
  /-- Receiver clock of the last solution against unit time, ns; R778; reset none. -/
  clock    : Option Int := none
  /-- Noise floors as kept with the almanac in MRAM, L1/E1 and L5/E5a, 0.1 dB; R767; reset none. -/
  floors   : Option (Int × Int) := none
  /-- Epoch last latched, unit time; R760, R792; reset none. -/
  epochAt  : Option UnitTime := none
  /-- Fix of the last epoch; R770. -/
  fix      : Fix := {}
  /-- Last good fix; R772; reset none. -/
  good     : Option Fix := none
  /-- The last good fix was kept in the retention SRAM through a logic outage; R809; reset 0. -/
  goodOld  : Bool := false
  /-- The last check failed; R779; reset 0. -/
  checkBad : Bool := false
  /-- GNSS_INCONSISTENT; R779; reset 0. -/
  incons   : Bool := false
  /-- Since when the check has passed at every epoch; R779; reset none. -/
  passSince : Option Instant := none
  /-- Ephemeris sets in the retention SRAM; R766; reset none. -/
  eph      : List Eph := []
  /-- EPHEMERIS_LOST; R793; reset 0. -/
  ephLost  : Bool := false
  /-- Almanac held and valid in MRAM; R767; reset 0. -/
  alm      : Bool := false
  /-- Instant of the last almanac write; R767; reset none. -/
  almAt    : Option Instant := none
  /-- ALMANAC_LOST; R793; reset 0. -/
  almLost  : Bool := false
  /-- Warm start; R794; reset 0. -/
  warm     : Bool := false
  /-- Next capture ID; R786; reset 1. -/
  snapId   : Nat := 1
  /-- Capture that runs; bound 6; R789; reset none. -/
  snapRun  : Option Snap := none
  /-- Capture held; R636; reset none. -/
  snapHeld : Option Snap := none
  /-- Multiple of SNAP_INTERVAL that was last served; R781; reset none. -/
  schedAt  : Option UnitTime := none
deriving DecidableEq, Repr

/-- The antenna and its bias, on the GNSS card (chapter 02). -/
structure Ant where
  /-- The GNSS card is present; R795; reset 1 (DESIGN CHOICE 4). -/
  card     : Bool := true
  /-- Bias at ANT, coded as ANT_BIAS: 0 none, 1 3.3 V, 2 5.0 V; R86, R100; reset 0. -/
  bias     : Nat := 0
  /-- Bias current, mA; R661; reset 0. -/
  ma       : Nat := 0
  /-- ANT_OPEN; R100; reset 0. -/
  open_    : Bool := false
  /-- Since when the current has stood on the side that would change ANT_OPEN; R100; reset none. -/
  openSince : Option Instant := none
  /-- ANT_SHORT; R100; reset 0. -/
  short    : Bool := false
  /-- Since when the current has stood at the limit; R100; reset none. -/
  shortSince : Option Instant := none
  /-- Since when the bias has stood reapplied below the limit; R100; reset none. -/
  belowSince : Option Instant := none
  /-- Bias is reapplied from this instant; R100; reset none. -/
  reapply  : Option Instant := none
deriving DecidableEq, Repr

/-- What a queued SPI or window operation does (chapter 16). -/
inductive ExpKind where
  | read (addr len : Nat)
  | write (addr : Nat) (data : Bytes)
  | erase (addr size : Nat)
  | xfer (sel bits : Nat) (frames : List Nat)
deriving DecidableEq, Repr

/-- Progress of the operation that runs: not begun, its write enable sent, its program or erase released, polling. -/
inductive ExpStep where
  | queued | enabled | polling
deriving DecidableEq, Repr

/-- One operation of the SPI engine's queue (R691, R700). -/
structure ExpOp where
  /-- What it does. -/
  kind   : ExpKind
  /-- The request it answers. -/
  req    : Request
  /-- Progress. -/
  st     : ExpStep := .queued
  /-- Instant of the release of the program or erase select; R698. -/
  relAt  : Instant := 0
  /-- The next poll is due from this instant; R698. -/
  pollAt : Instant := 0
deriving DecidableEq, Repr

/-- The expansion port of one controller (chapter 16). -/
structure Exp where
  /-- This controller drives the pins; R684; reset 0. -/
  drive   : Bool := false
  /-- Configuration in force: items 0x0901 to 0x0907; R687; reset none (defaults). -/
  items   : Items := []
  /-- Operations accepted and not yet answered, first in, first out; R691; reset empty. -/
  queue   : List ExpOp := []
  /-- The transaction that runs, and the operation it serves; R691; reset none. -/
  tx      : Option (SpiTx × ExpOp) := none
  /-- A transaction may start from this instant: 100 ns after the last release; R691, R694; reset 0. -/
  freeAt  : Instant := 0
  /-- DA[2:0] between transactions; R692, R693; reset 7. -/
  da      : Nat := 7
  /-- A commit has yet to take effect on the port; R687, R702; reset 0. -/
  newCfg  : Bool := false
  /-- Device busy bit at the last poll; R663; reset 0. -/
  busy    : Bool := false
  /-- JESD216 table found; R663; reset 0. -/
  sfdp    : Bool := false
  /-- Device absent; R663; reset 0. -/
  absent  : Bool := false
  /-- A probe is due before the next window operation; R702, R710; reset 0. -/
  probe   : Bool := false
  /-- WIN_JEDEC; 24 bits; R663; reset 0. -/
  jedec   : Nat := 0
  /-- WIN_TMO; 32 bits, cleared on read; R663; reset 0. -/
  tmo     : Nat := 0
  /-- Page size, density and erase sizes taken from the table, log2; R702; reset none. -/
  table   : Option (Nat × Nat × Nat) := none
  /-- WIN_DEVICE_ABSENT; R708; reset 0. -/
  absAl   : Bool := false
  /-- WIN_DEVICE_FAULT; R708; reset 0. -/
  fault   : Bool := false
  /-- WIN_UNSUPPORTED; R708; reset 0. -/
  unsupp  : Bool := false
  /-- Busy time of the last completed page program, µs; R704; reset none. -/
  lastUs  : Option Nat := none
  /-- Busy time of the last completed erase, µs; R704; reset none. -/
  lastErUs : Option Nat := none
  /-- The new ACTIVE waits for busy to read 0 before its first window operation; R707; reset 0. -/
  wait    : Bool := false
  /-- Instant from which that wait runs; R707; reset 0. -/
  waitAt  : Instant := 0
deriving DecidableEq, Repr

end Sys2Proof.Machine
end

