-- ==== Sys2Proof/Machine/Data/Controller.lean ====
section
/-!
DEFINITION. Machine/Data/Controller.lean: the state of one controller: its non-volatile memory (configuration, sessions,
journal, log, boot record, identity copy), its supplies and backup cell (chapter 03), its start and its claims (04), its
side of the pair link (21) and its registers (15).
-/
namespace Sys2Proof.Machine

/-- Controller roles, in the code order of R627. -/
inductive Role where
  | booting | electing | active | synced | unsynced | hold | service | faulted
deriving DecidableEq, Repr

/-- Boot causes, in the code order of R801 (R197). -/
inductive BootCause where
  | powerOn | powerFail | watchdog | lockstep | commanded | recovery
deriving DecidableEq, Repr

/-- State of a firmware image in the boot record, in the code order of FW_STATUS (R165, R631). -/
inductive ImgState where
  | invalid | trial | confirmed
deriving DecidableEq, Repr

/-- One image region (R163). -/
structure Image where
  /-- State in the boot record; R165. -/
  st     : ImgState := .invalid
  /-- Header, 128 bytes; R163; reset zeros (region empty). -/
  hdr    : Bytes := List.replicate 128 0
  /-- Signature and length checks of R164 hold for what the region stores; reset 0. -/
  sound  : Bool := false
deriving DecidableEq, Repr

/-- One copy of the boot record as MRAM holds it (R165, R167). -/
structure BootRec where
  /-- Preferred image: clear for A, set for B; R165; reset A (R992). -/
  prefB  : Bool := false
  /-- State of image A; R165; reset CONFIRMED (R992). -/
  stA    : ImgState := .confirmed
  /-- State of image B; R165; reset INVALID (R992: region B is empty). -/
  stB    : ImgState := .invalid
  /-- Trial start count; R165; reset 0. -/
  trials : Nat := 0
  /-- Sequence number; R167; reset 1 and 2 for copies 0 and 1 (DESIGN CHOICE 3). -/
  seq    : Nat := 1
  /-- CRC-32 correct; R167; reset 1. -/
  ok     : Bool := true
deriving DecidableEq, Repr

/-- The boot record and what it stands beside (R165 to R167): the record in force, the images, and the copies in MRAM. -/
structure Boot where
  /-- Preferred image: clear for A, set for B; R165; reset A (R992). -/
  prefB  : Bool := false
  /-- Region A; reset a CONFIRMED image of release 4.0 with mirror schema 4 for both issues (R1, R992: controllers are supplied so). -/
  imgA   : Image := { st := .confirmed, sound := true,
                      hdr := [0x43, 0x56, 0x4B, 0x46, 0, 1, 0, 4, 0, 0, 0, 4, 0, 0, 0, 0, 0, 0, 0, 0, 0, 0, 0, 3] ++ List.replicate 104 0 }
  /-- Region B; reset empty (R992). -/
  imgB   : Image := {}
  /-- Trial start count; R165; reset 0. -/
  trials : Nat := 0
  /-- The two copies in MRAM; R165, R167. -/
  recs   : Vector BootRec 2 := #v[{}, { seq := 2 }]
  /-- The copies before a write that the bisque stage of this start may still have in progress; R196; reset none. -/
  old    : Option (Vector BootRec 2) := none
  /-- Signing keys 0 and 1 are present in the keys-and-identity region; R164; reset 1 (DEDUCED: the delivered image runs; log entry 4). -/
  keys   : Vector Bool 2 := Vector.replicate 2 true
  /-- The recovery loader has stored an image since the last start; R197; reset 0 (log entry 3). -/
  recov  : Bool := false
  /-- Signing keys 0 and 1 revoked; R631; reset 0. -/
  revoked : Vector Bool 2 := Vector.replicate 2 false
deriving DecidableEq, Repr

/-- The contents of the code plug, and of the identity copy (R168). -/
structure Plug where
  /-- Unit serial number, 12 ASCII bytes. -/
  serial : Bytes := List.replicate 12 0x30
  /-- Commissioned configuration hash, 16 bytes. -/
  hash   : Bytes := List.replicate 16 0
  /-- Addresses of BUS-A and BUS-B; R492. -/
  addrA  : PortAddr := { unit := 0xC0A80A0A, ctrlA := 0xC0A80A0B, ctrlB := 0xC0A80A0C, mask := 0xFFFFFF00, gateway := 0 }
  /-- Addresses of BUS-B; R492. -/
  addrB  : PortAddr := { unit := 0xC0A80B0A, ctrlA := 0xC0A80B0B, ctrlB := 0xC0A80B0C, mask := 0xFFFFFF00, gateway := 0 }
  /-- CRC-32 correct. -/
  ok     : Bool := true
  /-- Blank, as a spare plug is supplied; R955. -/
  blank  : Bool := false
  /-- Bootstrap key, 32 bytes; R955, R961. -/
  bootKey : Bytes := List.replicate 32 0
  /-- Carrier record: hardware issue letter; R595, R955; reset 0x43, issue C (DESIGN CHOICE 4). -/
  issue  : Nat := 0x43
  /-- Carrier record: serial number, 12 ASCII bytes; R595, R955. -/
  carrier : Bytes := List.replicate 12 0x20
deriving DecidableEq, Repr

/-- HOST level and settings of a channel as journaled (R601). -/
structure HostSet where
  /-- Last committed HOST level; R180; reset OFF (DESIGN CHOICE 3). -/
  level : Level := .off
  /-- Journaled PWM settings; R601; reset by R288. -/
  pwm   : PwmSet := {}
  /-- Commands of R838 committed for the channel, counted. -/
  cmds  : Nat := 0
  /-- SET_PWM and settings of SET_GROUP committed for the channel, counted (R339). -/
  sets  : Nat := 0
  /-- The last change was shedding; R142. -/
  shed  : Bool := false
  /-- The last change was a restore at a claim; R180. -/
  rest  : Bool := false
deriving DecidableEq, Repr

/-- Energy counter of one channel in a controller (R357, R358). -/
structure Energy where
  /-- Counter, mWh; 64 bits; R357; reset 0. -/
  mwh    : Nat := 0
  /-- Remainder, µWh; R357; reset 0. -/
  rem    : Nat := 0
  /-- Serial number of the cartridge counted; R358; reset none. -/
  serial : Bytes := []
  /-- Accumulator value last counted from; R358; reset 0. -/
  base   : Nat := 0
  /-- Counter as written to MRAM; R383; reset 0. -/
  saved  : Nat := 0
  /-- Remainder as written with it; R383; reset 0. -/
  savedRem : Nat := 0
  /-- Accumulator baseline as written with it; R383; reset 0. -/
  savedBase : Nat := 0
deriving DecidableEq, Repr

/-- The hash of a blank configuration (R169, R612): every item at its default. The tests compare it with `configHash []`. -/
def blankHash : Bytes :=
  [0x0D, 0xCA, 0xCA, 0xFB, 0x71, 0x46, 0xA6, 0xE7, 0x55, 0x81, 0x43, 0x61, 0x19, 0x2A, 0x04, 0x17]

/-- One stored copy of the configuration (R169, R611). -/
structure CfgCopy where
  /-- Committed values that differ from their defaults. -/
  items : Items := []
  /-- Configuration epoch. -/
  epoch : Nat := 0
  /-- Configuration hash, 16 bytes; R612. -/
  hash  : Bytes := blankHash
  /-- The copy is valid; R169; reset 0. -/
  ok    : Bool := false
deriving DecidableEq, Repr

/-- What a controller keeps in its MRAM. -/
structure Mram where
  /-- Configuration in force: committed values that differ from their defaults; R611; reset none. -/
  items   : Items := []
  /-- Its epoch; 32 bits; R611; reset 0, blank (R169). -/
  epoch   : Nat := 0
  /-- Its hash, 16 bytes; R612; reset that of the blank configuration (R169). -/
  hash    : Bytes := blankHash
  /-- Configuration copies 1 and 2; R169; reset both not valid (never committed). -/
  copies  : Vector CfgCopy 2 := Vector.replicate 2 {}
  /-- FOREIGN: the code plug named another unit than the identity copy; R193; reset 0. -/
  foreign : Bool := false
  /-- Configuration set aside, not erased: by R193 (FOREIGN), R192 or R893; reset none. -/
  aside   : Option (Items × Nat × Bytes) := none
  /-- Journal and client sessions set aside, not erased: by R193 (FOREIGN) and R874; reset none. -/
  asideSess : Option (List JSlot × Vector ClientSt 16) := none
  /-- Staging area; R608; reset empty. -/
  staging : Option Staging := none
  /-- Client slots: keys, windows, subscriptions; R526 to R573. -/
  clients : Vector ClientSt 16 := Vector.replicate 16 {}
  /-- Leases, by channel; R546; reset free. -/
  leases  : Vector (Option Lease) 16 := Vector.replicate 16 none
  /-- Journal slots in use, at most 32, oldest first; R858; reset none. -/
  slots   : List JSlot := []
  /-- JSN of the next transaction; 64 bits; R857; reset 1 (DESIGN CHOICE 3). -/
  jsn     : Nat := 1
  /-- JSN of the last committed transaction; 64 bits; R857; reset 0. -/
  last    : Nat := 0
  /-- HOST levels and settings; R601. -/
  hosts   : Vector HostSet 16 := Vector.replicate 16 {}
  /-- Commanded currents of the loop outputs, µA, none before a SET_LOOP; R464; reset none. -/
  loops   : Vector (Option Nat) 4 := Vector.replicate 4 none
  /-- Event log; R802. -/
  log     : Log := {}
  /-- Cone record; R431. -/
  cone    : Cone := {}
  /-- Boot record; R165. -/
  boot    : Boot := {}
  /-- Identity copy; R168; reset empty. -/
  ident   : Option Plug := none
  /-- Energy counters; R357. -/
  energy  : Vector Energy 16 := Vector.replicate 16 {}
  /-- Charging mark; R152; reset 0. -/
  charging : Bool := false
  /-- The last POWER_FAIL flush was cut short; R152; reset 0. -/
  cut     : Bool := false
  /-- TAI−UTC, its instant and the next announced, as stored; R715. -/
  tai     : Option (Int × UnitTime × Option (Int × UnitTime)) := none
  /-- Mirror pages pass their checks; R882, R931; reset 1. -/
  pagesOk : Bool := true
deriving DecidableEq, Repr

/-- Backup cell states, in row order of R132. -/
inductive CellState where
  | absent | qualifying | precharge | qualified | weak | refused | failed
deriving DecidableEq, Repr

/-- Charger phases of R130. -/
inductive Charge where
  | off | constCurrent | constVoltage | precharge
deriving DecidableEq, Repr

/-- Logic supply, hold-up store and backup domain of one controller (chapter 03). -/
structure Supply where
  /-- LOGIC1 and LOGIC2, mV; R121; reset 0. -/
  logicMv  : Vector MilliVolt 2 := Vector.replicate 2 0
  /-- Their states, 0 ABSENT, 1 LOW, 2 PRESENT; R121; reset 0. -/
  logicSt  : Vector Nat 2 := Vector.replicate 2 0
  /-- LOGIC_ABSENT of each; R150; reset 0. -/
  logicAl  : Vector Bool 2 := Vector.replicate 2 false
  /-- Since when each has been PRESENT after the alarm; R150; reset none. -/
  logicOk  : Vector (Option Instant) 2 := Vector.replicate 2 none
  /-- Logic rail, mV; R122; reset 0. -/
  railMv   : MilliVolt := 0
  /-- Since when the rail has stayed below 16 V; R124; reset none. -/
  lowSince : Option Instant := none
  /-- Lowest rail voltage of the dip; R124; reset 0. -/
  lowMin   : MilliVolt := 0
  /-- Since when the rail has been at or above 18 V; R126; reset none. -/
  goodSince : Option Instant := none
  /-- POWER_FAIL has been declared, and the reset hold runs; R125; reset 0. -/
  failing  : Bool := false
  /-- Instant step 7 was reached; R126; reset 0. -/
  step7At  : Instant := 0
  /-- Unit time of the declaration; R125; reset 0. -/
  failTime : UnitTime := 0
  /-- Energy in the hold-up store as last measured, parts per thousand of the charged store (E / E_full); R123; reset 0. -/
  store    : Nat := 0
  /-- Predicted hold-up, ms; R617; reset 0. -/
  holdup   : Nat := 0
  /-- Instant of the last prediction since the start; R150, R938; reset none. -/
  holdupAt : Option Instant := none
  /-- HOLDUP_LOW; R150; reset 0. -/
  holdupAl : Bool := false
  /-- Cell state; R132; reset ABSENT (DESIGN CHOICE 4). -/
  cell     : CellState := .absent
  /-- Instant of entry to the cell state; R133; reset 0. -/
  cellAt   : Instant := 0
  /-- Cell voltage, mV; R617; reset 0. -/
  cellMv   : MilliVolt := 0
  /-- Last load test: 0 none, 1 pass, 2 fail; R617; reset 0. -/
  loadTest : Nat := 0
  /-- Start of the running 24 h of running time, counted from the controller's start; R135; reset 0. -/
  loadAt   : Instant := 0
  /-- Changes of the cell state not logged yet, as (old, new, cell voltage); R132; reset none. -/
  cellEv   : List (CellState × CellState × MilliVolt) := []
  /-- Charger; R130; reset off. -/
  charge   : Charge := .off
  /-- CHARGER_FAULT; R150; reset 0. -/
  chargeAl : Bool := false
  /-- The backup domain runs from the cell; R129; reset 0. -/
  onCell   : Bool := false
  /-- Clock-valid flag of the backup domain; R151; reset 0. -/
  clockOk  : Bool := false
  /-- RTC less the running clock, ns; R744; reset 0. -/
  rtcOff   : Int := 0
  /-- Time quality copied into the backup domain: estimated error, ns, and the instant; R746; reset none. -/
  quality  : Option (Nat × Instant) := none
  /-- TAI−UTC, its unit time and the announced change, in the backup domain; R715, R744; reset none. -/
  keptTai  : Option (Int × UnitTime × Option (Int × UnitTime)) := none
  /-- Time state code and TCXO tables copied into the backup domain; R728, R746; reset none. -/
  keptTcxo : Option (Nat × List (Nat × Int) × Int) := none
  /-- CTRL_TSD latched, with the stored RTC time; R430; reset none. -/
  tsd      : Option UnitTime := none
  /-- The core is without supply by R430; reset 0. -/
  tsdOff   : Bool := false
  /-- CTRL_DIE, 0.1 °C; R423; reset 0 (CTRL_TEMP, R653). -/
  ctrlDie  : DeciDeg := 0
  /-- CTRL_BOARD, 0.1 °C; R423; reset 0 (CTRL_TEMP, R653). -/
  ctrlBoard : DeciDeg := 0
  /-- CTRL_HOT; R429; reset 0. -/
  ctrlHot  : Bool := false
deriving DecidableEq, Repr

/-- What a controller has seen of a cartridge in its status frames (R161, R869). -/
structure Seen where
  /-- Instant of the last status frame; reset none. -/
  at_     : Option Instant := none
  /-- Holder reported. -/
  holder  : Option Ctl := none
  /-- Claim epoch reported. -/
  epoch   : Nat := 0
  /-- IMG_JSN reported. -/
  imgJsn  : Nat := 0
  /-- JSN of the latest armed application reported. -/
  armJsn  : Nat := 0
  /-- Limp digest reported. -/
  digest  : Nat := 0
  /-- REMOVING reported. -/
  removing : Bool := false
  /-- LEFT reported. -/
  left    : Bool := false
  /-- HOLDER_FRESH reported; R856. -/
  fresh   : Bool := false
  /-- Channel state words reported, positions 1 to 4; R161. -/
  words   : List Nat := [0x18, 0x18, 0x18, 0x18]
  /-- Changes of each of these words counted, for reports that merge them; R599; reset 0. -/
  moves   : List Nat := [0, 0, 0, 0]
  /-- Channel state words last logged; R813. -/
  logged  : List Nat := [0x18, 0x18, 0x18, 0x18]
  /-- A trip stood in force at each position when its channel was last logged, also where a higher state hid it; R221, R238. -/
  trips   : Vector Bool 4 := Vector.replicate 4 false
  /-- Serial number reported; R358. -/
  serial  : Bytes := []
  /-- SLOT_LEAVE has been logged; R411. -/
  leaveLog : Bool := false
  /-- The cartridge was in service, so that its loss is one; R419. -/
  served  : Bool := false
deriving DecidableEq, Repr

/-- Progress of a claim (R176). -/
inductive ClaimSt where
  | idle | requested | acked | sent | held
deriving DecidableEq, Repr

/-- A controller's claim of one cartridge. -/
structure Claim where
  /-- Progress; R176; reset idle. -/
  st      : ClaimSt := .idle
  /-- Claim epoch sent; R176; reset 0. -/
  epoch   : Nat := 0
  /-- Limp digest of the CLAIM_ACK; R176; reset 0. -/
  digest  : Nat := 0
  /-- The cartridge reported limp-home at the CLAIM_ACK, so that the claim restores; R180, R184; reset 0. -/
  limp    : Bool := false
  /-- JSN of the restore transaction; R176; reset 0. -/
  jsn     : Nat := 0
  /-- Instant of the last step, for the 20 ms; R189; reset 0. -/
  at_     : Instant := 0
  /-- Failed attempts in a row; R189; reset 0. -/
  fails   : Nat := 0
  /-- CART_UNCLAIMED; R189; reset 0. -/
  unclaimed : Bool := false
  /-- CLAIM_EXHAUSTED; R190; reset 0. -/
  exhausted : Bool := false
  /-- A CART_EPOCH_RESET waits for the end of this claim; R970; reset 0. -/
  reset   : Bool := false
  /-- A retry is due at this instant; R189; reset none. -/
  retryAt : Option Instant := none
deriving DecidableEq, Repr

/-- An alarm (R616). -/
structure Alarm where
  /-- Event code of the onset record. -/
  code   : Nat
  /-- Index: channel, pair, slot, port and so on. -/
  index  : Nat
  /-- Active. -/
  active : Bool
  /-- Onset, unit time. -/
  onset  : UnitTime
  /-- Onsets since controller start. -/
  count  : Nat
deriving DecidableEq, Repr

/-- One lane of the pair link as a controller sees it (R854). -/
structure Lane where
  /-- The lane is up; R854; reset 0 (no frame has come). -/
  up     : Bool := false
  /-- Windows in a row without a valid frame; R854; reset 0. -/
  miss   : Nat := 0
  /-- Windows in a row with one; R854; reset 0. -/
  good   : Nat := 0
  /-- A valid frame came in the running window; reset 0. -/
  now_   : Bool := false
deriving DecidableEq, Repr

/-- A firmware transfer that is open to a controller (R632). -/
structure Transfer where
  /-- The client that opened it. -/
  client : Client
  /-- Region B is the target, else A. -/
  toB    : Bool
  /-- Header, 128 bytes. -/
  hdr    : Bytes
  /-- Body length. -/
  len    : Nat
  /-- Bytes received: (offset, data), disjoint, in rising order. -/
  parts  : List (Nat × Bytes)
  /-- Instant of its FW_BEGIN. -/
  at_    : Instant
deriving DecidableEq, Repr

/-- The ELECT record (R170). -/
structure Elect where
  /-- Role. -/
  role   : Role
  /-- Mirror schema number. -/
  schema : Nat
  /-- Configuration epoch. -/
  epoch  : Nat
  /-- Configuration hash. -/
  hash   : Bytes
  /-- Firmware release line. -/
  line   : Nat
  /-- Unit serial number held, or empty. -/
  serial : Bytes
deriving DecidableEq, Repr

/-- What a heartbeat carries (R853), beside the log records and the acknowledgements, which the receiver takes from the sender's state (log entry 8). -/
structure Beat where
  /-- Role. -/
  role   : Role
  /-- Unit mode in the sender's view, as in R595. -/
  mode   : Nat
  /-- Mirror schema number. -/
  schema : Nat
  /-- Release line. -/
  line   : Nat
  /-- Release minor. -/
  minor  : Nat
  /-- Configuration epoch. -/
  epoch  : Nat
  /-- Configuration hash. -/
  hash   : Bytes
  /-- Claim holder and claim epoch that it reads from each cartridge. -/
  tokens : Vector (Option Ctl × Nat) 4
  /-- Last committed JSN. -/
  last   : Nat
  /-- Unit time at transmission. -/
  time   : UnitTime
  /-- Instant of transmission: the receiver measures the link delay (R737). -/
  at_    : Instant
  /-- RELINQUISH; R877. -/
  relinq : Bool
deriving DecidableEq, Repr

/-- A controller. -/
structure Ctlr where
  /-- A controller is in the slot; R27; reset 1 (DESIGN CHOICE 4). -/
  fitted   : Bool := true
  /-- The core is powered and out of its supply's reset; R157; reset 0. -/
  powered  : Bool := false
  /-- Serial number, 12 ASCII bytes; R595; reset spaces (DESIGN CHOICE 4). -/
  serial   : Bytes := List.replicate 12 0x20
  /-- Hardware issue letter; R1; reset 0x43, issue C (DESIGN CHOICE 4). -/
  issue    : Nat := 0x43
  /-- Role; R876; reset BOOTING. -/
  role     : Role := .booting
  /-- HOLD or FAULTED cause, coded as in R627; reset 0. -/
  cause    : Nat := 0
  /-- The controller drives its takeover line TAKE; R468, R469; reset 0. -/
  take     : Bool := false
  /-- STANDBY_UNSYNCED cause, 1 to 6; R876; reset 0. -/
  unsync   : Nat := 0
  /-- Instant of the last role change, unit time; R627; reset 0. -/
  roleAt   : UnitTime := 0
  /-- Instant of the last role change on the running clock, for R166 and R195; reset 0. -/
  roleIn   : Instant := 0
  /-- Its cause: event code, low byte; R627; reset 0. -/
  roleEv   : Nat := 0
  /-- Since when the controller has held ACTIVE or STANDBY_SYNCED without a break; R166; reset none. -/
  okFrom   : Option Instant := none
  /-- Instant of the last ROLE_SWAP; R888; reset none. -/
  swapAt   : Option Instant := none
  /-- Boot cause; R197; reset POWER_ON. -/
  boot     : BootCause := .powerOn
  /-- Reference instant; R157; reset 0. -/
  refAt    : Instant := 0
  /-- The five milestones of R158, as instants; reset none. -/
  miles    : Vector (Option Instant) 5 := Vector.replicate 5 none
  /-- The START record has been formed; R159; reset 0. -/
  started  : Bool := false
  /-- Instants of resets by the bisque stage since firmware last ran; R194; reset none. -/
  bootRst  : List Instant := []
  /-- What the bisque stage found, to be logged at firmware running, as (event code, old, new); R188, R193, R152; reset none. -/
  bootEv   : List (Nat × Nat × Nat) := []
  /-- Running image: clear for A, set for B; R653; reset A. -/
  imgB     : Bool := false
  /-- Command-ready; R187; reset 0. -/
  ready    : Bool := false
  /-- FAIL_N asserted; R855; reset 1 (an unpowered controller reads as asserted). -/
  failN    : Bool := true
  /-- The peer's FAIL_N as last acted on; R855; reset 1. -/
  peerFail : Bool := true
  /-- Since when the peer has held FAIL_N asserted or has read as unpowered; R895; reset none. -/
  peerGone : Option Instant := none
  /-- Lanes 0 and 1 of the pair link; R854. -/
  lanes    : Vector Lane 2 := Vector.replicate 2 {}
  /-- Heartbeat windows missed in a row, 8 bits; R854; reset 0. -/
  missed   : Nat := 0
  /-- Instant of the last valid heartbeat; R854; reset none. -/
  beatAt   : Option Instant := none
  /-- PAIR_LINK_DOWN raised, as the mask of lanes down; R900; reset 0. -/
  linkAl   : Nat := 0
  /-- Instant from which the next heartbeat is due; R853; reset 0. -/
  beatDue  : Instant := 0
  /-- The heartbeat sent last and not yet received; R853; reset none. -/
  beatTx   : Option Beat := none
  /-- The heartbeat received last from the peer; R853; reset none. -/
  beat     : Option Beat := none
  /-- The ELECT record sent last; R170; reset none. -/
  electTx  : Option Elect := none
  /-- Last ELECT record received from the peer; R170; reset none. -/
  elect    : Option Elect := none
  /-- The backplane presence line shows the peer powered, as last read; R877; reset 0. -/
  peerOn   : Bool := false
  /-- Mirror schema number of the running image; R2, R653; reset 4 (R1). -/
  schema   : Nat := 4
  /-- Release line; R653; reset 4 (R1). -/
  line     : Nat := 4
  /-- Release minor; R653; reset 0 (DESIGN CHOICE 4). -/
  minor    : Nat := 0
  /-- Build counter; R653; reset 0 (DESIGN CHOICE 4). -/
  build    : Nat := 0
  /-- Digest sent by the ACTIVE controller, with its JSN; R872; reset none. -/
  digest   : Option (Nat × Bytes) := none
  /-- Instant from which the next digest is due; R872; reset 0. -/
  digestAt : Instant := 0
  /-- DIGEST_MISMATCH alarm; R900; reset 0. -/
  digestAl : Bool := false
  /-- Ejector lever switch open; R943; reset 0. -/
  lever    : Bool := false
  /-- An open lever waits for a standby since this instant; R945; reset none. -/
  leverAt  : Option Instant := none
  /-- Views of the four cartridges; R161. -/
  seen     : Vector Seen 4 := Vector.replicate 4 {}
  /-- Claims of the four cartridges; R176. -/
  claims   : Vector Claim 4 := Vector.replicate 4 {}
  /-- Setpoint frames transmitted to each slot and not yet applied, the oldest first: that of the running frame slot and that of the next; R910; reset
  none. -/
  tx       : Vector (List Frame) 4 := Vector.replicate 4 []
  /-- Released image of the sixteen channels; R861, R866. -/
  image    : Vector Setpoint 16 := Vector.replicate 16 {}
  /-- JSN of the newest transaction the image reflects; R866; reset 0. -/
  imgJsn   : Nat := 0
  /-- Trips and clears waiting to be carried, per slot; R405, R270; reset none. -/
  acts     : Vector (List (Nat × Nat)) 4 := Vector.replicate 4 []
  /-- Voyage sequences to be acknowledged, per slot; R808; reset none. -/
  voyAck   : Vector (List Nat) 4 := Vector.replicate 4 []
  /-- Start of the next frame slot; R910, R917; reset 0. -/
  slotDue  : Instant := 0
  /-- Pending latch; R355; reset none. -/
  latchAt  : Option UnitTime := none
  /-- Completed latch: its instant; R618; reset none. -/
  latched  : Option UnitTime := none
  /-- Housekeeping record of the last completed round, 96 bytes; R617; reset zeros (no round yet). -/
  hk       : Bytes := List.replicate 96 0
  /-- Alarms raised since controller start; R616; reset none. -/
  alarms   : List Alarm := []
  /-- Open firmware transfer to this controller; R632; reset none. -/
  transfer : Option Transfer := none
  /-- PHYs of BUS-A and BUS-B; R488. -/
  phyA     : Phy := {}
  /-- PHY of BUS-B. -/
  phyB     : Phy := {}
  /-- Duplicate store; R504; reset empty. -/
  dups     : List DupEntry := []
  /-- Address change due, per port, with its instant; R493; reset none. -/
  addrDue  : List (Bus × PortAddr × Instant) := []
  /-- Addresses in use; R492; reset none until firmware running. -/
  addrs    : Option (PortAddr × PortAddr) := none
  /-- Line classes by the controller's own taps: LH1 to LH8, FLT1, FLT2; R822. -/
  lines    : Vector Line 10 := Vector.replicate 10 {}
  /-- LINE_STATE alarms; R847; reset 0. -/
  lineAl   : Vector Bool 10 := Vector.replicate 10 false
  /-- Start of the running 24 h period of the self-tests; R932; reset 0. -/
  testAt   : Instant := 0
  /-- Running time of that period as kept in MRAM while the core has no supply, ns; R939; reset 0. -/
  testRun  : Nat := 0
  /-- SCRUB_EN; R653; reset 1. -/
  scrubEn  : Bool := true
  /-- Instant of the last completed scrub pass; R653; reset none. -/
  scrubAt  : Option Instant := none
  /-- Start of the running scrub pass; R678, R930; reset 0. -/
  scrubIn  : Instant := 0
  /-- Part of a pass done when SCRUB_EN was cleared, ns; R672, R930; reset 0. -/
  scrubRun : Nat := 0
  /-- Completed scrub passes; 16 bits; R653; reset 0. -/
  scrubs   : Nat := 0
  /-- MRAM_CE; 32 bits, cleared on read; R653; reset 0. -/
  mramCe   : Nat := 0
  /-- SRAM_CE; 32 bits, cleared on read; R653; reset 0. -/
  sramCe   : Nat := 0
  /-- PAIR_ERR; 32 bits, cleared on read; R653; reset 0. -/
  pairErr  : Nat := 0
  /-- CLINK_ERR1 to 4; 32 bits, cleared on read; R653; reset 0. -/
  linkErr  : Vector Nat 4 := Vector.replicate 4 0
  /-- UTIME_LO as latched; R651; reset none (live value). -/
  utimeLo  : Option Nat := none
  /-- DIRECT_WRITE alarm; R682; reset 0. -/
  directAl : Bool := false
  /-- Addresses logged by STALE_REG since the housekeeping round last ran; R679; reset empty. -/
  stale    : List Nat := []
  /-- Supplies; chapter 03. -/
  sup      : Supply := {}
  /-- Time keeping; chapter 17. -/
  time     : TimeSt := {}
  /-- GNSS baseband; chapter 18. -/
  gnss     : Gnss := {}
  /-- Expansion port; chapter 16. -/
  exp      : Exp := {}
  /-- Non-volatile memory. -/
  mram     : Mram := {}
deriving DecidableEq, Repr

end Sys2Proof.Machine
end

