-- ==== Sys2Proof/Machine/Items.lean ====
section
/-!
DEFINITION. Machine/Items.lean: the configuration items of R613, with the index, size, default, range and step that the
deciding rule of each gives, and the lookups of values in force.
-/
namespace Sys2Proof.Machine

/-- What an item's index counts (R613): channels, pairs, loops, speed inputs, ports, client slots, cartridge slots, auxiliary
timers, or the unit. -/
inductive IxKind where
  | ch | pr | lp | tc | pt | sl | ct | at_ | un
deriving DecidableEq, Repr

/-- The values of an item that do not depend on another item. -/
inductive Range where
  /-- From `lo` to `hi` in steps of `step`. -/
  | span (lo hi step : Nat)
  /-- The same, or 0. -/
  | zeroOr (lo hi step : Nat)
  /-- One of a list. -/
  | oneOf (l : List Nat)
  /-- Every value of the item's size. -/
  | any
  /-- FLT_MODE, field by field; R613. -/
  | fltMode
  /-- LIMP_PWM, its period and its on-time; R834. -/
  | limpPwm
  /-- PORT_WATCH: 0 or a unicast address; R489. -/
  | watch
  /-- BLANK_SEL, its LENGTH; R320. -/
  | blankSel
  /-- TIME_ORDER; R722. -/
  | timeOrder
  /-- WIN_PARAMS, byte by byte; R701. -/
  | winParams
deriving DecidableEq, Repr

/-- A row of the item table. -/
structure ItemRow where
  /-- Item ID. -/
  id   : Nat
  /-- Index. -/
  kind : IxKind
  /-- Size in bytes. -/
  size : Nat
  /-- Default. -/
  dflt : Nat
  /-- Range. -/
  rng  : Range
deriving DecidableEq, Repr

/-- Rows PROFILE to HIT_T of R613; ranges by R225; R209; R212, R997; R218; R227; R227, R997. -/
def itemRows0 : List ItemRow := [
  ⟨0x0101, .ch, 1, 0, .span 0 5 1⟩,
  ⟨0x0102, .ch, 1, 10, .span 1 100 1⟩,
  ⟨0x0103, .ch, 1, 2, .span 0 2 1⟩,
  ⟨0x0104, .ch, 1, 1, .span 0 1 1⟩,
  ⟨0x0105, .ch, 1, 2, .span 0 200 1⟩,
  ⟨0x0106, .ch, 2, 0, .zeroOr 10 600 1⟩,
  ⟨0x0107, .ch, 2, 0, .zeroOr 1 10000 1⟩,
  ⟨0x0108, .ch, 2, 0, .span 0 2000 10⟩,
  ⟨0x0109, .ch, 1, 30, .span 0 100 1⟩,
  ⟨0x010A, .ch, 2, 500, .span 0 10000 10⟩,
  ⟨0x010B, .ch, 2, 50, .span 10 200 1⟩,
  ⟨0x010C, .ch, 2, 100, .span 10 2000 10⟩,
  ⟨0x010D, .ch, 2, 100, .span 10 2000 10⟩]

/-- Rows HOLD_DUTY to MIN_PULSE of R613; ranges by R227; R262; R296. -/
def itemRows1 : List ItemRow := [
  ⟨0x010E, .ch, 1, 40, .span 10 100 1⟩,
  ⟨0x010F, .ch, 2, 200, .span 10 400 1⟩,
  ⟨0x0110, .ch, 2, 0, .zeroOr 50 50000 1⟩,
  ⟨0x0111, .ch, 1, 20, .span 5 50 1⟩,
  ⟨0x0112, .ch, 2, 300, .span 10 600 1⟩,
  ⟨0x0113, .ch, 2, 20, .span 1 1000 1⟩,
  ⟨0x0114, .ch, 2, 120, .span 10 240 1⟩,
  ⟨0x0115, .ch, 2, 60, .span 1 1800 1⟩,
  ⟨0x0116, .ch, 1, 1, .span 0 3 1⟩,
  ⟨0x0117, .ch, 1, 3, .span 1 15 1⟩,
  ⟨0x0118, .ch, 2, 100, .span 1 6000 1⟩,
  ⟨0x0119, .ch, 1, 100, .span 60 150 5⟩,
  ⟨0x011A, .ch, 2, 20, .span 10 400 1⟩]

/-- Rows PWM_EDGE to TWIN of R613; ranges by R316; R179; R140; R825; R841; R614, R834; R834; R807; R386. -/
def itemRows2 : List ItemRow := [
  ⟨0x011B, .ch, 1, 1, .span 0 2 1⟩,
  ⟨0x011C, .ch, 1, 2, .span 0 2 1⟩,
  ⟨0x011D, .ch, 1, 0, .span 0 15 1⟩,
  ⟨0x011E, .ch, 1, 0, .fltMode⟩,
  ⟨0x011F, .ch, 1, 0, .span 0 2 1⟩,
  ⟨0x0120, .ch, 1, 0, .span 0 2 1⟩,
  ⟨0x0121, .ch, 2, 100, .span 0 1000 1⟩,
  ⟨0x0122, .ch, 2, 0, .span 0 1000 1⟩,
  ⟨0x0123, .ch, 64, 0, .any⟩,
  ⟨0x0124, .ch, 8, (8000 <<< 32), .limpPwm⟩,
  ⟨0x0125, .ch, 1, 4, .span 0 4 1⟩,
  ⟨0x0126, .ch, 1, 0, .span 0 1 1⟩,
  ⟨0x0201, .pr, 1, 0, .span 0 1 1⟩]

/-- Rows LOOP_SRC to RUN_I_MIN of R613; ranges by R460; R471. -/
def itemRows3 : List ItemRow := [
  ⟨0x0301, .lp, 1, 0, .span 0 9 1⟩,
  ⟨0x0302, .lp, 1, 1, .span 1 16 1⟩,
  ⟨0x0303, .lp, 4, 0, .any⟩,
  ⟨0x0304, .lp, 4, 12000, .any⟩,
  ⟨0x0305, .lp, 1, 1, .span 0 1 1⟩,
  ⟨0x0306, .lp, 1, 0, .span 0 1 1⟩,
  ⟨0x0307, .lp, 2, 0, .span 0 600 1⟩,
  ⟨0x0401, .tc, 1, 0, .span 0 16 1⟩,
  ⟨0x0402, .tc, 1, 2, .span 1 64 1⟩,
  ⟨0x0403, .tc, 2, 10, .span 2 2000 1⟩,
  ⟨0x0404, .tc, 2, 50, .span 10 600 1⟩,
  ⟨0x0405, .tc, 2, 0, .span 0 600 1⟩,
  ⟨0x0406, .tc, 2, 10, .span 1 2000 1⟩]

/-- Rows TACH_ACTION to TIME_ORDER of R613; ranges by R471; R489; R542; R185; R320; R446; R87; R722. -/
def itemRows4 : List ItemRow := [
  ⟨0x0407, .tc, 1, 0, .span 0 1 1⟩,
  ⟨0x0501, .pt, 1, 1, .span 0 1 1⟩,
  ⟨0x0502, .pt, 1, 1, .span 0 31 1⟩,
  ⟨0x0503, .pt, 1, 2, .span 0 31 1⟩,
  ⟨0x0504, .pt, 1, 8, .span 2 32 1⟩,
  ⟨0x0505, .pt, 4, 0, .watch⟩,
  ⟨0x0601, .sl, 1, 0, .span 0 3 1⟩,
  ⟨0x0602, .sl, 2, 0, .any⟩,
  ⟨0x0701, .ct, 2, 50, .span 10 500 1⟩,
  ⟨0x0702, .at_, 4, 65536, .blankSel⟩,
  ⟨0x0801, .un, 2, 300, .span 10 1800 10⟩,
  ⟨0x0802, .un, 1, 2, .span 0 2 1⟩,
  ⟨0x0803, .un, 2, 4660, .timeOrder⟩]

/-- Rows PTP_EN to WIN_POLL of R613; ranges by R722; R787; R687. -/
def itemRows5 : List ItemRow := [
  ⟨0x0804, .un, 1, 1, .span 0 1 1⟩,
  ⟨0x0805, .un, 1, 0, .span 0 127 1⟩,
  ⟨0x0811, .un, 1, 1, .oneOf [1, 2, 5, 10]⟩,
  ⟨0x0812, .un, 1, 3, .span 1 3 1⟩,
  ⟨0x0813, .un, 1, 8, .oneOf [2, 4, 8, 16, 32]⟩,
  ⟨0x0814, .un, 2, 0, .span 0 3600 1⟩,
  ⟨0x0815, .un, 1, 0, .span 0 1 1⟩,
  ⟨0x0901, .un, 1, 0, .span 0 1 1⟩,
  ⟨0x0902, .un, 1, 0, .span 0 3 1⟩,
  ⟨0x0903, .un, 1, 10, .span 1 50 1⟩,
  ⟨0x0904, .un, 1, 0, .span 0 1 1⟩,
  ⟨0x0905, .un, 1, 0, .span 0 7 1⟩,
  ⟨0x0906, .un, 2, 100, .span 10 10000 10⟩]

/-- Rows WIN_PARAMS to WIN_PARAMS of R613; ranges by R701. -/
def itemRows6 : List ItemRow := [
  ⟨0x0907, .un, 16, 0x010818080032019000C8012C0F000000, .winParams⟩]

/-- The item table of R613, in ascending order of ID. -/
def itemRows : List ItemRow := itemRows0 ++ itemRows1 ++ itemRows2 ++ itemRows3 ++ itemRows4 ++ itemRows5 ++ itemRows6

/-- The row of an item. -/
def itemRow (id : Nat) : Option ItemRow := itemRows.find? (·.id = id)

/-- Default of an item, 0 for an ID that names none. -/
def itemDefault (id : Nat) : Nat := ((itemRow id).map (·.dflt)).getD 0

/-- The indices of a kind: lowest and highest (R613). -/
def IxKind.span : IxKind → Nat × Nat
  | .ch => (1, 16) | .pr => (1, 8) | .lp => (1, 4) | .tc => (1, 4) | .pt => (1, 2)
  | .sl => (1, 15) | .ct => (1, 4) | .at_ => (1, 16) | .un => (0, 0)

/-- The index is valid for the kind. -/
def IxKind.ok (k : IxKind) (ix : Nat) : Bool := k.span.1 ≤ ix && ix ≤ k.span.2

/-- TIME_ORDER by R722: no code twice, other codes before every 0, GNSS or PTP present, HOLDOVER after them, RTC last. -/
def timeOrderOk (v : Nat) : Bool :=
  let f := [bits v 12 4, bits v 8 4, bits v 4 4, bits v 0 4]
  let used := f.takeWhile (· ≠ 0)
  f.all (· ≤ 4) && (f.drop used.length).all (· = 0) && decide used.Nodup && (used.contains 1 || used.contains 2) &&
  (!used.contains 3 || (used.dropWhile (· ≠ 3)).all (fun x => x ≠ 1 && x ≠ 2)) &&
  (!used.contains 4 || used.getLast? = some 4)

/-- WIN_PARAMS by R701, its 16 bytes read as one number. -/
def winParamsOk (v : Nat) : Bool :=
  let b := be 16 v
  let within (x lo hi : Nat) := lo ≤ x && x ≤ hi
  within (field b 1 1) 6 9 && within (field b 2 1) 16 31 && within (field b 3 1) 0 15 && within (field b 4 2) 10 1000 &&
  within (field b 6 2) 10 5000 && within (field b 8 2) 10 1000 && within (field b 10 2) 10 2000

/-- The value is one the range admits. -/
def Range.ok (v : Nat) : Range → Bool
  | .span lo hi step => lo ≤ v && v ≤ hi && (v - lo) % step == 0
  | .zeroOr lo hi step => v == 0 || (lo ≤ v && v ≤ hi && (v - lo) % step == 0)
  | .oneOf l => l.contains v
  | .any => true
  | .fltMode => bits v 0 2 ≤ 2
  | .limpPwm => 4000 ≤ v >>> 32 && v >>> 32 ≤ 16666666
  | .watch => v == 0 || (v >>> 24 != 0 && v >>> 24 != 127 && v >>> 24 < 224)
  | .blankSel => 1 ≤ bits v 16 11 && bits v 16 11 ≤ 2000
  | .timeOrder => timeOrderOk v
  | .winParams => winParamsOk v

/-- Reserved bits of a value written as 0 (R9, R586): FLT_MODE [7:3], LIMP_PWM [63:56] and [31:30], BLANK_SEL [30:27], WIN_PARAMS flags,
erase sizes and bytes 13 to 15. -/
def normalise (id v : Nat) : Nat :=
  if id = 0x011E then v % 8
  else if id = 0x0124 then bits v 32 24 <<< 32 ||| bits v 0 30
  else if id = 0x0702 then bits v 31 1 <<< 31 ||| bits v 0 27
  else if id = 0x0907 then v &&& 0x01FFFFFFFFFFFFFFFFFFFFFF0F000000
  else v

/-- The stored value of an item at an index. -/
def Items.find (l : Items) (id ix : Nat) : Option Nat :=
  (List.find? (fun i : Item => i.id = id && i.ix = ix) l).map (·.val)

/-- The value in force of an item at an index: the stored one, else the default. -/
def Items.val (l : Items) (id ix : Nat) : Nat := (Items.find l id ix).getD (itemDefault id)

/-- Order of item records (R612): by ID, then by index. -/
def Item.before (a b : Item) : Bool := a.id < b.id || (a.id = b.id && a.ix < b.ix)

/-- Insertion in order, replacing an equal item and index. -/
def Items.insert (x : Item) : Items → Items
  | [] => [x]
  | y :: l => if x.id = y.id ∧ x.ix = y.ix then x :: l else if Item.before x y then x :: y :: l else y :: Items.insert x l

/-- Removal of an item and index. -/
def Items.erase (l : Items) (id ix : Nat) : Items := List.filter (fun i : Item => !(i.id = id && i.ix = ix)) l

/-- A value written to a list whose unlisted values read as `dflt`. -/
def Items.put (l : Items) (id ix v dflt : Nat) : Items :=
  if v = dflt then Items.erase l id ix else Items.insert ⟨id, ix, v⟩ l

/-- A list of values written over another one, as a commit writes the staged items (R611). -/
def Items.above (l : Items) (new : Items) : Items :=
  List.foldl (fun acc (i : Item) => Items.put acc i.id i.ix i.val (itemDefault i.id)) l new

/-- The value that BY_PROFILE gives, and every other value as it is (R997). -/
def Items.resolved (l : Items) (id ix : Nat) : Nat :=
  let v := l.val id ix
  let p := l.val 0x0101 ix
  if id = 0x0103 ∧ v = 2 then (if p = 4 then 1 else 0)
  else if id = 0x0106 ∧ v = 0 then (if p = 2 then 360 else 400)
  else if id = 0x0107 ∧ v = 0 then (if p = 2 then 2000 else 50)
  else v

/-- What a cartridge uses for an item that was never written: the default, with BY_PROFILE resolved for RESISTIVE (R240, R660). -/
def cartDefault (id : Nat) : Nat :=
  if id = 0x0103 then 0 else if id = 0x0106 then 400 else if id = 0x0107 then 50 else itemDefault id

/-- The value of an item at an index in a cartridge's MRAM (R160, R240). -/
def Items.cart (l : Items) (id ix : Nat) : Nat := (Items.find l id ix).getD (cartDefault id)

/-- The item record of R593. -/
def itemRecord (id ix size v : Nat) : Bytes := be 2 id ++ be 1 ix ++ be 1 size ++ be size v

/-- Every item at every valid index, in the order of R612. -/
def itemKeys : List (Nat × Nat × Nat) :=
  itemRows.flatMap fun r =>
    (List.range (r.kind.span.2 + 1 - r.kind.span.1)).map fun k => (r.id, r.kind.span.1 + k, r.size)

/-- The canonical form of a configuration (R612). -/
def canonical (l : Items) : Bytes :=
  itemKeys.flatMap fun (id, ix, size) => itemRecord id ix size (l.val id ix)

/-- The configuration hash (R612): the first 16 bytes of SHA-256 over the canonical form. -/
def configHash (l : Items) : Bytes := (sha256 (canonical l)).take 16

end Sys2Proof.Machine
end

