-- ==== Sys2Proof/Machine/State.lean ====
section
/-!
DEFINITION. Machine/State.lean: the state of the unit as plain data, the reasons a step can stop, and the unit as it stands
before its first power (log entry 4).
-/
namespace Sys2Proof.Machine

/-- Unit modes of R39, in the code order of R595. -/
inductive UnitMode where
  | dual | solo | limp | split
deriving DecidableEq, Repr

/-- The service port X50 (R957, R958). -/
structure X50 where
  /-- A USB host is connected; R957; reset 0. -/
  cable  : Bool := false
  /-- The attached controller; R957; reset none. -/
  ctl    : Option Ctl := none
  /-- The attached controller answers from this instant; R957; reset 0. -/
  from_  : Instant := 0
  /-- Tag budget of X50, thousandths of a token; R958; reset 100000 (DESIGN CHOICE 3: full, of the depth of R510). -/
  tokens : Nat := 100000
  /-- Instant of the last refill; R958; reset 0. -/
  fillAt : Instant := 0
  /-- Packets dropped on X50, by the checks of R509; R969, R971; reset 0. -/
  cnt    : PortCounts := {}
deriving DecidableEq, Repr

/-- The whole unit. -/
structure State where
  /-- The running clock of the model, ns since power was first applied; log entry 1; reset 0. -/
  now     : Instant := 0
  /-- Controller in slot A; R17. -/
  ctlA    : Ctlr := {}
  /-- Controller in slot B; R17. -/
  ctlB    : Ctlr := {}
  /-- Cartridges 1 to 4; R17. -/
  carts   : Vector Cart 4 := Vector.replicate 4 {}
  /-- Channels CH01 to CH16; R18. -/
  chans   : Vector Chan 16 := Vector.replicate 16 {}
  /-- Twin pairs TW1 to TW8; R19. -/
  twins   : Vector Twin 8 := Vector.replicate 8 {}
  /-- Loop outputs LOOP1 to LOOP4; R37. -/
  loops   : Vector Loop 4 := Vector.replicate 4 {}
  /-- Speed inputs TACH1 to TACH4; R471. -/
  tachs   : Vector Tach 4 := Vector.replicate 4 {}
  /-- Fan tray, cooling, feeds and derating; R423. -/
  cool    : Cool := {}
  /-- Antenna and GNSS card; R86. -/
  ant     : Ant := {}
  /-- What stands in the code plug socket: a plug, or none; R954; reset a plug as delivered (R992, DESIGN CHOICE 4). -/
  plug    : Option Plug := some {}
  /-- Key switch S50 at ENABLE; R960; reset 0 (DESIGN CHOICE 4: RUN). -/
  s50     : Bool := false
  /-- Service port X50; R957. -/
  x50     : X50 := {}
  /-- EXP_SUPPLY of the expansion supply; R708; reset 0. -/
  expOver : Bool := false
  /-- Since when the supply has stood at its limit, or below it while EXP_SUPPLY is raised; R708; reset none. -/
  expSince : Option Instant := none
  /-- Unit mode last logged; R40; reset LIMP (R49). -/
  mode    : UnitMode := .limp
  /-- What the unit sent as the effect of the latest command; reset empty. -/
  out     : List Sent := []
  /-- The model's own counter of free values drawn; log entry 6; reset 0 (DESIGN CHOICE 6). -/
  free    : Nat := 0
  /-- The commands that wait, first in, first out; reset empty. -/
  pending : List Instr := []
deriving DecidableEq, Repr

/-- The unit right after the parts are fitted and before power comes: every field at the reset value its docstring names. -/
def State.reset : State := {}

/-- The reasons a step can stop with a fault. None of the commands stops with one: every effect the spec gives runs, and what
the spec leaves open is a free value. Safe. -/
inductive Fault where
  /-- Raised by nothing: the block has no fault that stops it. Safe. -/
  | none
deriving DecidableEq, Repr

/-- The reasons a step can be refused. -/
inductive Refusal where
  /-- Raised by an arm of `exec` whose command has no meaning yet. Safe: nothing is claimed of it. -/
  | notModelled (mnemonic : String)
deriving DecidableEq, Repr

/-- The outcome of one command. -/
abbrev Result := Host.Outcome State Fault Refusal

end Sys2Proof.Machine
end

