-- ==== Sys2Proof/Machine/Ops.lean ====
section
/-!
DEFINITION. Machine/Ops.lean: the named operations over the state: reading and writing its parts, the geometry of slots,
channels and pairs (R17 to R19), clocks, roles and modes, and the shape every meaning has.
-/
namespace Sys2Proof

/-- The other controller slot. -/
def Ctl.other : Ctl → Ctl
  | .a => .b
  | .b => .a

/-- Slot code of R595: 0x0A or 0x0B. -/
def Ctl.code : Ctl → Nat
  | .a => 0x0A
  | .b => 0x0B

/-- Index of a controller in a list of two. -/
def Ctl.ix : Ctl → Fin 2
  | .a => 0
  | .b => 1

/-- Port code of R594: 1 BUS-A, 2 BUS-B. -/
def Bus.code : Bus → Nat
  | .a => 1
  | .b => 2

/-- The other bus. -/
def Bus.other : Bus → Bus
  | .a => .b
  | .b => .a

/-- The other band (R755). -/
def Band.other : Band → Band
  | .l1 => .l5
  | .l5 => .l1

end Sys2Proof

namespace Sys2Proof.Machine

/-- The shape of every meaning: the clock moves on to the instant of the command, nothing has been sent yet, and the
effect follows. Log entry 1. -/
def State.begin (s : State) (t : Instant) : State := { s with now := max s.now t, out := [] }

/-- What an effect leaves, with the clock and the queue as they were: no effect moves either. -/
def State.keep (s u : State) : State := { u with now := s.now, pending := s.pending }

/-- A command at instant `t` whose effect is `f`. -/
def run (t : Instant) (f : State → State) (s : State) : Result := .next ((s.begin t).keep (f (s.begin t)))

/-- The effect runs where the spec's condition for the event holds; elsewhere nothing happens. -/
def when (p : Bool) (f : State → State) (s : State) : State := if p then f s else s

/-! Parts of the state. -/

/-- The controller a slot code names. -/
def ctlOf (n : Nat) : Option Ctl := if n = 0x0A then some .a else if n = 0x0B then some .b else none

def State.ctl (s : State) : Ctl → Ctlr
  | .a => s.ctlA
  | .b => s.ctlB

def State.setCtl (s : State) (c : Ctl) (x : Ctlr) : State :=
  match c with
  | .a => { s with ctlA := x }
  | .b => { s with ctlB := x }

def State.modCtl (s : State) (c : Ctl) (f : Ctlr → Ctlr) : State := s.setCtl c (f (s.ctl c))

def State.cart (s : State) (k : Slot) : Cart := s.carts[k]

def State.setCart (s : State) (k : Slot) (x : Cart) : State := { s with carts := s.carts.set k x }

def State.modCart (s : State) (k : Slot) (f : Cart → Cart) : State := s.setCart k (f (s.cart k))

def State.chan (s : State) (c : Ch) : Chan := s.chans[c]

def State.setChan (s : State) (c : Ch) (x : Chan) : State := { s with chans := s.chans.set c x }

def State.modChan (s : State) (c : Ch) (f : Chan → Chan) : State := s.setChan c (f (s.chan c))

def State.twin (s : State) (p : Pair) : Twin := s.twins[p]

def State.setTwin (s : State) (p : Pair) (x : Twin) : State := { s with twins := s.twins.set p x }

def State.modTwin (s : State) (p : Pair) (f : Twin → Twin) : State := s.setTwin p (f (s.twin p))

def State.loop (s : State) (q : Quad) : Loop := s.loops[q]

def State.setLoop (s : State) (q : Quad) (x : Loop) : State := { s with loops := s.loops.set q x }

def State.modLoop (s : State) (q : Quad) (f : Loop → Loop) : State := s.setLoop q (f (s.loop q))

def State.tach (s : State) (q : Quad) : Tach := s.tachs[q]

def State.setTach (s : State) (q : Quad) (x : Tach) : State := { s with tachs := s.tachs.set q x }

def State.modTach (s : State) (q : Quad) (f : Tach → Tach) : State := s.setTach q (f (s.tach q))

def State.modCool (s : State) (f : Cool → Cool) : State := { s with cool := f s.cool }

def State.modAnt (s : State) (f : Ant → Ant) : State := { s with ant := f s.ant }

/-- A value written into a vector at an index known to be in range. -/
def setV {α : Type} {n : Nat} (v : Vector α n) (i : Fin n) (x : α) : Vector α n := v.set i x

/-- A change of one element of a vector. -/
def modV {α : Type} {n : Nat} (v : Vector α n) (i : Fin n) (f : α → α) : Vector α n := v.set i (f v[i])

def Ctlr.modMram (x : Ctlr) (f : Mram → Mram) : Ctlr := { x with mram := f x.mram }
def Ctlr.modTime (x : Ctlr) (f : TimeSt → TimeSt) : Ctlr := { x with time := f x.time }
def Ctlr.modGnss (x : Ctlr) (f : Gnss → Gnss) : Ctlr := { x with gnss := f x.gnss }
def Ctlr.modExp (x : Ctlr) (f : Exp → Exp) : Ctlr := { x with exp := f x.exp }
def Ctlr.modSup (x : Ctlr) (f : Supply → Supply) : Ctlr := { x with sup := f x.sup }

def Ctlr.phy (x : Ctlr) : Bus → Phy
  | .a => x.phyA
  | .b => x.phyB

def Ctlr.modPhy (x : Ctlr) (p : Bus) (f : Phy → Phy) : Ctlr :=
  match p with
  | .a => { x with phyA := f x.phyA }
  | .b => { x with phyB := f x.phyB }

def State.modMram (s : State) (c : Ctl) (f : Mram → Mram) : State := s.modCtl c (·.modMram f)
def State.modTime (s : State) (c : Ctl) (f : TimeSt → TimeSt) : State := s.modCtl c (·.modTime f)
def State.modGnss (s : State) (c : Ctl) (f : Gnss → Gnss) : State := s.modCtl c (·.modGnss f)
def State.modExp (s : State) (c : Ctl) (f : Exp → Exp) : State := s.modCtl c (·.modExp f)
def State.modSup (s : State) (c : Ctl) (f : Supply → Supply) : State := s.modCtl c (·.modSup f)
def State.modPhy (s : State) (c : Ctl) (p : Bus) (f : Phy → Phy) : State := s.modCtl c (·.modPhy p f)

def Chan.modStage (x : Chan) (f : Stage → Stage) : Chan := { x with stage := f x.stage }
def Chan.modProt (x : Chan) (f : Prot → Prot) : Chan := { x with prot := f x.prot }
def Chan.modGen (x : Chan) (f : Gen → Gen) : Chan := { x with gen := f x.gen }
def Chan.modCtrl (x : Chan) (f : Ctrl → Ctrl) : Chan := { x with ctrl := f x.ctrl }
def Chan.modMeas (x : Chan) (f : Meas → Meas) : Chan := { x with meas := f x.meas }

def State.modStage (s : State) (c : Ch) (f : Stage → Stage) : State := s.modChan c (·.modStage f)
def State.modProt (s : State) (c : Ch) (f : Prot → Prot) : State := s.modChan c (·.modProt f)
def State.modGen (s : State) (c : Ch) (f : Gen → Gen) : State := s.modChan c (·.modGen f)
def State.modCtrl (s : State) (c : Ch) (f : Ctrl → Ctrl) : State := s.modChan c (·.modCtrl f)
def State.modMeas (s : State) (c : Ch) (f : Meas → Meas) : State := s.modChan c (·.modMeas f)

/-- An output of the unit: what the command sends. -/
def State.emit (s : State) (o : Sent) : State := { s with out := s.out ++ [o] }

/-- A free value: one the spec does not give. Log entry 6. -/
def State.draw (s : State) : Nat × State := (Config.freeNat s.free, { s with free := s.free + 1 })

/-- An effect over every element of a list. -/
def overList {α : Type} (l : List α) (f : α → State → State) (s : State) : State := l.foldl (fun acc x => f x acc) s

/-- All channels, CH01 first. -/
def allCh : List Ch := List.finRange 16
/-- All slots, slot 1 first. -/
def allSlots : List Slot := List.finRange 4
/-- All pairs, TW1 first. -/
def allPairs : List Pair := List.finRange 8
/-- All loop outputs or speed inputs. -/
def allQuads : List Quad := List.finRange 4
/-- All client slots. -/
def allClients : List Client := List.finRange 16

/-! Geometry (R18, R19). -/

/-- Slot of a channel. -/
def slotOf (c : Ch) : Slot := ⟨c.val / 4, by omega⟩
/-- Position 0 to 3 of a channel in its cartridge. -/
def posOf (c : Ch) : Fin 4 := ⟨c.val % 4, by omega⟩
/-- The channel at a position of a slot. -/
def chOf (k : Slot) (p : Fin 4) : Ch := ⟨4 * k.val + p.val, by omega⟩
/-- Number 1 to 16 of a channel. -/
def numOf (c : Ch) : Nat := c.val + 1
/-- The channel with a number from 1 to 16. -/
def chNum (n : Nat) : Option Ch := if h : 1 ≤ n ∧ n ≤ 16 then some ⟨n - 1, by omega⟩ else none
/-- The pair a channel belongs to. -/
def pairOf (c : Ch) : Pair := ⟨4 * (c.val / 8) + c.val % 4, by omega⟩
/-- The lower-numbered half of a pair. -/
def lowOf (p : Pair) : Ch := ⟨8 * (p.val / 4) + p.val % 4, by omega⟩
/-- The higher-numbered half of a pair. -/
def highOf (p : Pair) : Ch := ⟨8 * (p.val / 4) + p.val % 4 + 4, by omega⟩
/-- The channel is the higher-numbered half of its pair. -/
def isHigh (c : Ch) : Bool := c.val % 8 ≥ 4
/-- The other half of the pair. -/
def partner (c : Ch) : Ch := if isHigh c then lowOf (pairOf c) else highOf (pairOf c)
/-- The channels of a slot, position 1 first. -/
def chansOf (k : Slot) : List Ch := (List.finRange 4).map (chOf k)

/-! Roles, modes and clocks. -/

/-- The ACTIVE controller. -/
def State.active (s : State) : Option Ctl :=
  if s.ctlA.role = .active then some .a else if s.ctlB.role = .active then some .b else none

/-- A lane of the pair link is up, as this controller sees it; R854. -/
def Ctlr.link (x : Ctlr) : Bool := x.lanes.toList.any (·.up)

/-- The pair link is UP: a lane is up for both ends; R854. -/
def State.linkUp (s : State) : Bool := s.ctlA.link && s.ctlB.link

/-- The pair as DUAL needs it (R39): one controller ACTIVE, the other STANDBY_SYNCED, and the pair link up. -/
def State.paired (s : State) : Bool :=
  match s.active with
  | none => false
  | some c => (s.ctl c.other).role = .synced && s.linkUp

/-- The engine of a cartridge runs (R116): it is seated and not in DARK. -/
def Cart.powered (k : Cart) : Bool := k.seated && k.band ≠ .dark

/-- A cartridge is present for a controller: it sends status frames, and the controller has had one. -/
def State.present (s : State) (c : Ctl) (k : Slot) : Bool := (s.cart k).powered && ((s.ctl c).seen[k]).at_.isSome

/-- The ACTIVE controller has claimed the cartridges (R42, R49): it is command-ready, or it holds every cartridge present that stays and is not
given up as CART_UNCLAIMED, and at least one. -/
def State.hasClaimed (s : State) (c : Ctl) : Bool :=
  (s.ctl c).ready ||
  (allSlots.any (fun k => (s.cart k).holder = some c) &&
   allSlots.all fun k => !s.present c k || (s.cart k).removing || ((s.ctl c).claims[k]).unclaimed || (s.cart k).holder = some c)

/-- The unit mode, by the conditions of R39 in the order of R45. With no controller ACTIVE the last mode stays until no cartridge is held any more
(R42, R48), and LIMP stays until the ACTIVE controller has claimed (R42, R49). -/
def State.unitMode (s : State) : UnitMode :=
  if s.ctlA.role = .hold ∧ s.ctlA.cause = 2 ∧ s.ctlB.role = .hold ∧ s.ctlB.cause = 2 then .split
  else match s.active with
    | none => if s.mode ≠ .split ∧ s.carts.toList.any (fun k => k.holder.isSome) then s.mode else .limp
    | some c => if s.mode = .limp ∧ ¬s.hasClaimed c then .limp else if s.paired then .dual else .solo

/-- Codes of the modes (R595). -/
def UnitMode.code : UnitMode → Nat
  | .dual => 0 | .solo => 1 | .limp => 2 | .split => 3

/-- Codes of the roles (R627). -/
def Role.code : Role → Nat
  | .booting => 0 | .electing => 1 | .active => 2 | .synced => 3 | .unsynced => 4 | .hold => 5 | .service => 6 | .faulted => 7

/-- The controller runs its firmware: it has left BOOTING and has not stopped. -/
def Ctlr.running (x : Ctlr) : Bool :=
  x.fitted && x.powered && (x.role ≠ .booting) && (x.role ≠ .faulted)

/-- The controller is a standby. -/
def Ctlr.standby (x : Ctlr) : Bool := x.role = .synced || x.role = .unsynced

/-- What the steering increment has added since it last changed, in 2^−32 ns (R712). -/
def TimeSt.run (x : TimeSt) (now : Instant) : Int := x.frac + x.steer * ((now - x.runAt) / 10 : Nat)

/-- Unit time of a controller (R12, R712): the running clock, its offset, and what steering has added. -/
def State.utime (s : State) (c : Ctl) : UnitTime := (s.now : Int) + (s.ctl c).time.off + (s.ctl c).time.run s.now / (2 ^ 32 : Nat)

/-- The estimated error of unit time, ns (R730). -/
def State.estError (s : State) (c : Ctl) : Nat :=
  let x := (s.ctl c).time
  let grown := x.errBase + (s.now - x.errAt) * 69 / 100000000000
  match x.st with
  | .unset => Config.unsetError
  | .locked => if x.src = 2 then 1000 + x.ptpc.accNs else 50
  | .holdover => grown
  | .rtc => grown

/-- The controller that speaks for the unit: the ACTIVE one, else slot A. -/
def State.lead (s : State) : Ctl := s.active.getD .a

/-- An item's value in force at a controller (R611): the committed one. -/
def State.itemAt (s : State) (c : Ctl) (id ix : Nat) : Nat := (s.ctl c).mram.items.val id ix

/-- The bias at ANT follows ANT_BIAS (R35, R86, R87, R100): while the GNSS card is present and a controller supplies it, but for the 10 s after a short.
What ANT_OPEN and ANT_SHORT count begins afresh where it changes. -/
def State.setBias (s : State) : State :=
  let c := s.active.getD (if s.ctlA.powered then .a else .b)
  let on : Bool := s.ant.card && s.ant.reapply.isNone && (s.ctlA.powered || s.ctlB.powered)
  let v := if on then s.itemAt c 0x0802 0 else 0
  if v = s.ant.bias then s
  else s.modAnt fun a => { a with
    bias := v, ma := if v = 0 then 0 else a.ma, openSince := none, shortSince := none
    belowSince := if a.short ∧ v ≠ 0 then some s.now else none }

/-- An item's value in force at the controller that speaks for the unit. -/
def State.item (s : State) (id ix : Nat) : Nat := s.itemAt s.lead id ix

/-- The same with BY_PROFILE resolved (R997). -/
def State.itemRes (s : State) (id ix : Nat) : Nat := (s.ctl s.lead).mram.items.resolved id ix

/-- An item of a channel as its cartridge holds it in MRAM. -/
def State.chItem (s : State) (c : Ch) (id : Nat) : Nat := (s.cart (slotOf c)).items.cart id (numOf c)

/-- The pair is configured as a twin (R386). -/
def State.twinned (s : State) (p : Pair) : Bool := s.item 0x0201 (p.val + 1) = 1

/-- The channel is half of a configured twin. -/
def State.isTwin (s : State) (c : Ch) : Bool := s.twinned (pairOf c)

/-- The channels that a channel number stands for in a command: itself, or both halves of its twin (R393). -/
def State.bothHalves (s : State) (c : Ch) : List Ch :=
  if s.isTwin c then [lowOf (pairOf c), highOf (pairOf c)] else [c]

/-- The channel whose items govern a channel: the lower half of a twin (R388). -/
def State.itemCh (s : State) (c : Ch) : Ch := if s.isTwin c then lowOf (pairOf c) else c

/-- The claim holder of a cartridge is this controller. -/
def State.holds (s : State) (c : Ctl) (k : Slot) : Bool := (s.cart k).seated && (s.cart k).holder = some c

/-- An energy counter as written to MRAM, and as read back (R383). -/
def Energy.save (e : Energy) : Energy := { e with saved := e.mwh, savedRem := e.rem, savedBase := e.base }
def Energy.reload (e : Energy) : Energy := { e with mwh := e.saved, rem := e.savedRem, base := e.savedBase }

/-- One second, one millisecond and one microsecond on the running clock. -/
def sec : Nat := 1000000000
def msec : Nat := 1000000
def usec : Nat := 1000

/-- A test of 24 h is due: it has not run since the start, or 24 h have passed (R932). -/
def dayDue (last : Option Instant) (now : Instant) : Bool := last.all fun a => a + 86400 * sec ≤ now

/-- A controller has had a status frame of a cartridge in the last 100 µs (R888). -/
def State.reaches (s : State) (c : Ctl) (k : Slot) : Bool := (((s.ctl c).seen[k]).at_).any fun a => decide (s.now < a + 100 * usec)

/-- What a stage is set to sink at an instant (R468, R470): a ramp of 5 ms is linear. -/
def LoopStage.sinkAt (x : LoopStage) (now : Instant) : Nat :=
  match x.ramp with
  | none => x.sink
  | some (t, up) =>
    let d := min (5 * msec) (now - t)
    if up then x.sink * d / (5 * msec) else x.from_ * (5 * msec - d) / (5 * msec)

/-- The current that a stage reports (R459): what it measures, or while it ramps and after a ramp to no current what the ramp has it sink. -/
def LoopStage.measAt (x : LoopStage) (now : Instant) : Nat :=
  if x.live ∧ ¬x.ramp.any (fun r => now < r.1 + 5 * msec) then x.meas else x.sinkAt now

/-- Time passed since an instant. -/
def State.since (s : State) (t : Instant) : Nat := s.now - t

/-- A condition has held for `d` since `t`. -/
def State.held (s : State) (t : Option Instant) (d : Nat) : Bool :=
  match t with
  | some t => t + d ≤ s.now
  | none => false

/-- The start of a run of time in which a condition holds: kept while it holds, none while it does not. -/
def State.track (s : State) (cond : Bool) (t : Option Instant) : Option Instant :=
  if cond then some (t.getD s.now) else none

end Sys2Proof.Machine
end

