-- ==== Sys2Proof/Machine/Records.lean ====
section
/-!
DEFINITION. Machine/Records.lean: forming log records (R799 to R806) and alarms (R616), and the channel state word (R223).
-/
namespace Sys2Proof.Machine

/-- The controller that writes what controller `c` finds: itself when ACTIVE, the ACTIVE one over the pair link (R814), and
itself again while the controllers are separated (R816). None while no controller runs (R815). -/
def State.writer (s : State) (c : Ctl) : Option Ctl :=
  if (s.ctl c).role = .active then some c
  else match s.active with
    | some w => if s.linkUp ∨ ¬(s.ctl c).running then some w else some c
    | none => if (s.ctl c).running then some c else if (s.ctl c.other).running then some c.other else none

/-- The index after an index (R802). -/
def nextIndex (i : Nat) : Nat := if i ≥ 0xFFFFFFFE then 0 else i + 1

/-- Records a full log region holds (R803). -/
def logSize : Nat := 163840

/-- A record written to MRAM; a full region loses its oldest (R803). -/
def Log.write (l : Log) (r : LogRec) : Log :=
  let recs := l.recs ++ [r]
  { l with recs := recs.drop (recs.length - logSize) }

/-- Records that the write queue holds, all written (R804). -/
def Log.flush (l : Log) : Log := { l.queue.foldl Log.write l with queue := [] }

/-- The class of an event code (R800). -/
def classOf (code : Nat) : Nat := code / 256

/-- The queue admits a record of this class when it holds `n` records (R577, R804). -/
def admitted (n code : Nat) : Bool :=
  n < 56 || (n < 64 && (classOf code = 1 || classOf code = 0x11 || classOf code = 0x12))

/-- A record formed into the write queue, or counted as lost (R802, R804, R805). -/
def Log.form (l : Log) (r : LogRec) : Log :=
  if admitted l.queue.length r.code then
    { l with queue := l.queue ++ [{ r with index := l.next }], next := nextIndex l.next }
  else
    { l with losses := (l.losses + 1) % 2 ^ 32, lost := l.lost + 1,
             lostFrom := if l.lost = 0 then r.time else l.lostFrom, lostTo := r.time }

/-- A record of a journaled command, with the index given at commit: outside the queue, after the records before it (R806). -/
def Log.commit (l : Log) (r : LogRec) : Log := { l.flush.write r with next := nextIndex r.index }

/-- One index is newer than another, by serial-number arithmetic (R802). -/
def newerIndex (a b : Nat) : Bool := a ≠ b && (a + 2 ^ 32 - b % 2 ^ 32) % 2 ^ 32 < 2 ^ 31

/-- Held-back records written as far as their indices follow (R813), with `fuel` at least their number. -/
def Log.drain : Nat → Log → Log
  | 0, l => l
  | fuel + 1, l =>
    match l.queue.find? fun r => r.index = l.next with
    | some r => Log.drain fuel { l.write r with next := nextIndex l.next, queue := l.queue.filter fun y => y.index ≠ r.index }
    | none => l

/-- A record that comes to the standby with its index (R813): written when it follows, held back when records before it are missing, and
ignored when the standby has it. A gap opens with the first record held back. -/
def Log.mirror (l : Log) (r : LogRec) (now : Instant) : Log :=
  let l := if newerIndex l.next r.index ∨ l.queue.any (fun y => y.index = r.index) then l else { l with queue := l.queue ++ [r] }
  let l := Log.drain l.queue.length l
  { l with gapAt := if l.queue.isEmpty then none else some (l.gapAt.getD now) }

/-- The standard body of R801. -/
def stdBody (old new : Int) (meas limit : Int := 0) (onset : UnitTime := 0) (serial : Bytes := spaces12)
    (client : Nat := 0xFF) : Bytes :=
  beInt 4 old ++ beInt 4 new ++ beInt 4 meas ++ beInt 4 limit ++ beInt 8 onset ++ padTo 12 serial ++ be 1 client ++ zeros 3

/-- The record of an event found by controller `c` (R799): flag [0] while unit time is UNSET, flag [5] during a flush. -/
def State.record (s : State) (c : Ctl) (code flags source object : Nat) (body : Bytes) : LogRec :=
  { time := s.utime c, code := code,
    flags := flags ||| b2n ((s.ctl c).time.st = .unset) ||| (b2n (s.ctl c).sup.failing <<< 5),
    source := source, object := object, mode := s.unitMode.code, body := padTo 40 body }

/-- A record admitted at controller `w`: written at once in SOLO, and when the standby has acknowledged it in DUAL (R813). -/
def State.logAt (s : State) (w : Ctl) (r : LogRec) : State :=
  s.modMram w fun m => { m with log := if s.paired then m.log.form r else (m.log.form r).flush }

/-- An event found by controller `c`, logged by the writer (R814). -/
def State.logEv (s : State) (c : Ctl) (code flags source object : Nat) (body : Bytes) : State :=
  match s.writer c with
  | some w => s.logAt w (s.record c code flags source object body)
  | none => s

/-- An event found by the unit as a whole, logged by the ACTIVE controller. -/
def State.logUnit (s : State) (code flags source object : Nat) (body : Bytes) : State :=
  s.logEv s.lead code flags source object body

/-- An alarm of this code and index is active at a controller. -/
def Ctlr.alarmed (x : Ctlr) (code index : Nat) : Bool :=
  x.alarms.any fun a => a.code = code && a.index = index && a.active

/-- The onset of an alarm at a controller. -/
def Ctlr.onsetOf (x : Ctlr) (code index : Nat) : UnitTime :=
  ((x.alarms.find? fun a => a.code = code && a.index = index).map (·.onset)).getD 0

/-- An alarm record (R616), 16 bytes. -/
def Alarm.bytes (a : Alarm) : Bytes := be 2 a.code ++ be 1 a.index ++ be 1 (b2n a.active) ++ beInt 8 a.onset ++ be 4 a.count

/-- An alarm record for every subscription to ALARM that has had its first report (R598, R599). -/
def Mram.tellAlarm (m : Mram) (a : Alarm) : Mram :=
  { m with clients := m.clients.map fun x => { x with subs := x.subs.map fun y =>
      if y.stream = 3 ∧ ¬y.first then { y with last := y.last ++ [natOf a.bytes] } else y } }

/-- An alarm's entry after an onset or a clearing (R616). -/
def Ctlr.putAlarm (x : Ctlr) (code index : Nat) (on : Bool) (now : UnitTime) : Ctlr :=
  if x.alarms.any fun a => a.code = code && a.index = index then
    { x with alarms := x.alarms.map fun a =>
        if a.code = code ∧ a.index = index then
          if on then { a with active := true, onset := now, count := a.count + 1 } else { a with active := false }
        else a }
  else if on then { x with alarms := x.alarms ++ [{ code := code, index := index, active := true, onset := now, count := 1 }] }
  else x

/-- The same, and the record for those who have subscribed to it (R599). -/
def Ctlr.setAlarm (x : Ctlr) (code index : Nat) (on : Bool) (now : UnitTime) : Ctlr :=
  let y := x.putAlarm code index on now
  match y.alarms.find? (fun a => a.code = code && a.index = index) with
  | some a => { y with mram := y.mram.tellAlarm a }
  | none => y

/-- The onset or the clearing of an alarm found by controller `c`: nothing when it stands so already; else the entry
changes and a record with flag [1] or [2] is logged (R616, R799). -/
def State.alarm (s : State) (c : Ctl) (code index : Nat) (on : Bool) (source : Nat) (old new : Int) (meas limit : Int := 0)
    (serial : Bytes := spaces12) : State :=
  match s.writer c with
  | none => s
  | some w =>
    if (s.ctl w).alarmed code index = on then s
    else
      let onset := if on then 0 else (s.ctl w).onsetOf code index
      let r := s.record c code (if on then 2 else 4) source index (stdBody old new meas limit onset serial)
      (s.modCtl w fun x => x.setAlarm code index on (s.utime c)).logAt w r

/-- The measured value of the last record of an event in a log, as the standard body gives it (R801). -/
def Log.lastCause (l : Log) (code : Nat) : Option Nat :=
  (((l.recs ++ l.queue).reverse.find? fun r => r.code = code).map fun r => field r.body 8 4)

/-- An alarm of the unit, found by the ACTIVE controller. -/
def State.alarmUnit (s : State) (code index : Nat) (on : Bool) (source : Nat) (old new : Int) (meas limit : Int := 0)
    (serial : Bytes := spaces12) : State :=
  s.alarm s.lead code index on source old new meas limit serial

/-! The channel state word. -/

/-- Codes of R223. -/
def Level.code : Level → Nat
  | .off => 0 | .on => 1 | .pwm => 2 | .freewheel => 3

/-- The level a code names. -/
def levelOf (n : Nat) : Level := if n = 1 then .on else if n = 2 then .pwm else if n = 3 then .freewheel else .off

def Output.code : Output → Nat
  | .off => 0 | .on => 1 | .pwm => 2 | .freewheel => 3 | .decay => 4 | .highZ => 5

def Phase.code : Phase → Nat
  | .idle => 0 | .start => 1 | .run => 2 | .hold => 3

def Source.code : Source → Nat
  | .host => 0 | .limp => 1 | .glaze => 2 | .open => 3

/-- The state of R220: the first row whose condition holds. -/
def stateCode (frozen : Bool) (x : Chan) : Nat :=
  if frozen then 9
  else if x.ctrl.source = .open then 7
  else if x.prot.trip = .locked then 5
  else if x.prot.trip = .tripped then 4
  else if x.ctrl.source = .glaze then 6
  else if x.prot.limiting then 3
  else if x.ctrl.source = .limp then 8
  else match x.ctrl.level with
    | .pwm => 2
    | .on => 1
    | _ => 0

/-- The channel state word of R223. -/
def Chan.word (frozen : Bool) (x : Chan) : Nat :=
  stateCode frozen x ||| (x.ctrl.source.code <<< 4) ||| (x.ctrl.level.code <<< 6) ||| (x.stage.output.code <<< 8) |||
  (x.stage.phase.code <<< 11) ||| (bits x.stage.cause 0 8 <<< 16) ||| (b2n x.prot.limiting <<< 24) |||
  (b2n (x.stage.olOff || x.stage.olOn) <<< 25) ||| (b2n x.stage.extV <<< 26) ||| (b2n x.stage.reverse <<< 27) |||
  (b2n x.stage.drift <<< 28) ||| (b2n (1 ≤ x.ctrl.mark ∧ x.ctrl.mark ≤ 8) <<< 29)

/-- The state word of a channel. -/
def State.word (s : State) (c : Ch) : Nat := (s.chan c).word (s.cart (slotOf c)).frozen

/-- The state word of a channel as a controller has it from the status frames (R161). -/
def Ctlr.wordOf (x : Ctlr) (c : Ch) : Nat := (x.seen[slotOf c]).words.getD (posOf c).val 0

/-- The channel state list of R591: `cs` in ascending order. -/
def Ctlr.stateList (x : Ctlr) (cs : List Ch) : Bytes :=
  let l := allCh.filter fun c => cs.contains c
  be 1 l.length ++ zeros 3 ++ l.flatMap fun c => be 1 (numOf c) ++ zeros 3 ++ be 4 (x.wordOf c)

/-- The channels a mask names. -/
def chansIn (mask : Nat) : List Ch := allCh.filter fun c => bit mask c.val

/-- Serial number of the cartridge of a channel. -/
def State.serialOf (s : State) (c : Ch) : Bytes := (s.cart (slotOf c)).serial

/-- An event of a channel, found in its cartridge: source the slot, object the channel. -/
def State.chanEvent (s : State) (c : Ch) (code : Nat) (old new : Int) (meas limit : Int := 0) : State :=
  s.logUnit code 0 (c.val / 4 + 1) (numOf c) (stdBody old new meas limit 0 (s.serialOf c))

/-- The onset or the clearing of an alarm of a channel. -/
def State.chanAlarm (s : State) (c : Ch) (code : Nat) (on : Bool) (old new : Int) (meas limit : Int := 0) : State :=
  s.alarmUnit code (numOf c) on (c.val / 4 + 1) old new meas limit (s.serialOf c)

/-- A change of an alarm flag of a channel: onset when it becomes set, clearing when it becomes clear. -/
def State.chanFlag (s : State) (c : Ch) (code : Nat) (was is : Bool) (meas limit : Int := 0) : State :=
  if was = is then s else s.chanAlarm c code is (b2n was) (b2n is) meas limit

/-- A cause of STANDBY_UNSYNCED that R900 reports as an alarm under MODE_CHANGE: PAIR_LINK, MIRROR_TIMEOUT and SCHEMA. -/
def unsyncFault (cause : Nat) : Bool := cause = 2 || cause = 3 || cause = 5

/-- MODE_CHANGE as the ACTIVE controller `c` writes it (R876, R900): the onset of an alarm of the standby where the cause is one, and its clearing when the
unit is DUAL again. -/
def State.modeRecord (s : State) (c : Ctl) (m : UnitMode) (cause : Nat) : State :=
  let idx := c.other.code
  let stands := (s.ctl c).alarmed 0x0107 idx
  if unsyncFault cause ∧ ¬stands then s.alarm c 0x0107 idx true c.code s.mode.code m.code cause
  else if stands ∧ m = .dual then s.alarm c 0x0107 idx false c.code s.mode.code m.code
  else s.logEv c 0x0107 0 c.code 0 (stdBody s.mode.code m.code cause)

/-- MODE_CHANGE when the unit mode differs from the one last logged (R40, R876), written by the ACTIVE controller, or by each controller that
runs while none is ACTIVE; and when a standby joins with another schema, which changes no mode (R900). The measured value is the cause of
STANDBY_UNSYNCED, and 0 where no standby enters it (R801). -/
def State.noteMode (s : State) (cause : Nat := 0) : State :=
  let m := s.unitMode
  let joins : Bool := cause = 5 && s.active.any fun c => !(s.ctl c).alarmed 0x0107 c.other.code
  if m = s.mode ∧ ¬joins then s
  else
    let s' := match s.active with
      | some c => s.modeRecord c m cause
      | none => overList [Ctl.a, Ctl.b] (fun c s =>
          if (s.ctl c).running then s.logAt c (s.record c 0x0107 0 c.code 0 (stdBody s.mode.code m.code cause)) else s) s
    { s' with mode := m }

/-- The heartbeat of a controller (R853). -/
def State.beatOf (s : State) (c : Ctl) (relinq : Bool) : Beat :=
  let x := s.ctl c
  { role := x.role, mode := s.unitMode.code, schema := x.schema, line := x.line, minor := x.minor, epoch := x.mram.epoch, hash := x.mram.hash
    tokens := x.seen.map fun y => (y.holder, y.epoch), last := x.mram.last, time := s.utime c, at_ := s.now, relinq := relinq }

/-! Roles. -/

/-- A controller takes a role (R627): `ev` is the low byte of the event that caused it. An election begins without a peer's record (R171). -/
def State.roleTo (s : State) (c : Ctl) (r : Role) (cause unsync ev : Nat) : State :=
  let now := s.utime c
  let ok : Bool := r = .active || r = .synced
  s.modCtl c fun x => { x with
    role := r, cause := cause, take := x.take && r = .active, unsync := unsync, roleAt := now, roleIn := s.now, roleEv := ev
    elect := if r = .electing then none else x.elect
    time := { x.time with joined := x.time.joined || r = .active }
    okFrom := if ok then some (x.okFrom.getD s.now) else none }

/-- An offset of R801 from the reference instant, µs. -/
def Ctlr.offset (x : Ctlr) (i : Fin 5) : Nat := ((x.miles[i]).map fun t => min 0xFFFFFFFE ((t - x.refAt) / usec)).getD 0xFFFFFFFF

def BootCause.code : BootCause → Nat
  | .powerOn => 0 | .powerFail => 1 | .watchdog => 2 | .lockstep => 3 | .commanded => 4 | .recovery => 5

/-- The body of a START record (R801). Of a controller that is FAULTED before its firmware ran, the peer knows the slot, the role and the cause, and
what it cannot know is 0 in a code and all ones elsewhere (R159). -/
def Ctlr.startBody (x : Ctlr) : Bytes :=
  if x.role = .faulted ∧ (x.miles[1]).isNone then
    be 1 0 ++ be 1 0 ++ be 1 x.role.code ++ be 1 x.cause ++ List.replicate 32 0xFF
  else
    be 1 x.boot.code ++ be 1 (b2n x.imgB) ++ be 1 x.role.code ++ be 1 x.cause ++
      ((List.finRange 5).flatMap fun i => be 4 (x.offset i)) ++ padTo 12 x.serial

/-- START, logged once (R159, R801): the record time is the reference instant, or where the peer forms the record the instant it does. Without a
controller to write it, it waits. -/
def State.startRecord (s : State) (c : Ctl) : State :=
  let x := s.ctl c
  if x.started then s
  else match s.writer c with
    | none => s
    | some w =>
      let lone : Bool := x.role = .faulted && (x.miles[1]).isNone
      let d := if lone then w else c
      let back : Nat := if lone then 0 else s.now - x.refAt
      let r := { s.record d 0x0001 0 c.code 0 x.startBody with time := s.utime d - (back : Int) }
      (s.modCtl c fun x => { x with started := true }).logAt w r

/-- A controller takes a role (R876): the measured value of a MODE_CHANGE that follows is the cause of STANDBY_UNSYNCED where it enters
that role, and `ev` the low byte of the event that PAIR_STATUS names. STANDBY_UNSYNCED, HOLD and FAULTED end a start (R159). -/
def State.setRole (s : State) (c : Ctl) (r : Role) (cause unsync ev : Nat) : State :=
  let s := ((s.roleTo c r cause unsync ev).setBias).noteMode (if r = .unsynced then unsync else 0)
  if r = .unsynced ∨ r = .hold ∨ r = .faulted then s.startRecord c else s

end Sys2Proof.Machine
end

