-- ==== Sys2Proof/Machine/Flags.lean ====
section
/-!
DEFINITION. Machine/Flags.lean: the flags a reading sets and clears: a flag that must stand for a time before it changes, a
flag with a threshold to set and another to clear, counters that stop at their end, and the ranks of trip causes (R279).
-/
namespace Sys2Proof.Machine

/-- A flag that becomes set after `cond` has held for `dSet`, and clear after it has not held for `dClr`: the new flag and
the start of the run towards the change. -/
def debounce (now : Instant) (flag : Bool) (since : Option Instant) (cond : Bool) (dSet dClr : Nat) : Bool × Option Instant :=
  if cond = flag then (flag, none)
  else
    let t := since.getD now
    if t + (if flag then dClr else dSet) ≤ now then (cond, none) else (flag, some t)

/-- A flag with hysteresis that must stand for a time: `hi` is the condition that sets it, `lo` the one that clears it; between
them nothing runs. -/
def hysteresis (now : Instant) (flag : Bool) (since : Option Instant) (hi lo : Bool) (dSet dClr : Nat) :
    Bool × Option Instant :=
  debounce now flag since (if flag then !lo else hi) dSet dClr

/-- A counter that stops at its end. -/
def bump (max n : Nat) : Nat := min max (n + 1)

/-- A 32-bit counter that wraps (R514). -/
def wrap32 (n : Nat) : Nat := (n + 1) % 2 ^ 32

/-- A count that a register read clears: it stops at the largest value of its `n` bits (R646). -/
def satBump (n k : Nat) : Nat := min (2 ^ n - 1) (k + 1)

/-- The cause code of the trip record's secondary causes (R801): bit n for cause code 0x0B + n. -/
def causeBit (cause : Nat) : Nat := if cause < 0x0B then 0 else 1 <<< (cause - 0x0B)

/-- Rank of a trip cause (R279): a lower number prevails. -/
def tripRank (cause : Nat) : Nat :=
  match cause with
  | 0x14 => 1
  | 0x10 => 2
  | 0x13 => 3
  | 0x0D => 4
  | 0x0C => 5
  | 0x0B => 6
  | 0x12 => 7
  | 0x11 => 8
  | 0x15 => 9
  | 0x16 => 10
  | 0x17 => 11
  | _ => 12

end Sys2Proof.Machine
end

