-- ==== Sys2Proof/Machine/Stage.lean ====
section
/-!
DEFINITION. Machine/Stage.lean: the operations that the events of one channel share: its governing source and level and the
handover between sources (chapter 20), turning on and off (chapter 05), the generator's enable (chapter 07), trips and the
retry strategy (chapter 06), and voyage entries (chapter 19).
-/
namespace Sys2Proof.Machine

/-! Settings and clocks. -/

/-- Ticks of 6.25 ns (R287) in quarters of a ns. -/
def ticks (n : Nat) : Nat := 25 * n

/-- An instant in quarters of a ns. -/
def quarters (t : Instant) : Nat := 4 * t

/-- The settings of the generator under the LIMP source (R832). -/
def limpPwm (v : Nat) : PwmSet := { per := v >>> 32, cmpa := v % 2 ^ 32 }

/-- Two sets of settings equal in what a handover compares (R836). -/
def samePwm (a b : PwmSet) : Bool := a.per = b.per && a.cmpa = b.cmpa

/-- The channel conducts (R402, R808): its output is ON or PWM. -/
def Output.conducts : Output → Bool
  | .on => true
  | .pwm => true
  | _ => false

/-- A level that turns the channel on. -/
def Level.isOn : Level → Bool
  | .on => true
  | .pwm => true
  | _ => false

/-! Sources. -/

/-- The source that governs (R819): the first row whose condition holds. -/
def State.govern (s : State) (c : Ch) : Source :=
  let x := (s.chan c).ctrl
  if x.openF then .open
  else if x.glaze then .glaze
  else if (s.cart (slotOf c)).holder = none then .limp
  else .host

/-- The level a source demands, with its settings. -/
def State.demands (s : State) (c : Ch) : Source → Level × PwmSet
  | .host => ((s.chan c).set.level, (s.chan c).set.pwm)
  | .limp => ((s.chan c).ctrl.demand, limpPwm (s.chItem c 0x0124))
  | .glaze => ((s.chan c).ctrl.glazeLvl, (s.chan c).ctrl.pwm)
  | .open => (.off, (s.chan c).ctrl.pwm)

/-- Two levels with their settings are equal (R836). -/
def sameLevel (a b : Level × PwmSet) : Bool := a.1 = b.1 && (a.1 ≠ .pwm || samePwm a.2 b.2)

/-! Outputs. -/

/-- A channel whose switches stand off, at OFF from now on (R205, R217). -/
def Stage.toOff (x : Stage) (now : Instant) : Stage :=
  { x with output := .off, phase := .idle, fwd := false, ser := false, fw := false, offAt := now, testAt := now + 500 * msec,
           toFw := false, offDue := false }

/-- The generator stopped (R306). A set that waits is the one of the next enable, at whatever instant the generator stops (R338 says so of a
boundary; DEDUCED, log entry 65). -/
def Gen.stop (x : Gen) : Gen :=
  { x with act := if x.pending then x.shadow else x.act, pending := false, early := none, enabled := false, governs := false, begun := false }

/-- The generator enabled at `at_`, in quarters of a ns, with its settings (R301, R313): first boundary after PWM_PHASE, first lead 500 ns. -/
def Gen.startAt (x : Gen) (p : PwmSet) (at_ : Nat) : Gen :=
  { x with act := p, shadow := p, pending := false, early := none, enabled := true, governs := false, begun := false, runPer := p.per,
           perAt := at_ + ticks p.phase, boundAt := at_ + ticks p.phase, edges := 2, fwOffNs := 480, fwDone := false, ceilHit := false,
           ahead := false, fwWait := 0, fwSkips := 0 }

/-- The generator enabled at an instant. -/
def Gen.start (x : Gen) (p : PwmSet) (now : Instant) : Gen := x.startAt p (quarters now)

/-- Regulation ended with the forward switch off (R247, R248). -/
def Prot.endReg (x : Prot) (now : Instant) : Prot :=
  { x with reg := false, limiting := false, regEnd := if x.reg then now else x.regEnd,
           limTimer := if x.limiting then x.limTimer + (now - x.regAt) else x.limTimer }

/-- A turn-off by R210 begins: the generator stops, the forward switch turns off, and the load current decays through the
freewheel switch (`slow`) or the clamp; a turn-off that ends in FREEWHEEL always through the freewheel switch (R998). -/
def Chan.decay (x : Chan) (now : Instant) (toFw slow : Bool) (cause : Nat) : Chan :=
  { x with
    stage := { x.stage with output := .decay, phase := .idle, fwd := false, fw := slow || toFw, slow := slow || toFw,
                            toFw := toFw, offDue := false, decayAt := now, cause := cause, driftSince := none, olSince := none }
    gen := x.gen.stop
    ctrl := { x.ctrl with ramp := x.ctrl.ramp.filter (·.hand) }
    prot := { x.prot.endReg now with cleanSince := none } }

/-- Every switch off at once, with inductive current in the clamp (R261, R828). -/
def Chan.cut (x : Chan) (now : Instant) (o : Output) (cause : Nat) : Chan :=
  { x with
    stage := { x.stage.toOff now with output := o, cause := cause, driftSince := none, olSince := none }
    gen := x.gen.stop
    ctrl := { x.ctrl with ramp := x.ctrl.ramp.filter (·.hand) }
    prot := { x.prot.endReg now with cleanSince := none } }

/-- The channel is a half of a twin by its marking (R389, R400). -/
def Ctrl.half (x : Ctrl) : Bool := x.mark ≠ 0

/-- The channel is a half of a known pair by its marking (R223, R389). -/
def Ctrl.twinned (x : Ctrl) : Bool := 1 ≤ x.mark && x.mark ≤ 8

/-- A half whose partner conducts, so that its SW stays near the power bus (R400, R401). -/
def State.opposed (s : State) (c : Ch) : Bool := (s.chan c).ctrl.half && (s.chan (partner c)).stage.output.conducts

/-- The freewheel switch of a half stays off while its partner conducts: it turns on only by its own comparator (R400, R401). -/
def State.unopposed (s : State) (c : Ch) : State := when (s.opposed c) (fun s => s.modStage c fun g => { g with fw := false }) s

/-- A turn-off by R210 of a channel, which may be a half of a twin. -/
def State.decay (s : State) (c : Ch) (toFw slow : Bool) (cause : Nat) : State :=
  (s.setChan c ((s.chan c).decay s.now toFw slow cause)).unopposed c

/-- DEMAG of a channel is SLOW (R212). -/
def State.demagSlow (s : State) (c : Ch) : Bool := s.chItem c 0x0103 = 0

/-- A channel that conducts turns off by R210 toward a level; one that does not conduct takes OFF or FREEWHEEL at once. -/
def State.turnOff (s : State) (c : Ch) (dest : Level) (cause : Nat) : State :=
  let x := s.chan c
  let fwTo : Bool := dest = .freewheel
  match x.stage.output with
  | .on => s.decay c fwTo (s.demagSlow c) cause
  | .pwm => s.decay c fwTo (s.demagSlow c) cause
  | .decay => s.setChan c (x.modStage fun g => { g with toFw := fwTo, fw := g.fw || (fwTo && !s.opposed c), slow := g.slow || fwTo })
  | .off => if fwTo then s.setChan c (x.modStage fun g => { g with output := .freewheel, fw := !s.opposed c, cause := cause }) else s
  | .highZ => s.setChan c (x.modStage fun g =>
      if fwTo then { g.toOff s.now with output := .freewheel, fw := !s.opposed c, cause := cause } else { g.toOff s.now with cause := cause })
  | .freewheel => if fwTo then s else s.setChan c (x.modStage fun g => { g.toOff s.now with cause := cause })

/-- The cartridge may drive its switches: seated, in a band that permits it, not withdrawn by its lever (R116, R410, R948). -/
def Cart.mayDrive (k : Cart) : Bool :=
  k.seated && !k.removing && !k.ovOff && (k.band = .low || k.band = .normal || k.band = .high)

/-- Nothing but its level keeps the channel off: no trip, no hold, no wait (R119, R215, R220, R412, R413). A debug halt keeps it off unless a
fault input forces it on (R281). -/
def State.mayTurnOn (s : State) (c : Ch) : Bool :=
  let x := s.chan c
  let k := s.cart (slotOf c)
  k.mayDrive && (!k.frozen || x.ctrl.source = .glaze) && x.prot.trip = .none && x.stage.restartAt = none && x.stage.revUntil = none &&
  x.ctrl.insHold = none && !x.ctrl.joinWait

/-- The level and settings call for a conducting output: ON, or PWM with its generator enabled or STATIC ON (R303). -/
def Ctrl.wantsOn (x : Ctrl) : Bool :=
  match x.level with
  | .on => true
  | .pwm => x.pwm.en || x.pwm.static
  | _ => false

/-- A channel locked out for STUCK_ON whose glaze level is the safe level FREEWHEEL: its freewheel switch still serves (R258; log entry 60). -/
def Chan.safeFw (x : Chan) : Bool :=
  x.prot.trip = .locked && x.prot.tripCause = 0x14 && x.ctrl.source = .glaze && x.ctrl.level = .freewheel

/-- A trip holds the output at OFF (R220, R269). -/
def Chan.barred (x : Chan) : Bool := x.prot.trip ≠ .none && !x.safeFw

/-- A channel that may drive nothing stands at OFF: FREEWHEEL and HIGH_Z end, and a decay ends in OFF (R220, R269). -/
def Chan.restOff (x : Chan) (now : Instant) : Chan :=
  match x.stage.output with
  | .highZ => x.modStage fun g => { g.toOff now with cause := x.ctrl.why }
  | .freewheel => x.modStage fun g => { g.toOff now with cause := x.ctrl.why }
  | .decay => x.modStage fun g => { g with toFw := false }
  | _ => x

/-- A level without switching of its own applied where the output stands still: OFF and FREEWHEEL pass into one another at
once, and a decay takes its new end (R210, R998); a trip, the hold of R215 and a band without drive leave OFF alone. Turning on and turning
off are events of their own. -/
def State.settle (s : State) (c : Ch) : State :=
  let x := s.chan c
  let k := s.cart (slotOf c)
  if (k.frozen ∧ x.ctrl.source ≠ .glaze) ∨ x.ctrl.source = .open ∨ x.stage.output.conducts then s
  else if x.barred ∨ ¬k.mayDrive ∨ x.stage.revUntil.isSome then s.setChan c (x.restOff s.now)
  else if x.ctrl.level.isOn then s
  else s.turnOff c x.ctrl.level x.ctrl.why

/-- The settings of `a` that pass at a boundary (R297, R303), with PWM_PHASE and STATIC as `b` has them. -/
def PwmSet.over (a b : PwmSet) : PwmSet := { a with phase := b.phase, static := b.static }

/-- What was written at an instant comes at least 2 ticks before the next boundary (R299). -/
def Gen.inTime (x : Gen) (t : Instant) : Bool := decide (quarters t + ticks 2 ≤ x.boundAt)

/-- Settings reach the generator. A set that differs from the active copy in what passes at a boundary is shadowed and marked pending; an equal
one clears the mark; and one that comes too late for the next boundary leaves that boundary to the set before it (R297 to R299, R303). PWM_PHASE
and STATIC are taken at once (R302, R304). A generator that does not run takes the whole set. -/
def Gen.load (x : Gen) (p : PwmSet) (now : Instant) : Gen :=
  if ¬x.enabled then { x with act := p, shadow := p, pending := false, early := none }
  else
    let x := { x with act := x.act.over p }
    if x.pending ∧ x.shadow.over p = p then { x with shadow := p }
    else if x.inTime now then { x with shadow := p, pending := decide (p ≠ x.act), shadowAt := now, early := none }
    else
      let early := if x.early.isSome then x.early else if x.pending ∧ x.inTime x.shadowAt then some x.shadow else none
      { x with shadow := p, pending := decide (p ≠ x.act) || early.isSome, shadowAt := now, early := early }

/-- PENDING: the shadow copy waits for a boundary with PWM_PER, PWM_CMPA, ALIGN, PWM_TRGA or PWM_TRGB other than the active ones (R297, R329). -/
def Gen.waiting (x : Gen) : Bool := x.pending && decide ({ x.shadow.over x.act with en := x.act.en } ≠ x.act)

/-! Handover. -/

/-- The whole period, as duties count it: a percentage and every on-time of a period are kept exactly. -/
def dutyOne : Nat := 100 * 2 ^ 30

/-- The duty of a level (R839): ON counts as the whole, and so does a forward switch that STATIC holds on (R303). -/
def dutyOf (l : Level) (p : PwmSet) : Nat :=
  match l with
  | .pwm => if ¬p.en then (if p.static then dutyOne else 0) else if p.cmpa ≥ 0x3FFFFFFF then dutyOne else if p.per = 0 then 0 else min dutyOne (p.cmpa * dutyOne / (p.per * 64))
  | .on => dutyOne
  | _ => 0

/-- The duty a ramp holds at an instant. -/
def Ramp.dutyAt (r : Ramp) (now : Instant) : Nat :=
  if now ≥ r.stop then r.duty1
  else
    let d : Int := ((r.duty1 : Int) - r.duty0) * ((now - r.start : Nat) : Int) / ((r.stop - r.start : Nat) : Int)
    (r.duty0 + d).toNat

/-- The ACTIVE controller logs HANDOVER at the start and at the end of a hold, soak or ramp (R840). -/
def State.logHand (s : State) (c : Ch) (old new : Level) (policy : Nat) : State :=
  s.chanEvent c 0x0F06 old.code new.code policy

/-- The end of a hold, soak or ramp that a force or another change of source ends, logged (R840, R846). -/
def State.endHand (s : State) (c : Ch) : State :=
  let x := (s.chan c).ctrl
  when (x.hand ≠ .none) (fun s => (s.logHand c x.level (s.demands c x.source).1 x.policy).modCtrl c fun y => { y with hand := .none }) s

/-- A profile ramp under a new target (R228, R229, R338): LAMP's line still ends at LAMP_RAMP, MOTOR's keeps its slope and ends where it
reaches the target, at once when it stands above it. A ramp of a handover ends. -/
def Chan.keepRamp (x : Chan) (now : Instant) (new : Level × PwmSet) : Option Ramp :=
  match x.ctrl.ramp with
  | none => none
  | some r =>
    let d := dutyOf new.1 new.2
    if r.hand ∨ ¬new.1.isOn then none
    else if x.stage.profile ≠ 2 then some { r with duty1 := d }
    else if d ≤ r.dutyAt now ∨ r.duty1 ≤ r.duty0 then none
    else some { r with duty1 := d, stop := r.start + (r.stop - r.start) * (d - r.duty0) / (r.duty1 - r.duty0) }

/-- The profile holds the forward switch fully on through START: CAPACITIVE and SOLENOID (R229). -/
def Stage.fullStart (g : Stage) : Bool := g.phase = .start && (g.profile = 3 || g.profile = 4)

/-- The generator follows its level where no boundary of its own does it: a conducting channel that has come to level PWM enables it
(R301, R304), and one that has left PWM and does not conduct has it disabled (R306). A fresh enable retests a faulted freewheel gate
(R339). -/
def Chan.follow (x : Chan) (now : Instant) : Chan :=
  if x.stage.output.conducts ∧ ¬x.stage.offDue ∧ x.ctrl.level = .pwm ∧ x.ctrl.pwm.en ∧ ¬x.gen.enabled ∧ ¬x.stage.fullStart then
    { x with gen := { x.gen.start x.ctrl.pwm now with fwGate := false } }
  else if ¬x.stage.output.conducts ∧ x.ctrl.level ≠ .pwm then { x with gen := x.gen.stop }
  else x

/-- The level leaves a conducting channel off: OFF or FREEWHEEL, or PWM with the generator disabled and STATIC OFF (R210, R303). -/
def Chan.wantsOff (x : Chan) : Bool :=
  match x.ctrl.level with
  | .on => false
  | .pwm => !x.gen.enabled && !x.ctrl.pwm.en && !x.ctrl.pwm.static
  | _ => true

/-- The instant t = 0 of a turn-off (R210, R306): the generator stops, and the forward switch follows by TURN_OFF, whatever level comes before it
(R998). -/
def Chan.beginOff (x : Chan) : Chan :=
  if x.stage.output.conducts ∧ x.wantsOff then { x with stage := { x.stage with offDue := true }, gen := x.gen.stop } else x

/-- A level and its settings applied to a channel whose source demands them, with the cause of what follows. -/
def State.applyLevel (s : State) (c : Ch) (new : Level × PwmSet) (why : Nat) : State :=
  let x := s.chan c
  let y := { x with
    ctrl := { x.ctrl with hand := .none, ramp := x.keepRamp s.now new, level := new.1, pwm := new.2, why := why }
    gen := x.gen.load new.2 s.now }
  let z := (y.follow s.now).beginOff
  let s := (s.setChan c z).settle c
  s.chanFlag c 0x020A x.gen.fwGate z.gen.fwGate

/-- The new level is adopted (R837, R839, R840): with the handover ramp between levels that conduct, else as the level says. EN 0 stops a generator
at its next boundary (R303), so that settings with EN 0 are adopted without a ramp. -/
def State.adopt (s : State) (c : Ch) (new : Level × PwmSet) : State :=
  let x := s.chan c
  let r := x.ctrl.rampNs
  let ramped := x.ctrl.level.isOn && new.1.isOn && (x.ctrl.level = .pwm || new.1 = .pwm) && r ≠ 0 && (new.1 ≠ .pwm || new.2.en)
  let was := x.ctrl.hand
  let s := if was = .none then s else s.logHand c x.ctrl.level new.1 x.ctrl.policy
  if ramped then
    let d0 := dutyOf x.ctrl.level x.ctrl.pwm
    let ramp : Ramp := { start := s.now, stop := s.now + r, duty0 := d0, duty1 := dutyOf new.1 new.2, hand := true }
    let s := s.logHand c x.ctrl.level new.1 x.ctrl.policy
    let p := if new.1 = .pwm then new.2 else { x.ctrl.pwm with en := true }
    s.setChan c { x with
      stage := { x.stage with cause := 5 }
      ctrl := { x.ctrl with hand := .ramp, ramp := some ramp, level := .pwm, pwm := p, why := 5 }
      gen := if x.gen.enabled ∨ ¬x.stage.output.conducts then x.gen.load p s.now else x.gen.start p s.now }
  else s.applyLevel c new 5

/-- A handover to the new source from the present level (R836, R837), which the cartridge runs by itself (R842); the cause is 0x05 while a hold, soak or ramp runs (R840). -/
def State.handover (s : State) (c : Ch) (src : Source) (present : Level × PwmSet) (cause : Nat) : State :=
  let s := s.endHand c
  let new := s.demands c src
  let pol := s.chItem c 0x0120
  let soak := s.chItem c 0x0121 * 10 * msec
  let x := s.chan c
  let base := { x.ctrl with source := src, level := present.1, pwm := present.2, hand := .none,
                            policy := pol, rampNs := s.chItem c 0x0122 * 10 * msec, why := 5 }
  if sameLevel present new then
    (s.modCtrl c fun _ => base).applyLevel c new cause
  else if pol = 0 then
    ((s.setChan c { x with stage := { x.stage with cause := 5 }, ctrl := { base with hand := .hold } }).logHand c present.1 new.1 pol).settle c
  else if pol = 1 ∧ soak ≠ 0 then
    ((s.setChan c { x with stage := { x.stage with cause := 5 }, ctrl := { base with hand := .soak, soakEnd := s.now + soak } }).logHand c present.1 new.1 pol).settle c
  else (s.setChan c { x with ctrl := base }).adopt c new

/-- A force takes the gates, in a debug halt too, by the order of R336 (R281, R820, R826, R828): OPEN cuts every switch; GLAZE drives its level, and holds a conducting channel
fully on where that is ON. A running handover ends (R846), and the generator goes on beneath the force without governing (R305). -/
def State.force (s : State) (c : Ch) (src : Source) : State :=
  let s := s.endHand c
  let x := s.chan c
  let lvl := (s.demands c src).1
  let why := if src = .open then 4 else 3
  let gen := { x.gen with governs := false }
  let s := s.modCtrl c fun y => { y with source := src, level := lvl, hand := .none, ramp := none, why := why }
  if src = .open then s.modChan c fun y => { y.cut s.now .highZ 4 with gen := gen }
  else if ¬(s.cart (slotOf c)).mayDrive ∨ (s.chan c).barred then s.modChan c (·.restOff s.now)
  else if lvl.isOn then
    if x.stage.output.conducts ∧ ¬x.stage.offDue then
      s.modChan c fun y => { y with
        stage := { y.stage with output := .on, fwd := true, fw := false, cause := if x.stage.output = .on then y.stage.cause else 3 }
        gen := gen }
    else s
  else (s.turnOff c lvl 3).modChan c fun y => { y with gen := gen }

/-- The governing source of a channel evaluated afresh after what may have changed it: a force acts at once, every other change
is a handover, and no change leaves the channel as it is. -/
def State.resource (s : State) (c : Ch) (cause : Nat) : State :=
  let x := (s.chan c).ctrl
  let src := s.govern c
  if src = x.source then s
  else match src with
    | .open => s.force c .open
    | .glaze => s.force c .glaze
    | _ =>
      let present : Level × PwmSet := if x.source = .open then (.off, x.pwm) else (x.level, x.pwm)
      s.handover c src present cause

/-- A command of the governing source (R838): it ends a hold or a soak and applies; during a ramp it redirects the ramp; else the
level the source demands applies (R832). -/
def State.command (s : State) (c : Ch) (cause : Nat) : State :=
  let x := s.chan c
  let new := s.demands c x.ctrl.source
  let apply := fun (s : State) => s.applyLevel c new cause
  match x.ctrl.hand with
  | .none => if sameLevel (x.ctrl.level, x.ctrl.pwm) new ∧ x.ctrl.pwm = new.2 then s else apply s
  | .ramp =>
    match x.ctrl.ramp with
    | some r =>
      if new.1.isOn then
        let p := if new.1 = .pwm then new.2 else x.ctrl.pwm
        s.setChan c { x with gen := x.gen.load p s.now, ctrl := { x.ctrl with pwm := p, ramp := some { r with
          start := s.now, duty0 := r.dutyAt s.now, duty1 := dutyOf new.1 new.2 } } }
      else apply (s.logHand c x.ctrl.level new.1 x.ctrl.policy)
    | none => apply s
  | _ => apply (s.logHand c x.ctrl.level new.1 x.ctrl.policy)

/-! Trips. -/

/-- The retry interval after a trip with attempt counter `n` (R264, R277, R278), none where it ends in LOCKED_OUT. -/
def retryInterval (strategy base n limit : Nat) : Option Nat :=
  let b := base * 10 * msec
  if strategy = 0 then none
  else if strategy = 1 then if n ≥ limit then none else some (min (b * 2 ^ n) (600 * sec))
  else if strategy = 2 then some (max b sec)
  else if n ≥ limit then none else some b

/-- What the cartridge saves at every trip and every second (R263, R283). -/
def Prot.save (x : Prot) (now : Instant) : Prot :=
  { x with savedX := x.x, savedN := x.n, savedTrip := x.trip, savedCause := x.tripCause, savedElapsed := now - x.tripAt
           savedStrat := x.strat, savedIv := x.interval, savedOk := true }

/-- The turn-off of a trip (R251, R257, R258, R261). STUCK_ON opens the series switch at once, with the load current in the freewheel switch;
HARD_SHORT, STUCK_OFF, SERIES_GATE and PROT_STATE_LOST leave every switch off; the others decay by DEMAG. FREEWHEEL ends, but for the safe
level on a channel locked out for STUCK_ON. -/
def State.tripOff (s : State) (c : Ch) (cause : Nat) : State :=
  let x := s.chan c
  let now := s.now
  match x.stage.output with
  | .highZ => if cause = 0x14 then s.modStage c fun g => { g with ser := false } else s
  | .freewheel => if x.safeFw then s.modStage c fun g => { g with ser := false } else s.modStage c (·.toOff now)
  | .off => if cause = 0x14 then s.modStage c fun g => { g with ser := false } else s
  | o =>
    if cause = 0x14 then (s.decay c x.safeFw true cause).modStage c fun g => { g with ser := false }
    else if cause = 0x10 ∨ cause = 0x15 ∨ cause = 0x0D ∨ cause = 0x17 then s.setChan c (x.cut now .off cause)
    else if o = .decay then s.modStage c fun g => { g with toFw := false }
    else s.decay c false (s.demagSlow c) cause

/-- Two instants of a cartridge fall in one 10 µs frame slot of its unit time (R279, R910). -/
def State.sameSlot (s : State) (c : Ch) (a b : Instant) : Bool :=
  let off := (s.cart (slotOf c)).timeOff
  ((a : Int) + off) / (10000 : Int) = ((b : Int) + off) / (10000 : Int)

/-- A trip (R243, R264, R279, R280). A trip on a tripped channel adds a secondary cause, but for STUCK_ON, which becomes the
cause, and for a higher-ranked one of the same 10 µs frame slot; the turn-off is the fastest of those of all the causes. The cause field of the
state word carries the cause (R243). -/
def State.trip (s : State) (c : Ch) (cause : Nat) : State :=
  let p := (s.chan c).prot
  let mark := fun (s : State) => s.modChan c fun y => { y with prot := y.prot.save s.now, stage := { y.stage with cause := y.prot.tripCause } }
  if p.trip ≠ .none then
    if cause = p.tripCause then s
    else if cause = 0x14 ∨ (s.sameSlot c s.now p.tripAt ∧ tripRank cause < tripRank p.tripCause) then
      let s := s.modProt c fun q => { q with
        second := q.second ||| causeBit q.tripCause, tripCause := cause, tripLog := true,
        trip := if cause = 0x14 ∨ cause = 0x15 then .locked else q.trip }
      mark (s.tripOff c cause)
    else mark ((s.modProt c fun q => { q with second := q.second ||| causeBit cause }).tripOff c cause)
  else
    let n := if p.retrying then p.n + 1 else p.n
    let iv := retryInterval (s.chItem c 0x0116) (s.chItem c 0x0118) n (s.chItem c 0x0117)
    let locked := cause = 0x14 || cause = 0x15 || iv = none
    let s := s.modProt c fun q => { q with
      trip := if locked then .locked else .tripped, tripCause := cause, second := 0, tripAt := s.now,
      strat := s.chItem c 0x0116, interval := iv.getD 0, n := n, retrying := false, held := false, tripLog := true, limpOff := none, cleanSince := none }
    let rev := (s.chan c).stage.reverse && decide (s.now ≤ (s.chan c).stage.revAt + 2 * usec)
    mark ((s.tripOff c cause).modStage c fun g => { g with revUntil := if rev then none else g.revUntil })

/-- A trip ends (R270, R271): n resets, and the channel takes its evaluated state; a channel that is not tripped stays as it is (R267, R280). The
cartridge stores the end of the trip at once: DESIGN CHOICE, log entry 61. -/
def State.clearTrip (s : State) (c : Ch) : State :=
  if (s.chan c).prot.trip = .none then s
  else
    let s := s.modProt c fun q => { q with
      trip := .none, tripCause := 0, second := 0, n := 0, interval := 0, retrying := false, held := false, tripLog := false, limpOff := none }
    (((s.modProt c (·.save s.now)).chanAlarm c 0x020F false 1 0)).settle c

/-! Voyage entries. -/

/-- A voyage entry for a ballast channel whose output has passed between conducting and not conducting (R808, R815). -/
def State.voyage (s : State) (c : Ch) : State :=
  let x := s.chan c
  let k := s.cart (slotOf c)
  let now := x.stage.output.conducts
  if s.chItem c 0x0126 = 1 ∧ now ≠ x.stage.voyOn ∧ k.powered then
    let e : VoyEntry := { seq := k.voySeq, time := (s.now : Int) + k.timeOff, pos := c.val % 4, began := now,
                          cause := x.stage.cause, run := ((x.meas.avg1s.current).getD 0) / 1000, removing := k.removing,
                          unclaimed := k.holder = none, unset := k.unset }
    let s := s.modCart (slotOf c) fun k =>
      if k.voy.length < 64 then { k with voy := k.voy ++ [e], voySeq := wrap32 k.voySeq } else { k with voyLost := k.voyLost + 1 }
    s.modStage c fun g => { g with voyOn := now }
  else s.modStage c fun g => { g with voyOn := now }

end Sys2Proof.Machine
end

