-- ==== Sys2Proof/Machine/Retry.lean ====
section
/-!
DEFINITION. Machine/Retry.lean: the retry attempt of a tripped channel (R264 to R269, R406): when it is due, what it waits for, and what it does
with the governing source and level.
-/
namespace Sys2Proof.Machine

/-- 1.0 of the wire model, in units of 2^−60. -/
def xOne : Nat := 2 ^ 60

/-- An attempt is due with its gates open (R264, R265); TW_TEMP asks for a valid reading (R424). Where a die sensor is implausible, 60 s take the place of TW_TEMP (R452). -/
def State.retryDue (s : State) (c : Ch) : Bool :=
  let p := (s.chan c).prot
  p.trip = .tripped && decide (p.tripAt + p.interval ≤ s.now) && decide (10 * p.x ≤ 7 * xOne) &&
  !(p.tripCause = 0x13 && (p.dieFwd || p.dieFw)) &&
  (p.strat ≠ 3 ||
    (if s.cool.dieBad[c] then decide (max p.dieExit p.tripAt + 60 * sec ≤ s.now)
     else p.dieAt.any (fun t => s.now ≤ t + 300 * msec) && decide (p.dieTemp ≤ (s.chItem c 0x0119 * 10 : Nat))))

/-- Both halves of a twin are claimed, so that an attempt waits for the pair's release (R406). -/
def State.retryWaits (s : State) (c : Ch) : Bool :=
  (s.chan c).ctrl.twinned && (s.cart (slotOf c)).holder.isSome && (s.cart (slotOf (partner c))).holder.isSome && !(s.chan c).set.release

/-- The end of a trip by a retry decision: n stays (R269). -/
def Prot.endTrip (p : Prot) (retrying : Bool) : Prot :=
  { p with trip := .none, tripCause := 0, second := 0, retrying := retrying, held := false, tripLog := false }

/-- The retry attempt at its due instant (R266, R269): it waits for the band, the release and the end of OPEN; a level ON or PWM runs it, and
any other ends the trip without switching. -/
def State.attempt (s : State) (c : Ch) : State :=
  let x := s.chan c
  if ¬s.retryDue c ∨ s.retryWaits c then s
  else if x.ctrl.source = .open ∨ ¬(s.cart (slotOf c)).mayDrive then s.modProt c fun p => { p with held := true }
  else
    let s := (s.modProt c (·.endTrip x.ctrl.level.isOn)).chanAlarm c 0x020F false 1 0
    if x.ctrl.level.isOn then s else s.settle c

end Sys2Proof.Machine
end

