-- ==== Sys2Proof/Machine/Limp.lean ====
section
/-!
DEFINITION. Machine/Limp.lean: the limp-home truth tables and the limp digest (R830 to R835), the fault inputs' forces (R826 to
R828), and the writes of configuration items into a cartridge's MRAM (R185, R231, R262, R321, R388, R389, R807, R834).
-/
namespace Sys2Proof.Machine

/-- The level of a LIMP_TABLE at input state `e` (R614), the table read as one number. -/
def limpEntry (table e : Nat) : Nat := bits (table >>> (8 * (63 - e / 4))) (2 * (e % 4)) 2

/-- Every LH line has an accepted contact state or a declared fault (R848). -/
def linesKnown (lh : List Line) : Bool := lh.all fun l => l.closed.isSome || l.fault.isSome

/-- The input state of the accepted contacts: bit n − 1 for LHn closed (R614). -/
def limpState (lh : List Line) : Nat := maskOf 8 fun i => ((lh.getD i {}).closed).getD false

/-- The bits of the lines declared faulted. -/
def faultMask (lh : List Line) : Nat := maskOf 8 fun i => ((lh.getD i {}).fault).isSome

/-- The level that a table demands at the accepted states, with LIMP_LINE deciding where faulted lines leave it open (R831). -/
def tableDemand (table line : Nat) (held : Option Level) (lh : List Line) : Level :=
  let f := faultMask lh
  let e := limpState lh
  let base := e &&& (255 - f)
  let cand := ((List.range 256).filter fun x => x &&& (255 - f) = base).map (limpEntry table)
  if f = 0 then levelOf (limpEntry table e)
  else match cand with
    | [] => .off
    | v :: l => if l.all (· = v) then levelOf v else if line = 4 then held.getD .off else levelOf line

/-- The level that a channel demands in limp-home (R831, R835, R848). -/
def State.limpLevel (s : State) (c : Ch) : Level :=
  let lh := (s.cart (slotOf c)).lh.toList
  let x := (s.chan c).ctrl
  if x.limpBad ∨ ¬linesKnown lh then .off
  else tableDemand (s.chItem c 0x0123) (s.chItem c 0x0125) x.heldDemand lh

/-- The limp digest (R833) over the demanded levels of the four positions. -/
def State.limpDigest (s : State) (k : Slot) : Nat :=
  crc32 ((chansOf k).map fun c => BitVec.ofNat 8 (s.chan c).ctrl.demand.code)

/-- A new demanded level of one channel: a command of LIMP where LIMP governs (R832, R838). -/
def State.redemand (s : State) (c : Ch) : State :=
  let lvl := s.limpLevel c
  let was := (s.chan c).ctrl
  let s := s.modCtrl c fun x => { x with demand := lvl }
  if was.source = .limp ∧ was.demand ≠ lvl then s.command c 2 else s

/-- The demands of a cartridge formed afresh, with the digest (R831, R833). -/
def State.formDemands (s : State) (k : Slot) : State :=
  let s := overList (chansOf k) (fun c s => s.redemand c) s
  s.modCart k fun x => { x with digest := s.limpDigest k }

/-! Fault inputs. -/

/-- The fault input that FLT_MODE names, 0 FLT1, 1 FLT2 (R613). -/
def fltInput (mode : Nat) : Fin 2 := if bit mode 2 then 1 else 0

/-- OPEN governs while FLT_MODE is OPEN_FOLLOW and the named input is asserted (R819, R828). -/
def State.openNow (s : State) (c : Ch) : Bool :=
  let m := s.chItem c 0x011E
  bits m 0 2 = 2 && ((s.cart (slotOf c)).flt[fltInput m]).asserted

/-- The OPEN condition of a channel evaluated afresh; its onset and its end are logged as OPEN_FOLLOW (R829). A retry attempt
held by OPEN is evaluated afresh when OPEN ends (R269). -/
def State.evalOpen (s : State) (c : Ch) : State :=
  let now := s.openNow c
  let was := (s.chan c).ctrl.openF
  if now = was then s
  else
    let s := s.modCtrl c fun x => { x with openF := now }
    let s := (s.resource c 4).chanAlarm c 0x0F04 now (b2n was) (b2n now)
    if now = false ∧ (s.chan c).prot.held then s.attempt c else s

/-- Assertion of an input sets the glaze latch of a channel in mode GLAZE that names it (R826): the level is SAFE_LEVEL. -/
def State.setGlaze (s : State) (c : Ch) (i : Fin 2) : State :=
  let m := s.chItem c 0x011E
  if bits m 0 2 = 1 ∧ fltInput m = i ∧ ¬(s.chan c).ctrl.glaze then
    let sl := s.chItem c 0x011F
    let lvl : Level := if sl = 1 then .on else if sl = 2 then .freewheel else .off
    let s := s.modCtrl c fun x => { x with glaze := true, glazeLvl := lvl, glazeIn := i.val, glazeSaved := true, glazeAt := s.now }
    let s := s.resource c 3
    s.chanEvent c 0x0F02 0 lvl.code
  else s

/-- CLEAR_GLAZE: GLAZE stops governing, and the channel passes on under its handover policy (R827). -/
def State.clearGlaze (s : State) (c : Ch) : State :=
  if (s.chan c).ctrl.glaze then
    let lvl := (s.chan c).ctrl.glazeLvl
    let s := s.modCtrl c fun x => { x with glaze := false, glazeSaved := true }
    (s.resource c 3).chanEvent c 0x0F03 lvl.code 0
  else s

/-! Configuration writes into a cartridge. -/

/-- The channel items of R613. -/
def chanItemIds : List Nat := (itemRows.filter fun r => r.kind = .ch).map (·.id)

/-- The items of one slot's MRAM as the controller writes them: channel items from the governing half (R388), CART_HOLD and the
four BLANK_SEL words; BY_PROFILE resolved (R997). -/
def State.slotItems (s : State) (w : Ctl) (k : Slot) : Items :=
  let l := (s.ctl w).mram.items
  let chans := (chansOf k).flatMap fun c =>
    let src := if l.val 0x0201 ((pairOf c).val + 1) = 1 then lowOf (pairOf c) else c
    chanItemIds.map fun id => (id, numOf c, l.resolved id (numOf src))
  let rest := (0x0701, k.val + 1, l.val 0x0701 (k.val + 1)) ::
    (List.range 4).map fun t => (0x0702, 4 * k.val + t + 1, l.val 0x0702 (4 * k.val + t + 1))
  (chans ++ rest).foldl (fun acc x => Items.put acc x.1 x.2.1 x.2.2 (cartDefault x.1)) []

/-- The twin marking of a channel (R389): its pair, or none. -/
def State.marking (s : State) (w : Ctl) (c : Ch) : Nat :=
  if (s.ctl w).mram.items.val 0x0201 ((pairOf c).val + 1) = 1 then (pairOf c).val + 1 else 0

/-- OL_OFF disabled clears what the off-state test set, and the clearing is logged (R218). -/
def State.endOffTest (s : State) (c : Ch) : State :=
  if s.chItem c 0x0104 = 0 then
    let g := (s.chan c).stage
    let s := s.modStage c fun x => { x with olOff := false, extV := false, olClean := 0, extClean := 0 }
    let s := s.chanFlag c 0x0204 (g.olOff || g.olOn) g.olOn
    s.chanFlag c 0x0205 g.extV false
  else s

/-- The BLANK_SEL words taken into use (R321): at a period boundary of channel `c`, the words whose source it is; otherwise those
whose source channel's generator does not run. -/
def State.loadTimers (s : State) (k : Slot) (c : Option Ch) : State :=
  s.modCart k fun x => { x with at_ := Vector.ofFn fun t =>
    let w := x.items.cart 0x0702 (4 * k.val + t.val + 1)
    let src := chOf k ⟨w % 4, Nat.mod_lt _ (by decide)⟩
    let load : Bool := match c with
      | some c => decide (src = c)
      | none => !(s.chan src).gen.enabled
    if load then { x.at_[t] with sel := w } else x.at_[t] }

/-- The controller writes a cartridge's items and twin markings; what follows from them at the write follows: OPEN_FOLLOW
evaluated afresh (R825, R846), off-state flags cleared (R218), demands and digest formed (R834), BLANK_SEL loaded. LIMP_TABLE_FAULT is raised,
and ended by the write (R835). -/
def State.writeCart (s : State) (w : Ctl) (k : Slot) : State :=
  let bad := (chansOf k).filter fun c => (s.chan c).ctrl.limpBad
  let s := overList bad (fun c s => (s.chanAlarm c 0x0F07 true 0 1).chanAlarm c 0x0F07 false 1 0) s
  let s := s.modCart k fun x => { x with items := s.slotItems w k, written := true, cfgDue := false }
  let s := overList (chansOf k) (fun c s =>
    (((s.modCtrl c fun x => { x with mark := s.marking w c, markHigh := isHigh c && s.marking w c ≠ 0, limpBad := false }).evalOpen c).endOffTest c)) s
  (s.loadTimers k none).formDemands k

end Sys2Proof.Machine
end

