-- ==== Sys2Proof/Machine/Derate.lean ====
section
/-!
DEFINITION. Machine/Derate.lean: the continuous limits in force (R443, R445) and the exceedance timers of R446.
-/
namespace Sys2Proof.Machine

/-- A current at 55 °C, in mA, brought to an inlet temperature in 0.1 °C: times f = 1 − 0.02 × (T − 55 °C) from 55 °C to 70 °C, rounded
down to 0.01 A (R443). -/
def derated (ma : Nat) (inlet : DeciDeg) : Nat :=
  let above : Nat := (max 0 (min 150 (inlet - 550))).toNat
  ma * (1000 - 2 * above) / 10000 * 10

/-- The limit of one channel at a derate step, mA (R443). -/
def chLimitAt (step : Nat) (inlet : DeciDeg) : Nat := derated (if step = 0 then 12000 else if step = 1 then 9000 else 5000) inlet

/-- The limit of the unit total at a derate step, mA (R443). -/
def unitLimitAt (step : Nat) (inlet : DeciDeg) : Nat := derated (if step = 0 then 160000 else if step = 1 then 120000 else 60000) inlet

/-- The channel limit in force. -/
def State.chLimit (s : State) : Nat := chLimitAt s.cool.step s.cool.inletUsed

/-- The unit total limit in force. -/
def State.unitLimit (s : State) : Nat := unitLimitAt s.cool.step s.cool.inletUsed

/-- The 1 s average of a channel, mA. -/
def State.chMa (s : State) (c : Ch) : Int := (((s.chan c).meas.avg1s.current).getD 0) / 1000

/-- What R446 checks under a channel: its own average, or the sum of both halves of its twin (R414). -/
def State.checkedMa (s : State) (c : Ch) : Int := ((s.bothHalves c).map fun d => s.chMa d).sum

/-- The limit it is checked against: twice the channel limit for a pair (R414, R445). -/
def State.checkedLimit (s : State) (c : Ch) : Nat := s.chLimit * (s.bothHalves c).length

/-- The exceedance timers of a channel or pair after a 1 s average (R446); a pair has those of its lower half. -/
def State.trackOver (s : State) (ch : Ch) : State :=
  let c := s.itemCh ch
  let above : Bool := decide ((s.checkedLimit c : Int) < s.checkedMa c)
  let from_ := s.cool.overSince[c]
  let under := if above then none else if from_.isSome then some (s.cool.underSince[c].getD s.now) else none
  let reset : Bool := s.held under (10 * sec)
  s.modCool fun x => { x with
    overSince := setV x.overSince c (if above then some (from_.getD s.now) else if reset then none else from_)
    underSince := setV x.underSince c (if reset then none else under) }

end Sys2Proof.Machine
end

