-- ==== Sys2Proof/Machine/Measure.lean ====
section
/-!
DEFINITION. Machine/Measure.lean: measurement and wedging (chapter 08): averages, accuracy classes, energy, visits, the comparison of
the two paths, and the triggered samples (R318, R319, R354).
-/
namespace Sys2Proof.Machine

/-! Readings. -/

/-- Unit time as a cartridge holds it (R350). -/
def State.cartTime (s : State) (k : Slot) : UnitTime := (s.now : Int) + (s.cart k).timeOff

/-- The 5 °C bin of a temperature in 0.1 °C, from −30 °C to +100 °C (R372). -/
def binOf (t : DeciDeg) : Nat := (max 0 (min 25 ((t + 300) / 50))).toNat

/-- The table's gain in a bin, where it has one. -/
def binGain (l : List (Nat × Int)) (b : Nat) : Option Int := (l.find? fun x => x.1 = b).map (·.2)

/-- A bin written. -/
def putBin (l : List (Nat × Int)) (b : Nat) (v : Int) : List (Nat × Int) := (l.filter fun x => x.1 ≠ b) ++ [(b, v)]

/-- The gain in use at a temperature: that of the last visit, corrected by the table (R372). -/
def Path.gainAt (p : Path) (t : DeciDeg) : Int :=
  match binGain p.bins (binOf t), binGain p.bins p.visitBin with
  | some a, some z => p.gain + (a - z)
  | _, _ => p.gain

/-- The path is in use. -/
def Path.used (p : Path) : Bool := !p.excluded && !p.failed

/-- The accuracy class (R367, R377, R378). -/
def Meas.cls (m : Meas) (now : Instant) (proofBad : Bool) (proofAt : Instant) : Nat :=
  if ¬m.p1.used ∧ ¬m.p2.used then 5
  else if ¬m.p1.used ∨ ¬m.p2.used then 3
  else if m.crazing then 4
  else match m.p1.visitAt, m.p2.visitAt with
    | some a, some z =>
      let age := now - min a z
      if age > 86400 * sec then 2
      else if proofBad then if now - proofAt > 86400 * sec then 2 else 1
      else if age ≤ 120 * sec then 0 else 1
    | _, _ => 2

/-- The bound of R367 and R368 in µA for a current in µA, rounded up; `d` is the disagreement of the paths, and interval code 0 adds
6 mA. -/
def boundOf (cls : Nat) (i : Int) (d : Nat) (code : Nat) : Nat :=
  let a := max 10000 i.natAbs
  let m := if i.natAbs > 15000000 then 4 else 1
  let up := fun (n k : Nat) => (n + k - 1) / k
  let base := match cls with
    | 0 => up (a * m) 2000 + 500
    | 1 => up (a * m) 1000 + 500
    | 2 => up (a * m) 500 + 1000
    | 3 => up (a * m) 200 + 500
    | _ => up d 2 + up (a * m) 200 + 500
  base + if code = 0 then 6000 else 0

/-- The present disagreement of the 1 s means, µA. -/
def Meas.disagreement (m : Meas) : Nat := (m.p1.mean1s - m.p2.mean1s).natAbs

/-- The mean of `n` values from their sum. -/
def meanOf (sum : Int) (n : Nat) : Int := sum / (max 1 n : Nat)

/-- The channel's current from those of its paths in use (R367). -/
def Meas.current (m : Meas) (i1 i2 : Int) : Option Int :=
  if m.p1.used ∧ m.p2.used then some ((i1 + i2) / 2) else if m.p1.used then some i1 else if m.p2.used then some i2 else none

/-- The average of an interval from its samples (R349, R351, R352). -/
def State.average (s : State) (c : Ch) (code : Nat) (time : UnitTime) (a : AvgSum) : Avg :=
  let k := s.cart (slotOf c)
  let m := (s.chan c).meas
  let cls := m.cls s.now k.proofBad k.proofAt
  let cur := m.current (meanOf a.i1 a.n) (meanOf a.i2 a.n)
  { time := time, current := cur, volt := meanOf a.v a.n, power := meanOf a.p a.n / 1000000000
    blanked := a.blanked, sat1 := a.sat1, sat2 := a.sat2, unaligned := a.unaligned
    bound := boundOf cls (cur.getD 0) m.disagreement code
    status := cls ||| (b2n m.crazing <<< 3) ||| (b2n m.p1.used <<< 4) ||| (b2n m.p2.used <<< 5) }

/-- The measurement record of R351, 32 bytes. -/
def measRecord (c : Ch) (code : Nat) (a : Avg) : Bytes :=
  be 8 (a.time % (2 ^ 64 : Nat)).toNat ++ be 1 (numOf c) ++ be 1 code ++
  be 1 (a.status ||| (b2n a.unaligned <<< 6) ||| (b2n (a.sat1 || a.sat2) <<< 7)) ++ be 1 (min 255 a.blanked) ++
  (match a.current with
   | some i => beInt 4 i
   | none => be 4 0x80000000) ++
  beInt 4 a.volt ++
  (if a.current.isSome then beInt 4 a.power else be 4 0x80000000) ++
  (if a.current.isSome then be 4 (satU 32 a.bound) else be 4 0xFFFFFFFF) ++ zeros 4

/-! The proof source. -/

/-- The trinomials that make a 15-bit register maximal-length, by the place of their middle tap. -/
def chopTaps : Vector Nat 6 := #v[1, 4, 7, 8, 11, 14]

/-- The register of the pseudo-random sequence at a chop cycle of a visit (R360). -/
def chopWord : Nat → Nat
  | 0 => Config.chopSeed.val + 1
  | n + 1 =>
    let w := chopWord n
    (w * 2 + (b2n (bit w 14) + b2n (bit w (chopTaps[Config.chopTap] - 1))) % 2) % 2 ^ 15

/-- A half-period of the chop, in thirds of a ns: 2400 of them make a second (R360). -/
def chopHalf : Nat := 1250000

/-- How long the proof source has been on in the first `x` thirds of a ns of a visit (R360). -/
def chopOn (x : Nat) : Nat :=
  let n := x / (2 * chopHalf)
  let r := x % (2 * chopHalf)
  n * chopHalf + if bit (chopWord n) 14 then min r chopHalf else r - chopHalf

/-- How long of an interval the proof source drives a channel's shunt, in thirds of a ns (R359, R360). -/
def Cart.proofTime (k : Cart) (p : Fin 4) (a z : Instant) : Nat :=
  let lo := max a k.visitAt
  let hi := min z k.visitStop
  if k.visitPos = p.val ∧ lo < hi then chopOn (3 * (hi - k.visitAt)) - chopOn (3 * (lo - k.visitAt)) else 0

/-- The proof source is on at an instant (R360, R657). -/
def Cart.proofOn (k : Cart) (t : Instant) : Bool := k.visit.isSome && k.proofTime ⟨k.visitPos % 4, Nat.mod_lt _ (by decide)⟩ t (t + 1) ≠ 0

/-! Blanking. -/

/-- A consumer bit of BLANK_SEL for a position: 0 MEAS, 1 LIM, 2 STUCK (R320). -/
def consumes (sel : Nat) (pos : Fin 4) (which : Nat) : Bool := bit sel (4 + 3 * pos.val + which)

/-- A window that blanks a consumer of a channel runs (R323); the comparators and inputs of R324 are no consumers. -/
def State.blanked (s : State) (c : Ch) (which : Nat) : Bool :=
  (s.cart (slotOf c)).at_.toList.any fun a => match a.until_ with
    | some e => consumes a.sel (posOf c) which && decide (s.now < e)
    | none => false

/-- The windows of a timer, the running one among them, each with its word (R353). -/
def AuxTimer.windows (a : AuxTimer) : List (Instant × Instant × Nat) :=
  match a.until_ with
  | some e => (a.since, e, a.sel) :: a.past
  | none => a.past

/-- A timer whose running window has ended by now keeps it among the past ones, for the samples that it overlaps. -/
def AuxTimer.close (a : AuxTimer) (now : Instant) : AuxTimer :=
  let a := { a with past := a.past.filter fun w => now < w.2.1 + 2 * msec }
  match a.until_ with
  | some e => { a with until_ := none, past := (a.since, min e now, a.sel) :: a.past }
  | none => a

/-- The MEAS windows of a channel position (R323, R353). -/
def Cart.measWindows (k : Cart) (p : Fin 4) : List (Instant × Instant) :=
  (k.at_.toList.flatMap (·.windows)).filterMap fun w => if consumes w.2.2 p 0 then some (w.1, w.2.1) else none

/-- How far windows cover an interval from its start without a gap: each round takes the windows that reach the point so far. -/
def coveredTo (ws : List (Instant × Instant)) : Nat → Instant → Instant
  | 0, a => a
  | n + 1, a => coveredTo ws n (ws.foldl (fun b w => if w.1 ≤ a then max b w.2 else b) a)

/-- The interval lies wholly inside the windows. -/
def covered (ws : List (Instant × Instant)) (a z : Instant) : Bool := decide (z ≤ coveredTo ws ws.length a)

/-- The interval overlaps a window. -/
def touched (ws : List (Instant × Instant)) (a z : Instant) : Bool := ws.any fun w => decide (w.1 < z) && decide (a < w.2)

/-! Samples. -/

/-- Length of a sample interval, ns (R346). -/
def sampleNs : Nat := 50000

/-- A sample in the sign of the current, without the internal offset (R365). -/
def Path.signed (p : Path) (u : Int) : Int := if p.pol then p.inner - u else u - p.inner

/-- A sample's current before the external offset: the gain, and the proof current added back for `on` thirds of a ns of the interval
(R361, R362). -/
def Path.load (p : Path) (t : DeciDeg) (u : Int) (on : Nat) : Int := p.signed u * 1000000 / p.gainAt t + 2 * on / 3

/-- A sample of a path: the current, or ±100 A where it is saturated, or the previous sample where its interval lies wholly inside a window (R347,
R353). -/
def Path.sample (p : Path) (t : DeciDeg) (u : Int) (sat whole : Bool) (on : Nat) : Int :=
  if whole then p.last
  else if sat then (if p.signed u < 0 then -100000000 else 100000000)
  else p.load t u on - p.offset

/-- The demodulator takes a sample in, times the mean of the chop reference: +1 for proof off, −1 for proof on (R361). -/
def Demod.take (d : Demod) (r : Int) (on : Nat) : Demod :=
  let m : Int := 150000 - 2 * on
  { prod := d.prod + r * m, sqr := d.sqr + (m * m).toNat }

/-- A path after a sample: the commutator reverses, and a visit's demodulator takes the unblanked, unsaturated sample (R353, R361, R365). -/
def Path.next (p : Path) (i u : Int) (half : Nat) (on : Nat) : Path :=
  let r := p.signed u
  { p with
    pol := !p.pol, last := i
    half1 := if half = 1 then p.half1.take r on else p.half1
    half2 := if half = 2 then p.half2.take r on else p.half2 }

/-- The half of the running visit in which a sample interval lies, or 0. -/
def Cart.visitHalf (k : Cart) (p : Fin 4) (a : Instant) : Nat :=
  if k.visit = some p.val ∧ k.visitAt ≤ a ∧ a + sampleNs ≤ k.visitAt + 2 * sec then (if a < k.visitAt + sec then 1 else 2) else 0

/-- A sample is not tied to unit time (R352, R380, R727): it began unclaimed or before a step, unit time is UNSET, or the oscillator is off. -/
def Cart.unaligned (k : Cart) (a : Instant) : Bool :=
  k.holder.isNone || decide (a < max k.claimAt k.stepAt) || k.unset || k.oscBad

/-- A sample added to an average (R349, R356). -/
def AvgSum.add (a : AvgSum) (i1 i2 : Int) (cur v : Int) (blank sat1 sat2 un : Bool) : AvgSum :=
  { n := a.n + 1, i1 := a.i1 + i1, i2 := a.i2 + i2, v := a.v + v, p := a.p + v * cur, pos := a.pos + (v * cur).toNat
    blanked := a.blanked + b2n blank, sat1 := a.sat1 || sat1, sat2 := a.sat2 || sat2, unaligned := a.unaligned || un }

/-- Two stretches of samples as one. -/
def AvgSum.join (a b : AvgSum) : AvgSum :=
  { n := a.n + b.n, i1 := a.i1 + b.i1, i2 := a.i2 + b.i2, v := a.v + b.v, p := a.p + b.p, pos := a.pos + b.pos
    blanked := a.blanked + b.blanked, sat1 := a.sat1 || b.sat1, sat2 := a.sat2 || b.sat2, unaligned := a.unaligned || b.unaligned }

/-- The unblanked, unsaturated samples of a pair added (R369). -/
def Bucket.add (b : Bucket) (i1 i2 : Int) (ok1 ok2 : Bool) : Bucket :=
  { n1 := b.n1 + b2n ok1, s1 := b.s1 + if ok1 then i1 else 0, n2 := b.n2 + b2n ok2, s2 := b.s2 + if ok2 then i2 else 0 }

/-- A sample taken for the external offset: in the 100 ms that follow 100 ms OFF with the series switch open (R366). -/
def OffSum.add (o : OffSum) (g : Stage) (a : Instant) (l1 l2 : Int) : OffSum :=
  if g.output = .off ∧ ¬g.ser ∧ g.offAt + 100 * msec ≤ a ∧ a + sampleNs ≤ g.offAt + 200 * msec then
    let o := if o.off = g.offAt then o else { off := g.offAt }
    { o with n := o.n + 1, s1 := o.s1 + l1, s2 := o.s2 + l2 }
  else o

/-- One sample of a channel, over the 50 µs from the instant `a` (R346 to R353, R361, R362, R365, R366, R375). -/
def Chan.sample (x : Chan) (k : Cart) (p : Fin 4) (a : Instant) (u : SampleIn) (sum : AvgSum) : Chan × AvgSum :=
  let m := x.meas
  let z := a + sampleNs
  let ws := k.measWindows p
  let blank := touched ws a z
  let whole := blank && covered ws a z
  let on := k.proofTime p a z
  let i1 := m.p1.sample k.tMeas u.u1 u.sat1 whole on
  let i2 := m.p2.sample k.tMeas u.u2 u.sat2 whole on
  let cal := (k.calAt[p.val]'(by omega)).any fun t => decide (a ≤ t) && decide (t < z)
  let v := if cal then m.lastV else u.uv * 1000000 / k.vGain[p.val]'(by omega)
  let ok1 : Bool := !blank && !u.sat1
  let ok2 : Bool := !blank && !u.sat2
  let half := k.visitHalf p a
  ({ x with meas := { m with
      p1 := m.p1.next i1 u.u1 (if ok1 then half else 0) on
      p2 := m.p2.next i2 u.u2 (if ok2 then half else 0) on
      lastV := v
      bucket := m.bucket.add i1 i2 ok1 ok2
      offSum := if blank then m.offSum else m.offSum.add x.stage a (m.p1.load k.tMeas u.u1 on) (m.p2.load k.tMeas u.u2 on) } },
   sum.add i1 i2 ((m.current i1 i2).getD 0) v blank u.sat1 u.sat2 (k.unaligned a))

/-- The samples of a stretch, the first from the instant `a` on. -/
def Chan.samples (k : Cart) (p : Fin 4) : List SampleIn → Instant → Chan → AvgSum → Chan × AvgSum
  | [], _, x, sum => (x, sum)
  | u :: l, a, x, sum =>
    let r := x.sample k p a u sum
    samples k p l (a + sampleNs) r.1 r.2

/-! Averaging. -/

/-- Energy added to the accumulator: the positive products of 50 µs each (R356). -/
def Meas.addEnergy (m : Meas) (pos : Nat) : Meas :=
  let r := m.energyRem + pos
  { m with energy := (m.energy + r / 72000000000000) % 2 ^ 64, energyRem := r % 72000000000000 }

/-- The internal offset after 1 ms: the mean of the uncorrected samples (R365). -/
def Path.learnInner (p : Path) (l : List Int) : Path := if l = [] then p else { p with inner := meanOf l.sum l.length }

/-- What 1 ms of samples leaves in a channel's measurement (R349, R356, R365). -/
def Meas.tally (m : Meas) (a : AvgSum) (x : List SampleIn) (mirror : MilliAmp) : Meas :=
  { m.addEnergy a.pos with
    p1 := m.p1.learnInner (x.map (·.u1)), p2 := m.p2.learnInner (x.map (·.u2))
    i1 := some (meanOf a.i1 a.n), i2 := some (meanOf a.i2 a.n), mirror := mirror
    sum100ms := m.sum100ms.join a, sum1s := m.sum1s.join a }

/-- The 100 ms means of the triggered pairs, each pair taken as the mean of its two paths (R354). -/
def Gen.trigMeans (g : Gen) : Gen :=
  { g with trgAMean := if g.trgACnt = 0 then none else some (g.trgASum / g.trgACnt), trgASum := 0, trgACnt := 0,
           trgBMean := if g.trgBCnt = 0 then none else some (g.trgBSum / g.trgBCnt), trgBSum := 0, trgBCnt := 0 }

/-- Length of an averaging interval, ns. -/
def intervalNs (k : Fin 3) : Nat := if k = 0 then msec else if k = 1 then 100 * msec else sec

/-- The end of an interval: the unit-time multiple nearest to now, or now itself where the cartridge is not aligned (R350). -/
def State.intervalEnd (s : State) (k : Slot) (d : Nat) : UnitTime :=
  let t := s.cartTime k
  if (s.cart k).holder.isSome ∧ ¬(s.cart k).unset then (t + (d / 2 : Nat)) / d * d else t

/-- An instant of unit time on the running clock, as a cartridge holds unit time. -/
def State.onClock (s : State) (k : Slot) (u : UnitTime) : Instant := (u - (s.cart k).timeOff).toNat

/-- Unit time steps in the frames that a cartridge gets (R727): its running averages of 100 ms and 1 s end here, UNALIGNED. -/
def State.cutIntervals (s : State) (k : Slot) : State :=
  let s := overList (chansOf k) (fun c s =>
    let m := (s.chan c).meas
    let avg := fun (code : Nat) (a : AvgSum) (was : Avg) => if a.n = 0 then was else s.average c code (s.cartTime k) { a with unaligned := true }
    s.modMeas c fun m' => { m' with
      avg100ms := avg 1 m.sum100ms m.avg100ms, avg1s := avg 2 m.sum1s m.avg1s, sum100ms := {}, sum1s := {} }) s
  s.modCart k fun x => { x with stepAt := s.now }

/-- AVERAGE_INTERVAL_END (R349): with the 1 ms average the samples of that ms come in, oldest first, and the longer averages are formed of them (fewer than 20, where a step of unit time
ended the ms: R727); with the 1 s average the ACTIVE controller counts on the exceedance timers (R446). -/
def execAverageIntervalEnd (t : Instant) (c : Ch) (k : Fin 3) (x : List SampleIn) (mirror : MilliAmp) (s : State) : Result :=
  run t (fun s =>
    let y := s.cart (slotOf c)
    when y.powered (fun s =>
      let time := if k = 0 ∧ x.length ≠ 20 then s.cartTime (slotOf c) else s.intervalEnd (slotOf c) (intervalNs k)
      let m := (s.chan c).meas
      if k = 0 then
        let (z, a) := Chan.samples y (posOf c) x (s.onClock (slotOf c) time - x.length * sampleNs) (s.chan c) {}
        let s := s.setChan c { z with meas := z.meas.tally a x mirror }
        s.modMeas c fun m => { m with avg1ms := s.average c 0 time a }
      else if k = 1 then
        let r := if m.sum100ms.n = 0 then m.avg100ms else s.average c 1 time m.sum100ms
        (s.modMeas c fun m => { m with avg100ms := r, sum100ms := {}, slide := (m.bucket :: m.slide).take 10, bucket := {} }).modGen c
          Gen.trigMeans
      else
        let r := if m.sum1s.n = 0 then m.avg1s else s.average c 2 time m.sum1s
        let s := s.modMeas c fun m => { m with avg1s := r, sum1s := {} }
        if s.active.isSome then s.trackOver c else s) s) s

/-- LATCH_INSTANT (R355, R379): every channel of a claimed cartridge forms its latch sample, of both paths, over T − 50 µs to T. -/
def execLatchInstant (t : Instant) (k : Slot) (x : Vector SampleIn 4) (s : State) : Result :=
  run t (fun s =>
    match (s.cart k).latchAt with
    | none => s
    | some T =>
      when ((s.cart k).powered && (s.cart k).holder.isSome && T ≤ s.cartTime k) (fun s =>
        let s := overList (List.finRange 4) (fun p s =>
          let c := chOf k p
          let a := ((s.chan c).sample (s.cart k) p (s.onClock k T - sampleNs) x[p] {}).2
          s.modMeas c fun m => { m with latch := some (s.average c 3 T a) }) s
        s.modCart k fun y => { y with latchAt := none }) s) s

/-- LATCH_COMPLETE (R618): the latch completes 2 ms after T. -/
def execLatchComplete (t : Instant) (s : State) : Result :=
  run t (fun s =>
    match s.active with
    | none => s
    | some c =>
      match (s.ctl c).latchAt with
      | none => s
      | some T => when (T + (2 * msec : Nat) ≤ s.utime c) (fun s =>
          s.modCtl c fun x => { x with latchAt := none, latched := some T }) s) s

/-- ENERGY_SAVE (R356): every 1 s the accumulators are written to MRAM. -/
def execEnergySave (t : Instant) (k : Slot) (s : State) : Result :=
  run t (fun s =>
    when (s.cart k).powered (fun s =>
      overList (chansOf k) (fun c s => s.modMeas c fun m => { m with energySaved := m.energy }) s) s) s

/-! Visits. -/

/-- A visit is not possible on this channel now (R364). -/
def State.visitBarred (s : State) (c : Ch) : Bool :=
  let k := s.cart (slotOf c)
  (s.chan c).ctrl.source = .open || k.frozen || k.band ≠ .normal

/-- The time of the cartridge's 10 s cycle less the running clock (R363, R379, R381, R727): unit time from the first 10 s boundary after the claim or a step, and the
cycle as it last ran before it. -/
def State.cycleOff (s : State) (k : Slot) : Int :=
  let x := s.cart k
  let begun : Bool := decide (((max x.claimAt x.stepAt : Nat) + x.timeOff) / (10 * sec : Nat) < s.cartTime k / (10 * sec : Nat))
  if x.holder.isSome ∧ begun then x.timeOff else x.grid

/-- VISIT_START (R363): at its place in the 10 s cycle, within 1 ms of it (DESIGN CHOICE, log entry 68), a visit of 2.0 s begins, or is skipped. -/
def execVisitStart (t : Instant) (k : Slot) (p : Fin 4) (s : State) : Result :=
  run t (fun s =>
    let off := s.cycleOff k
    let into : Int := ((s.now : Int) + off) % (10 * sec : Nat) - (p.val * (2500 * msec) : Nat)
    when ((s.cart k).powered && (s.cart k).visit.isNone && decide (0 ≤ into) && decide (into < (msec : Nat)) && !s.visitBarred (chOf k p))
      (fun s =>
        let s := s.modMeas (chOf k p) fun m =>
          { m with p1 := { m.p1 with half1 := {}, half2 := {} }, p2 := { m.p2 with half1 := {}, half2 := {} } }
        s.modCart k fun x => { x with
          visit := some p.val, visitPos := p.val, visitAt := s.now, visitStop := s.now + 2 * sec, grid := off }) s) s

/-- A path's visit that was not accepted (R364). -/
def Path.reject (p : Path) : Path := { p with visitOk := false, rejected := satBump 8 p.rejected, rejRow := p.rejRow + 1 }

/-- The halves agree within 0.02 % (R361). -/
def halvesAgree (a z : Int) : Bool := (a - z).natAbs * 5000 ≤ max a.natAbs z.natAbs && decide (0 < a + z)

/-- The proof amplitude that a half has demodulated, nA: a sample holds minus half of it times the mean of the reference, and the load (R361). -/
def Demod.amplitude (d : Demod) : Int := if d.sqr = 0 then 0 else 2 * d.prod * 150000000 / d.sqr

/-- A path's visit result: the gain in ppm, the demodulated amplitude over 100 mA, with its bin (R361, R372). -/
def Path.visited (p : Path) (temp : DeciDeg) (now : Instant) (discard : Bool) : Path :=
  let a := p.half1.amplitude
  let z := p.half2.amplitude
  if halvesAgree a z ∧ ¬discard then
    let g := (a + z) / 2 / 100
    { p with gain := g, visitAt := some now, visitOk := true, rejRow := 0, bins := putBin p.bins (binOf temp) g, visitBin := binOf temp }
  else p.reject

/-- The path that a rule of R370 excludes: none, 1 or 2. -/
def State.excludes (s : State) (c : Ch) : Option Nat :=
  let x := s.chan c
  let a := x.meas.p1
  let z := x.meas.p2
  let one := fun (bad1 bad2 : Bool) => if bad1 && !bad2 then some 1 else if bad2 && !bad1 then some 2 else none
  (one (decide (a.refRounds < 10)) (decide (z.refRounds < 10))).orElse fun _ =>
  (one (!a.visitOk) (!z.visitOk)).orElse fun _ =>
  if x.stage.output = .off ∧ ¬x.stage.ser then one (decide (a.mean1s.natAbs > 2000)) (decide (z.mean1s.natAbs > 2000)) else none

/-- The exclusion of a path by the ACTIVE controller while the crazing flag is set, logged as CRAZING with the path as its new value (R370,
R371). -/
def State.exclude (s : State) (c : Ch) : State :=
  let m := (s.chan c).meas
  if m.crazing ∧ m.p1.used ∧ m.p2.used ∧ s.active.isSome then
    match s.excludes c with
    | none => s
    | some n =>
      let s := s.modMeas c fun m =>
        if n = 1 then { m with p1 := { m.p1 with excluded := true } } else { m with p2 := { m.p2 with excluded := true } }
      s.chanEvent c 0x0601 0 n m.disagreement
  else s

/-- VISIT_STARVED after 30 rejections in a row of a path, until a visit is accepted (R380). -/
def State.starve (s : State) (c : Ch) : State :=
  let m := (s.chan c).meas
  let now : Bool := decide (30 ≤ m.p1.rejRow) || decide (30 ≤ m.p2.rejRow)
  (s.modMeas c fun m => { m with starved := now }).chanFlag c 0x0606 m.starved now

/-- VISIT_END (R361). -/
def execVisitEnd (t : Instant) (k : Slot) (s : State) : Result :=
  run t (fun s =>
    match (s.cart k).visit with
    | none => s
    | some n =>
      when (decide ((s.cart k).visitStop ≤ s.now)) (fun s =>
        let c := chOf k ⟨n % 4, Nat.mod_lt _ (by decide)⟩
        let x := s.cart k
        let s := s.modMeas c fun m =>
          { m with p1 := m.p1.visited x.tMeas s.now x.proofBad, p2 := m.p2.visited x.tMeas s.now x.proofBad }
        let s := s.modCart k fun x => { x with visit := none }
        (s.starve c).exclude c) s) s

/-- A running visit abandoned (R364). -/
def State.abandonVisit (s : State) (k : Slot) : State :=
  match (s.cart k).visit with
  | none => s
  | some n =>
    let c := chOf k ⟨n % 4, Nat.mod_lt _ (by decide)⟩
    let s := s.modMeas c fun m => { m with p1 := m.p1.reject, p2 := m.p2.reject }
    (s.modCart k fun x => { x with visit := none, visitStop := min x.visitStop s.now }).starve c

/-- VISIT_ABANDONED (R364). -/
def execVisitAbandoned (t : Instant) (k : Slot) (sat : Bool) (s : State) : Result :=
  run t (fun s =>
    match (s.cart k).visit with
    | none => s
    | some n => when (sat || s.visitBarred (chOf k ⟨n % 4, Nat.mod_lt _ (by decide)⟩)) (fun s => s.abandonVisit k) s) s

/-- OFFSET_LEARN (R366): after 100 ms OFF with the series switch open, the mean of the next 100 ms is the external offset. -/
def execOffsetLearn (t : Instant) (c : Ch) (s : State) : Result :=
  run t (fun s =>
    let g := (s.chan c).stage
    let o := (s.chan c).meas.offSum
    when ((s.cart (slotOf c)).powered && g.output = .off && !g.ser && decide (g.offAt + 200 * msec ≤ s.now) && o.off = g.offAt && o.n ≠ 0) (fun s =>
      s.modMeas c fun m =>
        { m with p1 := { m.p1 with offset := meanOf o.s1 o.n }, p2 := { m.p2 with offset := meanOf o.s2 o.n } }) s) s

/-! Comparison of the paths. -/

/-- The paths disagree: beyond 0.2 % of the larger magnitude plus 2 mA (R369). -/
def disagrees (a z : Int) : Bool := (a - z).natAbs > max a.natAbs z.natAbs / 500 + 2000

/-- The paths agree within 0.1 % plus 1 mA (R371). -/
def agrees (a z : Int) : Bool := (a - z).natAbs ≤ max a.natAbs z.natAbs / 1000 + 1000

/-- The samples of the sliding second (R369). -/
def Meas.window (m : Meas) : Bucket :=
  m.slide.foldl (fun a b => { n1 := a.n1 + b.n1, s1 := a.s1 + b.s1, n2 := a.n2 + b.n2, s2 := a.s2 + b.s2 }) {}

/-- PATH_COMPARISON (R369): the controllers compare the sliding means; the tenth disagreement in a row sets the crazing flag. A second without a sample of
each path is no evaluation. -/
def execPathComparison (t : Instant) (c : Ch) (s : State) : Result :=
  run t (fun s =>
    let w := (s.chan c).meas.window
    when ((s.cart (slotOf c)).powered && ((s.ctl .a).running || (s.ctl .b).running) && w.n1 ≠ 0 && w.n2 ≠ 0) (fun s =>
      let m := (s.chan c).meas
      let a := meanOf w.s1 w.n1
      let z := meanOf w.s2 w.n2
      let bad := disagrees a z
      let n := if bad then m.disagree + 1 else 0
      let s := s.modMeas c fun m =>
        { m with p1 := { m.p1 with mean1s := a }, p2 := { m.p2 with mean1s := z }
                 disagree := n
                 agreeSince := s.track (agrees a z && !m.p1.refBad && !m.p2.refBad) m.agreeSince }
      if n ≥ 10 ∧ ¬m.crazing ∧ m.p1.used ∧ m.p2.used then
        let s := s.modMeas c fun m => { m with crazing := true }
        (s.chanAlarm c 0x0601 true 0 1 (a - z).natAbs (max a.natAbs z.natAbs / 500 + 2000)).exclude c
      else s) s) s

/-- Both paths have had an accepted visit since an instant (R371). -/
def Meas.visitedSince (m : Meas) (t : Instant) : Bool :=
  match m.p1.visitAt, m.p2.visitAt with
  | some a, some z => t ≤ a && t ≤ z
  | _, _ => false

/-- The PATH_FAIL of one path raised or cleared (R1000): each path has its own record, with the path in the measured value, and the
alarm of the channel stands while either path has failed. -/
def State.pathAlarm (s : State) (c : Ch) (path : Nat) (on : Bool) : State :=
  let m := (s.chan c).meas
  let any := m.p1.failed || m.p2.failed
  match s.writer s.lead with
  | none => s
  | some w =>
    let r := s.record s.lead 0x0603 (if on then 2 else 4) (c.val / 4 + 1) (numOf c) (stdBody (b2n !on) (b2n on) path 0 0 (s.serialOf c))
    (s.modCtl w fun x => x.setAlarm 0x0603 (numOf c) any (s.utime w)).logAt w r

/-- CRAZING_CLEAR (R371): after 60 s both paths return to use. -/
def execCrazingClear (t : Instant) (c : Ch) (s : State) : Result :=
  run t (fun s =>
    let m := (s.chan c).meas
    let ok := match m.agreeSince with
      | some a => decide (a + 60 * sec ≤ s.now) && m.visitedSince a
      | none => false
    when (ok && !(m.p1.failed && m.p2.failed)) (fun s =>
      let s := s.modMeas c fun m =>
        { m with crazing := false, disagree := 0, p1 := { m.p1 with excluded := false, failed := false }
                 p2 := { m.p2 with excluded := false, failed := false } }
      let s := if m.p1.failed then s.pathAlarm c 1 false else s
      let s := if m.p2.failed then s.pathAlarm c 2 false else s
      if m.crazing then s.chanAlarm c 0x0601 false 1 0 m.disagreement else s) s) s

/-- PATH_FAIL (R380, R1000): a path dead, stuck or saturated is excluded while the other reads below 90 A or has failed too; a
failed path returns alone after 1 s when both have failed. -/
def execPathFail (t : Instant) (c : Ch) (path2 bad : Bool) (s : State) : Result :=
  run t (fun s =>
    when (s.cart (slotOf c)).powered (fun s =>
      let m := (s.chan c).meas
      let me := if path2 then m.p2 else m.p1
      let peer := if path2 then m.p1 else m.p2
      let other : Int := ((if path2 then m.i1 else m.i2).getD 0)
      let put := fun (s : State) (f : Path → Path) =>
        s.modMeas c fun m => if path2 then { m with p2 := f m.p2 } else { m with p1 := f m.p1 }
      let n := if path2 then 2 else 1
      if bad then
        if me.failed then put s fun p => { p with aliveSince := none }
        else if peer.failed ∨ other.natAbs < 90000000 then
          let s := (put s fun p => { p with failed := true, aliveSince := none }).pathAlarm c n true
          if peer.failed then (s.modMeas c fun m => { m with lost := true }).chanAlarm c 0x0604 true 0 1 else s
        else s
      else if me.failed ∧ peer.failed then
        let since := me.aliveSince.getD s.now
        if since + sec ≤ s.now then
          let s := (put s fun p => { p with failed := false, excluded := false, aliveSince := none }).pathAlarm c n false
          (s.modMeas c fun m => { m with lost := false }).chanAlarm c 0x0604 false 1 0
        else put s fun p => { p with aliveSince := some since }
      else s) s) s

/-- VOLTAGE_CALIBRATION (R375): an input's gain from the 10.000 V level, in ppm; the sample it takes repeats the previous one. -/
def execVoltageCalibration (t : Instant) (k : Slot) (input : Fin 9) (uv : Int) (s : State) : Result :=
  run t (fun s =>
    when ((s.cart k).powered && decide (0 < uv)) (fun s =>
      s.modCart k fun x => { x with vGain := setV x.vGain input (uv / 10), calAt := setV x.calAt input (some s.now) }) s) s

/-! Triggers and blanking windows. -/

/-- The tick of the running period at an instant (R287): 0 until the first boundary after the enable. -/
def Gen.tickAt (g : Gen) (t : Instant) : Nat := if g.begun then (quarters t - g.perAt) / ticks 1 else 0

/-- The counter at an instant (R287, R289): up through the period with ALIGN EDGE, up to its half and down again with ALIGN CENTRE. -/
def Gen.counterAt (g : Gen) (t : Instant) : Nat :=
  if g.act.centre ∧ g.runPer < 2 * g.tickAt t then g.runPer - g.tickAt t else g.tickAt t

/-- The trigger is enabled and fires at an instant (R317, R318): its position has come in its direction, and it has not yet fired in the period. -/
def Gen.fires (g : Gen) (trgB : Bool) (t : Instant) : Bool :=
  let w := if trgB then g.act.trgb else g.act.trga
  let pos := bits w 0 24
  let down := decide (g.runPer < 2 * g.tickAt t)
  let dir := !g.act.centre || pos = 0 || 2 * pos = g.runPer || down = bit w 30
  g.begun && bit w 31 && !(if trgB then g.firedB else g.firedA) && g.counterAt t = pos && dir && decide (quarters t < g.boundAt)

/-- TRIGGER_FIRE (R318, R319, R354, R362): both paths are sampled, and the pair is kept with its frame slot. -/
def execTriggerFire (t : Instant) (c : Ch) (trgB : Bool) (u1 u2 : Int) (s : State) : Result :=
  run t (fun s =>
    let k := s.cart (slotOf c)
    when ((s.chan c).gen.fires trgB s.now && !k.frozen) (fun s =>
      let m := (s.chan c).meas
      let on := if k.proofOn s.now ∧ k.visitPos = (posOf c).val then 150000 else 0
      let a := m.p1.sample k.tMeas u1 false false on
      let z := m.p2.sample k.tMeas u2 false false on
      let time := s.cartTime (slotOf c) / (10 * usec : Nat) * (10 * usec : Nat)
      let bl := s.blanked c 0
      s.modGen c fun g =>
        if trgB then { g with firedB := true, trgB1 := a, trgB2 := z, trgBTime := time, trgBBlank := bl,
                              trgBSum := g.trgBSum + (a + z) / 2, trgBCnt := g.trgBCnt + 1 }
        else { g with firedA := true, trgA1 := a, trgA2 := z, trgATime := time, trgABlank := bl,
                      trgASum := g.trgASum + (a + z) / 2, trgACnt := g.trgACnt + 1 }) s) s

/-- BLANK_WINDOW_START (R322): an enabled timer starts at an event of its source channel, or restarts at its full length while its window runs. The
20 µs of R323 count from the window's first start: DESIGN CHOICE, log entry 64. -/
def execBlankWindowStart (t : Instant) (k : Slot) (n : Fin 4) (src event : Fin 4) (s : State) : Result :=
  run t (fun s =>
    let x := (s.cart k).at_[n]
    when ((s.cart k).powered && !(s.cart k).frozen && bit x.sel 31 && bits x.sel 0 2 = src.val && bits x.sel 2 2 = event.val) (fun s =>
      s.modCart k fun y => { y with at_ := modV y.at_ n fun a =>
        let a := if a.until_.any (fun e => s.now < e) then a else { a.close s.now with since := s.now }
        { a with until_ := some (s.now + bits a.sel 16 11 * 100) } }) s) s

/-- BLANK_WINDOW_END (R323): the window expires. -/
def execBlankWindowEnd (t : Instant) (k : Slot) (n : Fin 4) (s : State) : Result :=
  run t (fun s =>
    match ((s.cart k).at_[n]).until_ with
    | some e => when (decide (e ≤ s.now)) (fun s => s.modCart k fun y => { y with at_ := modV y.at_ n fun a => a.close s.now }) s
    | none => s) s

end Sys2Proof.Machine
end

