-- ==== Sys2Proof/Machine/StageEvents.lean ====
section
/-!
DEFINITION. Machine/StageEvents.lean: the events of the channel stage (chapter 05): turning on with a profile's START, turning off, the
off-state and on-state load checks, REVERSE, the ends of START and HEATER_DRIFT.
-/
namespace Sys2Proof.Machine

/-- Milliseconds as ns. -/
def ms (n : Nat) : Nat := n * msec

/-- A percentage of the period as a duty. -/
def pctDuty (n : Nat) : Nat := n * (dutyOne / 100)

/-- The START parameters as they stand at a START: INRUSH_LIM, INRUSH_T, LAMP_RAMP, MOT_START_DUTY, MOT_RAMP, PRE_I, PRE_T, HIT_T (R230). -/
def State.startPar (s : State) (c : Ch) : List Nat := (List.range 8).map fun i => s.chItem c (0x0106 + i)

/-- A START parameter in force. -/
def Stage.p (g : Stage) (i : Nat) : Nat := g.par.getD i 0

/-- The profile ramp with which START begins at `t` toward a duty (R228, R229): none where the profile runs none. -/
def Stage.startRamp (g : Stage) (t : Instant) (target : Nat) : Option Ramp :=
  if g.profile = 1 ∧ g.p 2 ≠ 0 then some { start := t, stop := t + ms (g.p 2), duty0 := 0, duty1 := target }
  else if g.profile = 2 ∧ pctDuty (g.p 3) < target then
    let d0 := pctDuty (g.p 3)
    some { start := t, stop := t + ms (g.p 4) * (target - d0) / (dutyOne - d0), duty0 := d0, duty1 := target }
  else none

/-- The cause of a turn-on: that of the level, or of the source where a profile phase came last (R224). -/
def Ctrl.onCause (x : Ctrl) : Nat :=
  if x.why = 0x0F then match x.source with
    | .host => 1
    | .limp => 2
    | .glaze => 3
    | .open => 4
  else x.why

/-- START begins at the 20 µs step of R207, with its profile's parameters: the output is ON, or PWM where the level or a ramp runs the
generator (R226, R228, R301), afresh also where a reverse-current event has left it enabled (R305, R338). A handover ramp that R849 keeps through UVLO or OV_OFF runs in place of the profile's own, and chops whatever the
profile: DESIGN CHOICE, log entry 59. -/
def Chan.startOn (x : Chan) (now : Instant) (profile : Nat) (par : List Nat) : Chan :=
  let t := now + 20 * usec
  let g : Stage := { x.stage with
    profile := profile, par := par, phase := .start, startAt := t, onAt := t, ser := true, fw := false, preMj := 0, toFw := false, offDue := false
    cause := x.ctrl.onCause, olSince := none, driftSince := none }
  let gated := x.ctrl.level = .on || x.ctrl.pwm.en
  let ramp := if x.ctrl.hand = .ramp then x.ctrl.ramp
    else if gated then g.startRamp t (dutyOf x.ctrl.level x.ctrl.pwm) else none
  let chop := ramp.isSome || (x.ctrl.level = .pwm && x.ctrl.pwm.en && !g.fullStart)
  { x with
    stage := { g with output := if chop then .pwm else .on, fwd := !chop }
    ctrl := { x.ctrl with ramp := ramp }
    gen := if chop ∧ (¬x.gen.enabled ∨ x.stage.cause = 0x0A) then { x.gen.start x.ctrl.pwm t with fwGate := false } else x.gen }

/-- A join enters the partner's output and phase directly, and under PWM its generator is enabled at the partner's next boundary (R301, R413). -/
def Chan.joinOn (x y : Chan) (now : Instant) : Chan :=
  let chop : Bool := y.stage.output = .pwm
  { x with
    stage := { x.stage with
      profile := y.stage.profile, par := y.stage.par, phase := y.stage.phase, startAt := y.stage.startAt, onAt := now, offDue := false, ser := true
      fw := false, fwd := !chop, toFw := false, output := y.stage.output, cause := x.ctrl.onCause }
    ctrl := { x.ctrl with noStart := false, ramp := y.ctrl.ramp.filter fun r => !r.hand }
    prot := { x.prot with cleanSince := some now }
    gen := if chop then { x.gen.startAt x.ctrl.pwm y.gen.boundAt with fwGate := false } else x.gen }

/-- The phase is RUN or HOLD. -/
def Stage.running (g : Stage) : Bool := g.output.conducts && (g.phase = .run || g.phase = .hold)

/-- The way a half takes when it may conduct again (R413): with a claimed partner in RUN or HOLD it joins without START, with one in START it
waits. -/
def State.joinCheck (s : State) (c : Ch) : State :=
  let y := s.chan (partner c)
  let twin : Bool := (s.chan c).ctrl.twinned && (s.cart (slotOf (partner c))).holder.isSome && (s.cart (slotOf (partner c))).seated
  s.modCtrl c fun x => { x with
    noStart := twin && y.stage.running
    joinWait := twin && y.stage.output.conducts && y.stage.phase = .start }

/-- TURN_ON (R207, R208, R256): `mid` is the MID comparator at the 1.5 µs step, `serOk` the series gate monitor by 18 µs. -/
def execTurnOn (t : Instant) (c : Ch) (mid serOk : Bool) (s : State) : Result :=
  run t (fun s =>
    let x := s.chan c
    when (s.mayTurnOn c && x.ctrl.wantsOn && !x.stage.output.conducts && x.ctrl.source ≠ .open) (fun s =>
      if mid ∧ ¬x.prot.gateMon ∧ ¬s.blanked c 2 then s.trip c 0x14
      else if ¬serOk then (s.modStage c fun g => g.toOff s.now).trip c 0x0D
      else
        let s := if x.ctrl.noStart then s.joinCheck c else s
        let x := s.chan c
        if x.ctrl.joinWait then s
        else
          let z := if x.ctrl.noStart then x.joinOn (s.chan (partner c)) s.now else x.startOn s.now (s.chItem c 0x0101) (s.startPar c)
          let s := if x.ctrl.noStart then s.modTwin (pairOf c) fun w => { w with joinAt := some s.now } else s
          (s.setChan c z).chanFlag c 0x020A x.gen.fwGate z.gen.fwGate) s) s

/-- TURN_OFF (R210, R998): the forward switch turns off at its step, also where a level ON or PWM has come since t = 0; such a level then stops the
decay (R237). -/
def execTurnOff (t : Instant) (c : Ch) (s : State) : Result :=
  run t (fun s =>
    let x := s.chan c
    when (x.stage.output.conducts && (x.wantsOff || x.stage.offDue) && (!(s.cart (slotOf c)).frozen || x.ctrl.source = .glaze) &&
        x.ctrl.source ≠ .open)
      (fun s => s.turnOff c x.ctrl.level x.ctrl.why) s) s

/-- The load current of a decay has fallen below 50 mA: the freewheel switch turns off unless the decay ends in FREEWHEEL, and the
series switch opens (R210, R401, R998). -/
def Stage.decayed (g : Stage) (now : Instant) : Stage :=
  if g.toFw then { g with output := .freewheel, ser := false, toFw := false } else g.toOff now

/-- DECAY_CURRENT_LOW (R210). -/
def execDecayCurrentLow (t : Instant) (c : Ch) (ma : MilliAmp) (s : State) : Result :=
  run t (fun s =>
    let g := (s.chan c).stage
    when (g.output = .decay && decide (ma.natAbs < 50)) (fun s =>
      if (s.cart (slotOf c)).frozen then s.modStage c fun g => { g with fw := g.toFw }
      else s.modStage c (·.decayed s.now)) s) s

/-- DECAY_CAP (R210): 20 ms after a SLOW decay began, the freewheel switch turns off and the rest goes into the clamp. -/
def execDecayCap (t : Instant) (c : Ch) (ma : MilliAmp) (s : State) : Result :=
  run t (fun s =>
    let g := (s.chan c).stage
    when (g.output = .decay && g.slow && !g.toFw && decide (g.decayAt + 20 * msec ≤ s.now) && decide (50 ≤ ma.natAbs))
      (fun s => s.modStage c fun g => { g with fw := false, slow := false }) s) s

/-! Load checks. -/

/-- One off-state test (R217, R218): `mv0` is OUT with the source off, `mv1` at the end of its 1 ms. -/
def Stage.offTest (g : Stage) (mv0 mv1 : MilliVolt) : Stage :=
  if mv0 ≥ 3000 then { g with extV := true, extClean := 0 }
  else
    let g := { g with extClean := g.extClean + 1, extV := g.extV && g.extClean + 1 < 2 }
    if mv1 ≥ 4000 then { g with olOff := true, olClean := 0 }
    else { g with olClean := g.olClean + 1, olOff := g.olOff && g.olClean + 1 < 2 }

/-- The test run on a channel, with its alarms; the next follows 1 s later. -/
def State.offTest (s : State) (c : Ch) (mv0 mv1 : MilliVolt) : State :=
  let g := (s.chan c).stage
  let h := g.offTest mv0 mv1
  let s := s.modStage c fun _ => { h with testAt := s.now + sec }
  let s := s.chanFlag c 0x0204 (g.olOff || g.olOn) (h.olOff || h.olOn) mv1 4000
  s.chanFlag c 0x0205 g.extV h.extV mv0 3000

/-- The off-state test may run: output OFF, OL_OFF ENABLED, the cartridge powered (R217). -/
def State.offTestable (s : State) (c : Ch) : Bool :=
  (s.chan c).stage.output = .off && s.chItem c 0x0104 = 1 && (s.cart (slotOf c)).powered && !(s.cart (slotOf c)).frozen

/-- OFF_STATE_TEST (R216, R217). -/
def execOffStateTest (t : Instant) (c : Ch) (mv0 mv1 : MilliVolt) (s : State) : Result :=
  run t (fun s => when (s.offTestable c && decide ((s.chan c).stage.testAt ≤ s.now)) (fun s => s.offTest c mv0 mv1) s) s

/-- OLTEST_NOW (R655): the test at once; for any other channel nothing. -/
def execOltestNow (t : Instant) (c : Ch) (mv0 mv1 : MilliVolt) (s : State) : Result :=
  run t (fun s => when (s.offTestable c) (fun s => s.offTest c mv0 mv1) s) s

/-- A threshold of a half: the pair's value times its LIMIT_SHARE (R390), which is 1.0 outside a twin. -/
def State.shared (s : State) (c : Ch) (n : Nat) : Nat :=
  if (s.chan c).ctrl.twinned then n * (s.chan c).set.share / 2 else n

/-- ON_STATE_OPEN_LOAD (R219): the 100 ms average below OL_ON_I for 1 s sets OPEN_LOAD, above it for 1 s clears it. -/
def execOnStateOpenLoad (t : Instant) (c : Ch) (s : State) : Result :=
  run t (fun s =>
    let ma : MilliAmp := ((s.chan c).meas.avg100ms.current.getD 0) / 1000
    let g := (s.chan c).stage
    let thr : Int := s.shared c (s.chItem c 0x0105 * 10)
    when (g.running && thr ≠ 0 && !(s.cart (slotOf c)).frozen) (fun s =>
      let (on, since) := hysteresis s.now g.olOn g.olSince (decide (ma < thr)) (decide (thr < ma)) sec sec
      let s := s.modStage c fun g => { g with olOn := on, olSince := since }
      s.chanFlag c 0x0204 (g.olOff || g.olOn) (g.olOff || on) ma thr) s) s

/-- HEATER_DRIFT (R229): the element's resistance, from the 1 s averages of bus voltage and current, outside HEAT_R_NOM ± HEAT_R_TOL. -/
def execHeaterDrift (t : Instant) (c : Ch) (mv : MilliVolt) (s : State) : Result :=
  run t (fun s =>
    let ma : MilliAmp := ((s.chan c).meas.avg1s.current.getD 0) / 1000
    let x := s.chan c
    let nom : Int := s.chItem c 0x0110
    let tol : Int := s.chItem c 0x0111
    let full : Bool := x.stage.output = .on || dutyOf .pwm x.gen.act = dutyOne
    when (x.stage.profile = 5 && x.stage.phase = .run && nom ≠ 0 && full && !(s.cart (slotOf c)).frozen) (fun s =>
      let out : Bool := decide (mv * 10000 > nom * (100 + tol) * ma) || decide (mv * 10000 < nom * (100 - tol) * ma)
      let (on, since) := debounce s.now x.stage.drift x.stage.driftSince out (10 * sec) (10 * sec)
      let s := s.modStage c fun g => { g with drift := on, driftSince := since }
      s.chanFlag c 0x0207 x.stage.drift on (if ma = 0 then 0 else mv * 100 / ma) nom) s) s

/-! Reverse current. -/

/-- REVERSE (R214, R215, R237, R305): the forward and series switches off at once and held for 100 ms, but where a trip fell within the same
2 µs; the generator goes on without governing. -/
def execReverse (t : Instant) (c : Ch) (ma : MilliAmp) (s : State) : Result :=
  run t (fun s =>
    let x := s.chan c
    when (x.stage.ser && decide (ma < -2000) && (s.cart (slotOf c)).powered && !(s.cart (slotOf c)).frozen) (fun s =>
      let tripped : Bool := x.prot.trip ≠ .none && s.now ≤ x.prot.tripAt + 2 * usec
      let s := s.setChan c { x.cut s.now .off (if tripped then x.stage.cause else 0x0A) with gen := { x.gen with governs := false } }
      let s := s.modStage c fun g =>
        { g with reverse := true, revAt := s.now, revUntil := if tripped then none else some (s.now + 100 * msec) }
      s.chanFlag c 0x0206 x.stage.reverse true ma (-2000)) s) s

/-- REVERSE_HOLD_END (R215): the channel may turn on afresh, and takes FREEWHEEL where that is its level. -/
def execReverseHoldEnd (t : Instant) (c : Ch) (s : State) : Result :=
  run t (fun s =>
    match (s.chan c).stage.revUntil with
    | some e => when (decide (e ≤ s.now)) (fun s => (s.modStage c fun g => { g with revUntil := none }).settle c) s
    | none => s) s

/-- REVERSE_FLAG_CLEAR (R215): the channel has run for 10 s with no further event: its output has been ON or PWM for that long. -/
def execReverseFlagClear (t : Instant) (c : Ch) (s : State) : Result :=
  run t (fun s =>
    let g := (s.chan c).stage
    when (g.reverse && g.output.conducts && decide (max g.revAt g.onAt + 10 * sec ≤ s.now)) (fun s =>
      (s.modStage c fun g => { g with reverse := false }).chanFlag c 0x0206 true false) s) s

/-! The ends of START. -/

/-- The end of START by its profile (R229), with `mv` the voltage it watches: SW for RESISTIVE and HEATER, OUT for CAPACITIVE. -/
def State.startOver (s : State) (c : Ch) (mv : MilliVolt) : Bool :=
  let g := (s.chan c).stage
  let bus := (s.cart (slotOf c)).busMv
  match g.profile with
  | 1 => g.startAt + ms (g.p 1) ≤ s.now
  | 2 => g.startAt + ms (g.p 1) ≤ s.now
  | 3 => bus * 9 ≤ mv * 10
  | 4 => g.startAt + ms (g.p 7) ≤ s.now
  | _ => bus - 500 ≤ mv

/-- RUN, or HOLD for a SOLENOID at level ON, follows START: a regulation that goes on counts as LIMITING from here (R247), and the
generator of a phase that chops is enabled (R301). -/
def Chan.endStart (x : Chan) (now : Instant) : Chan :=
  let hold := x.stage.profile = 4 && x.ctrl.level = .on
  let full := x.stage.fullStart
  let y := { x with
    stage := { x.stage with phase := if hold then .hold else .run }
    prot := { x.prot with cleanSince := some now, limiting := x.prot.reg, regAt := if x.prot.reg then now else x.prot.regAt }
    ctrl := { x.ctrl with why := if hold || (full && x.ctrl.level = .pwm) then 0x0F else x.ctrl.why, ramp := x.ctrl.ramp.filter (·.hand) } }
  if (hold ∨ (full ∧ x.ctrl.level = .pwm ∧ x.ctrl.pwm.en)) ∧ ¬y.gen.enabled then
    { y with gen := { y.gen.start y.ctrl.pwm now with fwGate := false } }
  else y

/-- START_END (R229). -/
def execStartEnd (t : Instant) (c : Ch) (mv : MilliVolt) (s : State) : Result :=
  run t (fun s =>
    let x := s.chan c
    when (x.stage.phase = .start && x.stage.output.conducts && !x.stage.offDue && s.startOver c mv && !(s.cart (slotOf c)).frozen)
      (fun s => s.setChan c (x.endStart s.now)) s) s

/-- PRECHARGE_TIMEOUT (R229). -/
def execPrechargeTimeout (t : Instant) (c : Ch) (mv : MilliVolt) (s : State) : Result :=
  run t (fun s =>
    let g := (s.chan c).stage
    when (g.profile = 3 && g.phase = .start && g.output.conducts && decide (g.startAt + ms (g.p 6) ≤ s.now) && !s.startOver c mv &&
        !(s.cart (slotOf c)).frozen)
      (fun s => s.trip c 0x0B) s) s

/-- PRECHARGE_ENERGY (R229): the dissipation of a precharge, and the trip above 5 J. -/
def execPrechargeEnergy (t : Instant) (c : Ch) (mj : Nat) (s : State) : Result :=
  run t (fun s =>
    let g := (s.chan c).stage
    when (g.profile = 3 && g.phase = .start && g.output.conducts && !(s.cart (slotOf c)).frozen) (fun s =>
      let s := s.modStage c fun g => { g with preMj := mj }
      if mj > 5000 then s.trip c 0x0C else s) s) s

end Sys2Proof.Machine
end

