-- ==== Sys2Proof/Machine/Protect.lean ====
section
/-!
DEFINITION. Machine/Protect.lean: the protections of a channel and its retry strategy (chapter 06): hard-short, regulation and its limit
time, the wire model, stuck-on and stuck-off, and retry attempts.
-/
namespace Sys2Proof.Machine

/-- One update of the wire model over 1 ms (R253): current in mA, WIRE_I_NOM in 0.1 A, WIRE_TAU in s. -/
def wireStep (x : Nat) (ma : MilliAmp) (inom tau : Nat) : Nat :=
  let k : Nat := ma.natAbs * ma.natAbs * xOne / (inom * 100 * (inom * 100))
  ((x : Int) + ((k : Int) - x) / ((tau * 1000 : Nat) : Int)).toNat

/-- HARD_SHORT (R249 to R252): either comparator crosses 90 A; nothing blanks it. Every comparator of R286 stands at its typical value: DESIGN CHOICE,
log entry 63. -/
def execHardShort (t : Instant) (c : Ch) (shunt mirror : MilliAmp) (s : State) : Result :=
  run t (fun s =>
    when ((s.cart (slotOf c)).powered && (decide (shunt ≥ 90000) || decide (mirror ≥ 90000))) (fun s => s.trip c 0x10) s) s

/-! Regulation. -/

/-- The regulated limit in force, mA (R227, R245, R390). -/
def State.limitMa (s : State) (c : Ch) : Nat :=
  let g := (s.chan c).stage
  let n := if g.phase = .start then
      match g.profile with
      | 1 => g.p 0
      | 2 => g.p 0
      | 3 => g.p 5
      | _ => s.chItem c 0x0112
    else s.chItem c 0x0112
  s.shared c (n * 100)

/-- A LIM window holds engagement off, for at most 20 µs of it (R323). -/
def State.limHeld (s : State) (c : Ch) : Bool :=
  (s.cart (slotOf c)).at_.toList.any fun a => match a.until_ with
    | some e => consumes a.sel (posOf c) 1 && decide (s.now < e) && decide (s.now < a.since + 20 * usec)
    | none => false

/-- The firing engine of a channel's cartridge runs. -/
def State.engine (s : State) (c : Ch) : Bool := (s.cart (slotOf c)).powered && !(s.cart (slotOf c)).frozen

/-- REGULATION_ENGAGE (R246, R247): outside START the channel is LIMITING from here. -/
def execRegulationEngage (t : Instant) (c : Ch) (ma : MilliAmp) (s : State) : Result :=
  run t (fun s =>
    let x := s.chan c
    when (s.engine c && x.stage.output.conducts && !x.prot.reg && decide ((s.limitMa c : Int) ≤ ma) && !s.limHeld c) (fun s =>
      s.modProt c fun p => { p with reg := true, limiting := x.stage.phase ≠ .start, regAt := s.now }) s) s

/-- REGULATION_END (R247): `enhanced` is the time in ns for which the switch has been fully enhanced with the current at `ma`, and
`period` says that a whole PWM period has passed without regulation. -/
def execRegulationEnd (t : Instant) (c : Ch) (ma : MilliAmp) (enhanced : Nat) (period : Bool) (s : State) : Result :=
  run t (fun s =>
    let x := s.chan c
    let lim : Int := s.shared c (s.chItem c 0x0112 * 100)
    when (s.engine c && x.prot.reg && decide (100 * usec ≤ enhanced) && decide (ma * 100 ≤ lim * 95) &&
        (x.stage.output ≠ .pwm || period))
      (fun s => s.modProt c (·.endReg s.now)) s) s

/-- What the limit timer has counted (R248). -/
def Prot.limited (p : Prot) (now : Instant) : Nat := p.limTimer + if p.limiting then now - p.regAt else 0

/-- LIMIT_TIME (R248). -/
def execLimitTime (t : Instant) (c : Ch) (s : State) : Result :=
  run t (fun s =>
    let x := s.chan c
    when (s.engine c && x.prot.limiting && decide (ms (s.chItem c 0x0113) ≤ x.prot.limited s.now)) (fun s => s.trip c 0x11) s) s

/-- LIMIT_TIMER_RESET (R248): 100 ms without regulation. -/
def execLimitTimerReset (t : Instant) (c : Ch) (s : State) : Result :=
  run t (fun s =>
    let p := (s.chan c).prot
    when (s.engine c && !p.reg && decide (p.regEnd + 100 * msec ≤ s.now)) (fun s => s.modProt c fun p => { p with limTimer := 0 }) s) s

/-- The current that the wire model takes, mA (R376): the 1 ms average, or with no valid path the mean of the mirror over the on-intervals, and 0 with
the output OFF. -/
def Chan.wireMa (x : Chan) : MilliAmp :=
  match x.meas.avg1ms.current with
  | some i => i / 1000
  | none => if x.stage.output = .off then 0 else x.meas.mirror

/-- WIRE_I2T (R253, R254, R376). -/
def execWireI2t (t : Instant) (c : Ch) (s : State) : Result :=
  run t (fun s =>
    let x := s.chan c
    when (s.engine c) (fun s =>
      let y := wireStep x.prot.x x.wireMa (s.chItem c 0x0114) (s.chItem c 0x0115)
      let s := s.modProt c fun p => { p with x := y }
      if xOne ≤ y ∧ (x.prot.x < xOne ∨ x.stage.output.conducts) then s.trip c 0x12 else s) s) s

/-! Stuck switches. -/

/-- The forward-off interval of the running PWM, ns (R256); a period without on-time has no end of it. -/
def Gen.offNs (g : Gen) : Nat := if g.applied = 0 then sec else (g.runPer * 64 - g.applied) * 25 / 256

/-- The on-interval of the running PWM, ns (R259). -/
def Gen.onNs (g : Gen) : Nat := g.applied * 25 / 256

/-- The blank with which an evaluable interval begins (R255), ns: 2 µs, and V_bus / SLEW more for a turn-off under SLEW. -/
def State.midBlank (s : State) (c : Ch) : Nat :=
  2 * usec + if (s.chan c).stage.output = .decay then
      (s.cart (slotOf c)).busMv.toNat * 2 / max 1 (s.chItem c 0x0102)
    else 0

/-- The MID comparator declares stuck-on (R255, R256): asserted for `ns` after the blank, or at the end of `n` evaluable intervals in a row. `conf` is
for how long the gate monitor has confirmed the forward gate off, 0 while it does not. -/
def State.stuckOn (s : State) (c : Ch) (ns conf n : Nat) : Bool :=
  let x := s.chan c
  let held := min ns (conf - s.midBlank c)
  match x.stage.output with
  | .on => false
  | .decay => 100 * usec ≤ held
  | .pwm => if x.gen.offNs ≥ 102 * usec then !x.stage.fwd && decide (100 * usec ≤ held)
      else decide (2500 ≤ x.gen.offNs) && decide (8 ≤ n) && decide (2 * usec ≤ conf)
  | _ => 2 * msec ≤ held

/-- STUCK_ON (R255 to R258): it works in a debug halt too (R281), and is suspended by GATE_MON_FAULT and by a STUCK window. -/
def execStuckOn (t : Instant) (c : Ch) (ns conf intervals : Nat) (s : State) : Result :=
  run t (fun s =>
    let x := s.chan c
    when ((s.cart (slotOf c)).powered && !x.prot.gateMon && !s.blanked c 2 && s.stuckOn c ns conf intervals) (fun s => s.trip c 0x14) s) s

/-- DISCONNECT_FAILED (R282): the series switch does not confirm off within 20 µs of a stuck-on disconnect. -/
def execDisconnectFailed (t : Instant) (c : Ch) (ns : Nat) (s : State) : Result :=
  run t (fun s =>
    let p := (s.chan c).prot
    when ((s.cart (slotOf c)).powered && p.trip = .locked && p.tripCause = 0x14 && p.discFail = 0 && decide (20 * usec < ns)) (fun s =>
      (s.modProt c fun p => { p with discFail := 1 }).chanAlarm c 0x020C true 0 1 ns (20 * usec)) s) s

/-- STUCK_OFF (R259, R260): SW below half the bus with both switches on, for `ns` in ON or at the end of `intervals` on-intervals. -/
def execStuckOff (t : Instant) (c : Ch) (sw : MilliVolt) (ns : Nat) (intervals : Nat) (s : State) : Result :=
  run t (fun s =>
    let x := s.chan c
    let long : Bool := match x.stage.output with
      | .on => decide (2 * msec ≤ ns)
      | .pwm => decide (8 ≤ intervals) && decide (10 * usec ≤ x.gen.onNs)
      | _ => false
    when (s.engine c && x.stage.running && !x.prot.gateMon && !x.prot.limiting && !s.blanked c 2 && long &&
        decide (sw * 2 < (s.cart (slotOf c)).busMv))
      (fun s => s.trip c 0x15) s) s

/-- GATE_MON_FAULT (R282, R999): the forward gate monitor fails to follow a command within 2 µs. -/
def execGateMonFault (t : Instant) (c : Ch) (ns : Nat) (s : State) : Result :=
  run t (fun s =>
    when ((s.cart (slotOf c)).powered && !(s.chan c).prot.gateMon && decide (2 * usec < ns)) (fun s =>
      (s.modProt c fun p => { p with gateMon := true }).chanAlarm c 0x020E true 0 1 ns (2 * usec)) s) s

/-! Retry. -/

/-- RETRY_ATTEMPT (R266). -/
def execRetryAttempt (t : Instant) (c : Ch) (s : State) : Result :=
  run t (fun s => when (s.engine c) (fun s => s.attempt c) s) s

/-- RETRY_COUNTER_RESET (R267). -/
def execRetryCounterReset (t : Instant) (c : Ch) (s : State) : Result :=
  run t (fun s =>
    let x := s.chan c
    when (s.engine c && x.stage.running && x.prot.trip = .none && s.held x.prot.cleanSince (max (60 * sec) x.prot.interval)) (fun s =>
      s.modProt c fun p => { p with n := 0, retrying := false }) s) s

/-- PROT_STATE_SAVE (R283): x, n, the trip state and the elapsed interval go to MRAM every 1 s. -/
def execProtStateSave (t : Instant) (k : Slot) (s : State) : Result :=
  run t (fun s => when (s.cart k).powered (fun s => overList (chansOf k) (fun c s => s.modProt c (·.save s.now)) s) s) s

end Sys2Proof.Machine
end

