-- ==== Sys2Proof/Machine/Pwm.lean ====
section
/-!
DEFINITION. Machine/Pwm.lean: the events of the PWM generators (chapter 07): period boundaries, compares, the freewheel switch and its dead
times, and the calibration of the delay lines.
-/
namespace Sys2Proof.Machine

/-- The exact 100 % value of PWM_CMPA (R293). -/
def fullOn : Nat := 0x3FFFFFFF

/-- The on-time that the generator applies for a commanded one, in fine steps: exact at 0 and at full, else clamped (R293, R294). -/
def clampOn (per minp cmpa : Nat) : Nat :=
  if cmpa = 0 then 0
  else if cmpa = fullOn then per * 64
  else max minp (min (per * 64 - minp) cmpa)

/-- The clamp changes the value (R295). -/
def clampActs (per minp cmpa : Nat) : Bool := cmpa ≠ 0 && cmpa ≠ fullOn && clampOn per minp cmpa ≠ cmpa

/-- The tap of a fine value (R308): round(F × N_CAL / 64), halves up. -/
def tapOf (f nCal : Nat) : Nat := (2 * f * nCal + 64) / 128

/-- A duty as an on-time of a period, in fine steps, rounded up; 0 and the whole period are the exact values (R332). -/
def dutyOn (per duty : Nat) : Nat :=
  if duty = 0 then 0 else if duty ≥ dutyOne then fullOn else (per * 64 * duty + dutyOne - 1) / dutyOne

/-- The period and the commanded on-time that a channel's generator runs from a boundary at `at_`, in quarters of a ns (R228, R230, R839): HOLD,
a ramp, or the active settings. A profile's ramp runs at the commanded frequency where HOST governs with level PWM, and at 20 kHz otherwise. -/
def State.waveform (s : State) (c : Ch) (at_ : Nat) : Nat × Nat :=
  let x := s.chan c
  let g := x.gen
  if x.stage.phase = .hold ∧ x.stage.profile = 4 ∧ x.ctrl.level = .on then
    let per := 1600000 / max 1 (s.chItem c 0x010F)
    (per, dutyOn per (pctDuty (s.chItem c 0x010E)))
  else match x.ctrl.ramp with
    | some r =>
      let per := if r.hand ∨ (x.ctrl.source = .host ∧ x.ctrl.level = .pwm) then g.act.per else 8000
      (per, dutyOn per (r.dutyAt (at_ / 4)))
    | none => if x.ctrl.level = .on then (8000, fullOn) else (g.act.per, g.act.cmpa)

/-! Edges. -/

/-- Where the on edge lies in the running period, in fine steps (R290, R291). -/
def Gen.onPos (g : Gen) : Nat := if g.act.centre then (g.runPer * 64 - g.applied) / 2 else 0

/-- Where the off edge lies. -/
def Gen.offPos (g : Gen) : Nat := g.onPos + g.applied

/-- The running period holds edges: it is neither wholly off nor wholly on (R293). -/
def Gen.edged (g : Gen) : Bool := g.applied ≠ 0 && g.applied < g.runPer * 64

/-- The tick of an edge (R307); without the delay line a fine value of 32 or more adds one (R310). -/
def Gen.edgeTick (g : Gen) (pos : Nat) : Nat := pos / 64 + (if g.coarse && decide (32 ≤ pos % 64) then 1 else 0)

/-- The tap of an edge (R307, R308, R310). -/
def Gen.edgeTap (g : Gen) (pos : Nat) : Nat := if g.coarse then 0 else tapOf (pos % 64) g.nUse

/-- The instant of an edge, in quarters of a ns: its tick, and the delay of its tap (R307). -/
def Gen.edgeAt (g : Gen) (pos : Nat) : Nat := g.perAt + ticks (g.edgeTick pos) + ticks (g.edgeTap pos) / max 1 g.nUse

/-- The forward on command at its placed edge (R290, R291, R313): not where the freewheel switch has not confirmed off within 500 ns, and then
for the whole period. -/
def Chan.onEdge (x : Chan) : Chan :=
  { x with
    stage := { x.stage with fwd := !(x.gen.ahead && decide (500 < x.gen.fwWait)), fw := false }
    gen := { x.gen with edges := 1, ahead := false, fwWait := 0, fwSkips := if x.gen.ahead then x.gen.fwSkips else 0 } }

/-- The forward off command: an off interval begins (R290, R291, R312). -/
def Chan.offEdge (x : Chan) : Chan :=
  { x with stage := { x.stage with fwd := false }, gen := { x.gen with edges := 2, fwDone := false, ceilHit := false } }

/-! Boundaries. -/

/-- What passes at a boundary whatever governs: a set written at least 2 ticks before it, the last valid calibration and PWM_EDGE (R297, R299,
R309, R310, R316). -/
def Gen.pass (g : Gen) (edge : Nat) : Gen :=
  let g := match g.early with
    | some p =>
      let act := p.over g.act
      { g with act := act, early := none, pending := decide (g.shadow ≠ act) }
    | none => if g.pending ∧ g.inTime g.shadowAt then { g with act := g.shadow, pending := false } else g
  { g with nUse := if g.nCal = 0 then g.nUse else g.nCal, coarse := g.dlyFault, edge := edge, firedA := false, firedB := false }

/-- The counter returns to 0, and a period of `per` ticks begins (R289, R300). -/
def Gen.turnOver (g : Gen) (per : Nat) : Gen :=
  { g with begun := true, perAt := g.boundAt, boundAt := g.boundAt + ticks per, runPer := per }

/-- The generator governs the forward switch for the period that begins (R290, R291, R294, R295). -/
def Chan.period (x : Chan) (per minp cmpa : Nat) : Chan :=
  let on := clampOn per minp cmpa
  let g := { x.gen.turnOver per with governs := true, applied := on, clamped := clampActs per minp cmpa, edges := 0 }
  let g := { g with tap := g.edgeTap g.offPos, tapOn := g.edgeTap g.onPos }
  let x : Chan := { x with stage := { x.stage with output := .pwm, cause := if x.stage.output = .pwm then x.stage.cause else x.ctrl.why }, gen := g }
  if on ≠ 0 ∧ (per * 64 ≤ on ∨ ¬g.act.centre) then
    if g.ahead ∧ 0 < g.fwWait ∧ g.fwWait ≤ 500 then x else x.onEdge
  else
    let x := if x.stage.fwd then x.offEdge else x
    { x with gen := { x.gen with edges := 0, ahead := x.gen.ahead && on ≠ 0 } }

/-- The generator disabled at a boundary, the forward switch static on (R206, R303). -/
def Chan.staticOn (x : Chan) : Chan :=
  { x with
    stage := { x.stage with output := .on, fwd := true, fw := false, cause := if x.stage.output = .on then x.stage.cause else x.ctrl.why }
    gen := x.gen.stop }

/-- CLAMPED logged at its onset, at most once per 10 s, and at the clearing that follows (R295). -/
def State.logClamp (s : State) (c : Ch) : State :=
  let g := (s.chan c).gen
  let free := !g.clampLog.any fun t => s.now < t + 10 * sec
  if g.clamped ∧ ¬g.clampSent ∧ free then
    (s.modGen c fun g => { g with clampSent := true, clampLog := some s.now }).chanEvent c 0x0208 0 1
  else if g.clampSent ∧ ¬g.clamped then (s.modGen c fun g => { g with clampSent := false }).chanEvent c 0x0208 1 0
  else s

/-- EN 0 has passed at a boundary (R303): the generator stops, a handover ramp ends with it, and the forward switch follows STATIC. A set with EN 1
that came too late for this boundary enables it again (R304). -/
def State.genOff (s : State) (c : Ch) : State :=
  let x := s.chan c
  let s := if x.ctrl.hand = .none then s else s.logHand c x.ctrl.level .pwm x.ctrl.policy
  let s := s.modChan c fun y => { y with ctrl := { y.ctrl with ramp := none, hand := .none }, gen := { y.gen with clamped := false } }
  if x.gen.act.static then s.modChan c fun y => y.staticOn.follow s.now
  else s.turnOff c .off x.ctrl.why

/-- The boundary of a channel that no force governs. -/
def State.boundary (s : State) (c : Ch) : State :=
  let x := s.chan c
  let at_ := x.gen.boundAt
  let ended := x.ctrl.ramp.any fun r => !r.hand && decide (quarters r.stop ≤ at_)
  let x := if ended then { x with ctrl := { x.ctrl with ramp := none, why := if x.ctrl.level = .on then 0x0F else x.ctrl.why } } else x
  let x := if x.stage.phase = .hold ∧ x.ctrl.level = .pwm then { x with stage := { x.stage with phase := .run } } else x
  let s := s.setChan c x
  let disable : Bool := x.ctrl.level = .pwm && !x.gen.act.en && (x.ctrl.hand ≠ .ramp || (s.demands c x.ctrl.source).1 = .pwm)
  if ¬x.stage.output.conducts then
    s.modGen c fun g => if x.ctrl.level = .pwm ∧ ¬disable then g.turnOver g.act.per else g.stop
  else if disable then s.genOff c
  else if x.ctrl.level = .on ∧ x.ctrl.ramp.isNone ∧ x.stage.phase ≠ .hold then
    s.modChan c fun y => { y.staticOn with gen := { y.staticOn.gen with clamped := false } }
  else
    let w := s.waveform c at_
    s.modChan c fun y => y.period w.1 (s.chItem c 0x011A * 8 * 64) w.2

/-- In a debug halt the generator completes an on edge for which the freewheel switch has been commanded off (R313, R327). -/
def State.haltEdge (s : State) (c : Ch) : State :=
  let g := (s.chan c).gen
  let at_ := if g.edges = 0 then g.edgeAt g.onPos else g.boundAt
  when ((s.cart (slotOf c)).frozen && (s.cart (slotOf c)).powered && g.governs && g.ahead && decide (at_ + quarters g.fwWait ≤ quarters s.now))
    (fun s => s.modChan c fun x => let y := x.onEdge; { y with gen := { y.gen with edges := g.edges } }) s

/-- PERIOD_BOUNDARY (R289, R297, R298, R300, R337, R338): what waits passes, the BLANK_SEL words whose source the channel is are taken into use
(R321), and where no force acts the generator governs the period that begins. Beneath a force the counter goes on, and EN 0 stops it. -/
def execPeriodBoundary (t : Instant) (c : Ch) (s : State) : Result :=
  run t (fun s =>
    let x := s.chan c
    if s.engine c && x.gen.enabled && decide (x.gen.boundAt ≤ quarters s.now) then
      let s := s.modGen c (·.pass (s.chItem c 0x011B))
      let s := s.loadTimers (slotOf c) (some c)
      if x.ctrl.source = .open ∨ x.ctrl.source = .glaze then
        s.modGen c fun g => if g.act.en then { g.turnOver g.act.per with edges := 2 } else g.stop
      else (s.boundary c).logClamp c
    else s.haltEdge c) s

/-- PWM_COMPARE (R290, R291): the next edge of the period at its instant, the forward on command or the off command; an on edge that waits for the
freewheel switch comes at its confirmation (R313). -/
def execPwmCompare (t : Instant) (c : Ch) (s : State) : Result :=
  run t (fun s =>
    let x := s.chan c
    let g := x.gen
    let reached := fun (at_ : Nat) => decide (at_ ≤ quarters s.now)
    if s.engine c then
      when (g.enabled && g.governs && x.stage.output = .pwm && !x.stage.offDue && g.applied ≠ 0) (fun s =>
        let on := g.edgeAt g.onPos + (if g.ahead ∧ g.fwWait ≤ 500 then quarters g.fwWait else 0)
        if g.edges = 0 then (if reached on then s.modChan c (·.onEdge) else s)
        else if g.edges = 1 ∧ g.edged ∧ reached (g.edgeAt g.offPos) then s.modChan c (·.offEdge)
        else s) s
    else s.haltEdge c) s

/-! The freewheel switch. -/

/-- The forward off command of the off interval has been issued and no on edge has followed. -/
def Gen.offInterval (g : Gen) : Bool := g.edges = 2 || (g.edges = 0 && (g.act.centre || g.applied = 0))

/-- A half that stands in a decay through its freewheel switch, or in FREEWHEEL, with the switch kept off by its partner (R400, R401). -/
def Chan.fwHeld (x : Chan) : Bool :=
  x.ctrl.half && !x.stage.fw && ((x.stage.output = .decay && x.stage.slow) || x.stage.output = .freewheel)

/-- FREEWHEEL_ON (R311, R312, R315, R400): SW below 2 V from 20 ns after the forward off command, or the 500 ns ceiling where the forward gate monitor
confirms, `ns` after that command. Each off interval that reaches the ceiling is counted once. A half whose partner held SW up turns its switch on
here in a decay and in FREEWHEEL too. -/
def execFreewheelOn (t : Instant) (c : Ch) (sw : MilliVolt) (ns : Nat) (fwdOff : Bool) (s : State) : Result :=
  run t (fun s =>
    let x := s.chan c
    let g := x.gen
    if x.fwHeld then
      when (decide (sw < 2000) && decide (20 ≤ ns) && s.engine c) (fun s => s.modStage c fun g => { g with fw := true }) s
    else when (x.stage.output = .pwm && g.governs && !x.stage.fwd && !x.stage.fw && !g.fwDone && g.offInterval && (s.cart (slotOf c)).powered) (fun s =>
      let room : Bool := ns + g.fwOffNs + 20 ≤ g.offNs
      let ceil : Bool := 500 ≤ ns && !g.ceilHit
      let on := (decide (sw < 2000) && decide (20 ≤ ns)) || (ceil && fwdOff && !x.ctrl.half)
      s.modChan c fun y => { y with
        stage := { y.stage with fw := on && room }
        gen := { y.gen with ceilHit := y.gen.ceilHit || ceil, dtCeil := if ceil then bump 255 y.gen.dtCeil else y.gen.dtCeil } }) s) s

/-- The freewheel switch does not confirm off in eight periods in a row (R339): the generator is disabled, and a turn-off by STATIC OFF
decays through the clamp. -/
def State.gateFault (s : State) (c : Ch) : State :=
  let x := s.chan c
  let p := { x.ctrl.pwm with en := false }
  let s := s.setChan c { x with gen := { x.gen.stop with fwGate := true }, ctrl := { x.ctrl with pwm := p } }
  let s := if x.ctrl.level = .pwm ∧ ¬p.static then s.modChan c fun y => y.decay s.now false false y.ctrl.why
    else s.modChan c (·.staticOn)
  s.chanFlag c 0x020A x.gen.fwGate true

/-- The instant of the next forward on edge, in quarters of a ns (R290, R291). -/
def Gen.nextOn (g : Gen) : Nat :=
  if g.edges = 0 ∧ g.act.centre ∧ g.applied ≠ 0 then g.edgeAt g.onPos
  else if g.act.centre then g.boundAt + ticks (g.onPos / 64) else g.boundAt

/-- FREEWHEEL_OFF_AHEAD (R313): the switch is commanded off ahead of the on edge, by the turn-off time measured in the previous period and 20 ns;
`offNs` is the turn-off time now measured and `waitNs` how long after the edge the switch confirms. Beyond 500 ns the forward switch stays off for the
period. -/
def execFreewheelOffAhead (t : Instant) (c : Ch) (offNs waitNs : Nat) (s : State) : Result :=
  run t (fun s =>
    let x := s.chan c
    let g := x.gen
    let lead : Bool := quarters s.now ≤ g.nextOn && g.nextOn ≤ quarters (s.now + g.fwOffNs + 20)
    when (s.engine c && x.stage.output = .pwm && g.governs && !x.stage.fwd && !g.ahead && lead) (fun s =>
      let s := s.modChan c fun y => { y with
        stage := { y.stage with fw := false }, gen := { y.gen with fwDone := true, ahead := true, fwWait := waitNs, fwOffNs := offNs } }
      if waitNs > 500 then
        let s := s.modGen c fun g => { g with fwSkip := bump 255 g.fwSkip, fwSkips := g.fwSkips + 1 }
        if g.fwSkips + 1 ≥ 8 then s.gateFault c else s
      else s.modGen c fun g => { g with fwSkips := 0 }) s) s

/-- FREEWHEEL_LOW_CURRENT (R314): below 50 mA the switch turns off until the next off interval; it acts in a debug halt too. -/
def execFreewheelLowCurrent (t : Instant) (c : Ch) (ma : MilliAmp) (s : State) : Result :=
  run t (fun s =>
    let x := s.chan c
    when (x.stage.output = .pwm && x.stage.fw && decide (ma < 50)) (fun s =>
      s.modChan c fun y => { y with stage := { y.stage with fw := false }, gen := { y.gen with fwDone := true } }) s) s

/-- SW_CMP_FAULT (R339): every off interval above 1 A reaches the ceiling for 1 s. -/
def execSwCmpFault (t : Instant) (c : Ch) (ma : MilliAmp) (ceiling : Bool) (s : State) : Result :=
  run t (fun s =>
    let g := (s.chan c).gen
    when (s.engine c && g.governs && decide (1000 < ma)) (fun s =>
      let since := s.track ceiling g.swCmpSince
      let now : Bool := g.swCmp || s.held since sec
      (s.modGen c fun g => { g with swCmpSince := since, swCmp := now }).chanFlag c 0x020B g.swCmp now) s) s

/-! The delay line. -/

/-- A calibration count taken in (R309, R310, R339): valid from 80 to 120. -/
def Gen.calibrate (g : Gen) (n : Nat) : Gen :=
  let g := { g with calLast := min 255 n, calOk := decide (80 ≤ n) && decide (n ≤ 120) }
  if 80 ≤ n ∧ n ≤ 120 then
    { g with nCal := n, calBad := 0, calGood := g.calGood + 1, dlyFault := g.dlyFault && g.calGood + 1 < 10 }
  else { g with calBad := g.calBad + 1, calGood := 0, dlyFault := g.dlyFault || 2 ≤ g.calBad + 1 }

/-- No forward edge of the channel falls within the next 3 µs (R308). -/
def Gen.quiet (g : Gen) (now : Instant) : Bool :=
  let clear := fun (at_ : Nat) => !(decide (quarters now ≤ at_) && decide (at_ ≤ quarters (now + 3 * usec)))
  !g.enabled || ((g.edges ≠ 0 || clear (g.edgeAt g.onPos)) && (g.edges = 2 || !g.edged || clear (g.edgeAt g.offPos)) &&
    clear g.boundAt && clear g.nextOn)

/-- DELAY_LINE_CALIBRATION (R308 to R310, R328): every 1 ms, in the first interval of 3 µs without an edge. -/
def execDelayLineCalibration (t : Instant) (c : Ch) (n : Nat) (s : State) : Result :=
  run t (fun s =>
    let g := (s.chan c).gen
    when (s.engine c && decide (g.calDue ≤ s.now) && g.quiet s.now) (fun s =>
      (s.modGen c fun g => { g.calibrate n with calDue := max (g.calDue + msec) (s.now + msec / 2) }).chanFlag c 0x0209 g.dlyFault (g.calibrate n).dlyFault n) s) s

end Sys2Proof.Machine
end

