-- ==== Sys2Proof/Machine/Cartridge.lean ====
section
/-!
DEFINITION. Machine/Cartridge.lean: the cartridge as a whole: its power bus bands (R116 to R120), its start (R50, R283, R340, R848), its
entry into limp-home (R186, R830, R870), and a withdrawn or lost cartridge (R410, R419).
-/
namespace Sys2Proof.Machine

/-! Power bus. -/

/-- The band at a voltage, coming from a band (R116). -/
def bandOf (cur : BusBand) (mv : MilliVolt) : BusBand :=
  let up := fun (hi : Int) => if mv < 16000 then BusBand.low else if mv ≤ hi then .normal else .high
  match cur with
  | .dark => if mv < 11000 then .dark else if mv < 12000 then .uvlo else up 33000
  | .uvlo => if mv < 6000 then .dark else if mv < 12000 then .uvlo else up 33000
  | .high => if mv < 6000 then .dark else if mv < 9000 then .uvlo else up 32000
  | _ => if mv < 6000 then .dark else if mv < 9000 then .uvlo else up 33000

/-- Codes of the bands, in the order of R116. -/
def BusBand.code : BusBand → Nat
  | .dark => 0 | .uvlo => 1 | .low => 2 | .normal => 3 | .high => 4

/-- A channel's part of UVLO or OV_OFF (R117, R118, R211, R241, R341): the phase returns to IDLE, and both switches off at once, with the load current in the freewheel switch;
the turn-off is no trip. Under OPEN the output stays HIGH_Z. -/
def Chan.supplyOff (x : Chan) (now : Instant) (cause : Nat) : Chan :=
  match x.stage.output with
  | .on => (x.decay now false true cause).modStage fun g => { g with ser := false }
  | .pwm => (x.decay now false true cause).modStage fun g => { g with ser := false }
  | .decay => { x with stage := { x.stage with ser := false, fw := true, slow := true, toFw := false }, gen := x.gen.stop }
  | .freewheel => (x.decay now false true cause).modStage fun g => { g with ser := false }
  | _ => { x with gen := x.gen.stop }

/-- The restart delay of a channel (R119). -/
def stagger (c : Ch) : Nat := (slotOf c).val * 8 * msec + (posOf c).val * 2 * msec

/-- The restart of a cartridge's channels at their staggered instants (R119); one governed FREEWHEEL is switched as governed at once (R116). -/
def State.restartAll (s : State) (k : Slot) : State :=
  overList (chansOf k) (fun c s =>
    if (s.chan c).ctrl.level.isOn then s.modStage c fun g => { g with restartAt := some (s.now + stagger c) } else s.settle c) s

/-- A cartridge's turn-off by UVLO (0x07) or OV_OFF (0x08). -/
def State.supplyOffAll (s : State) (k : Slot) (cause : Nat) : State :=
  overList (chansOf k) (fun c s => (s.modChan c fun x =>
    { x.supplyOff s.now cause with stage := { (x.supplyOff s.now cause).stage with restartAt := none, revUntil := none } }).unopposed c) s

/-- A glaze latch set less than 1 ms before DARK may be lost (R827): a free value says whether it is. -/
def State.mayLose (s : State) (c : Ch) : State :=
  let x := (s.chan c).ctrl
  when (x.glaze && decide (s.now < x.glazeAt + msec) && (s.cart (slotOf c)).powered) (fun s =>
    let (v, s) := s.draw
    s.modCtrl c fun y => { y with glazeSaved := decide (v % 2 = 0) }) s

/-- Every switch of a cartridge off and its engine stopped: what DARK leaves (R239, R341, R849). The holder is lost with the engine, the
claim epoch stays in MRAM, and a debug halt ends (R964). -/
def State.cartDark (s : State) (k : Slot) : State :=
  let y := s.cart k
  let s := overList (chansOf k) (fun c s => s.mayLose c) s
  let s := if y.frozen then s.logUnit 0x0E03 0 (k.val + 1) (k.val + 1) (stdBody 1 0 0 0 0 y.serial) else s
  let s := overList (chansOf k) (fun c s => s.modChan c fun x =>
    { x with
      stage := { x.stage.toOff s.now with
        restartAt := none, revUntil := none, serRetry := none
        serRun := if y.band = .dark then x.stage.serRun else s.now - x.stage.serTestAt }
      gen := { x.gen.stop with pending := false }
      prot := { x.prot.endReg s.now with cleanSince := none, held := false }
      ctrl := { x.ctrl with hand := .none, ramp := none, openF := false, insHold := none, joinWait := false, noStart := false } }) s
  State.noteMode (s.modCart k fun x =>
    { x with band := .dark, bandAt := s.now, ovOff := false, ovSince := none, frozen := false, visit := none, visitStop := min x.visitStop s.now
             holder := none, armedBy := none, armed := [], removing := false, left := false, latchAt := none
             flt := Vector.replicate 2 {}, at_ := Vector.replicate 4 {} })

/-- POWER_BUS_BAND (R116 to R119): a cartridge in DARK comes out of it by CARTRIDGE_START. -/
def execPowerBusBand (t : Instant) (k : Slot) (mv : MilliVolt) (s : State) : Result :=
  run t (fun s =>
    let x := s.cart k
    when x.seated (fun s =>
      if x.band = .dark then (if mv < 11000 then s.modCart k fun y => { y with busMv := mv } else s)
      else
        let b := bandOf x.band mv
        let s := s.modCart k fun y => { y with busMv := mv, ovSince := if y.ovOff ∧ mv < 32000 then some (y.ovSince.getD s.now) else none }
        if b = x.band then s
        else if b = .dark then s.cartDark k
        else
          let s := s.modCart k fun y => { y with band := b, bandAt := s.now }
          if b = .uvlo then
            (s.supplyOffAll k 0x07).logUnit 0x040A 0 (k.val + 1) (k.val + 1) (stdBody x.band.code b.code mv 9000 0 x.serial)
          else if x.band = .uvlo then s.restartAll k
          else s) s) s

/-- UVLO_FREEWHEEL_CAP (R117): 20 ms after the entry the freewheel switch turns off. -/
def execUvloFreewheelCap (t : Instant) (c : Ch) (s : State) : Result :=
  run t (fun s =>
    let k := s.cart (slotOf c)
    when (k.band = .uvlo && (s.chan c).stage.output = .decay && decide (k.bandAt + 20 * msec ≤ s.now))
      (fun s => s.modStage c (·.toOff s.now)) s) s

/-- OV_OFF (R116): the bus has been HIGH for 100 ms. -/
def execOvOff (t : Instant) (k : Slot) (s : State) : Result :=
  run t (fun s =>
    let x := s.cart k
    when (x.seated && x.band = .high && !x.ovOff && decide (x.bandAt + 100 * msec ≤ s.now)) (fun s =>
      let s := s.modCart k fun y => { y with ovOff := true, ovSince := none }
      (s.supplyOffAll k 0x08).logUnit 0x040B 0 (k.val + 1) (k.val + 1) (stdBody 0 1 x.busMv 33000 0 x.serial)) s) s

/-- OV_OFF_EXIT (R119): below 32 V for 100 ms. The restart delays count from this instant, at which the channels may be switched again: DESIGN
CHOICE, log entry 62. -/
def execOvOffExit (t : Instant) (k : Slot) (s : State) : Result :=
  run t (fun s =>
    let x := s.cart k
    when (x.seated && x.ovOff && s.held x.ovSince (100 * msec)) (fun s =>
      let s := s.modCart k fun y => { y with ovOff := false, ovSince := none }
      if x.band = .low ∨ x.band = .normal then s.restartAll k else s) s) s

/-- RESTART_STAGGER (R119): the delay is over, and the channel may turn on afresh. -/
def execRestartStagger (t : Instant) (c : Ch) (s : State) : Result :=
  run t (fun s =>
    match (s.chan c).stage.restartAt with
    | some e => when (decide (e ≤ s.now)) (fun s => s.modStage c fun g => { g with restartAt := none }) s
    | none => s) s

/-! Start. -/

/-- The protection state that a cartridge restores on leaving DARK (R263, R282, R283): no cooling credited, and a pending retry from zero with
its own interval; where the cartridge has lost its stored state, a trip PROT_STATE_LOST with x at 1.0 and the strategy in force. -/
def Prot.restore (p : Prot) (now : Instant) (lost : Bool) (strategy base limit : Nat) : Prot :=
  let kept : Prot := { gateMon := p.gateMon, hsFail := p.hsFail, discFail := p.discFail, dieFwd := p.dieFwd, dieFw := p.dieFw
                       dieTemp := p.dieTemp, dieExit := p.dieExit, tripAt := now, savedOk := true }
  if lost then
    let iv := retryInterval strategy base 0 limit
    ({ kept with x := xOne, trip := if iv.isNone then .locked else .tripped, tripCause := 0x17, tripLog := true
                 strat := strategy, interval := iv.getD 0 }).save now
  else
    ({ kept with x := p.savedX, n := p.savedN, trip := p.savedTrip, tripCause := p.savedCause, strat := p.savedStrat
                 interval := p.savedIv }).save now

/-- A channel as its cartridge starts (R239, R340, R381, R848): every switch off, the generator at its defaults, sources from MRAM, no
accepted visit yet. -/
def Chan.start (x : Chan) (now : Instant) (prot : Prot) : Chan :=
  { stage := { offAt := now, testAt := now + 500 * msec, serTestAt := now - x.stage.serRun
               cause := if prot.tripCause = 0x17 then 0x17 else 0 }
    prot := prot
    gen := { nUse := x.gen.nUse, dlyFault := x.gen.dlyFault, calBad := x.gen.calBad, calGood := x.gen.calGood
             coarse := x.gen.dlyFault, fwGate := x.gen.fwGate, swCmp := x.gen.swCmp }
    ctrl := { glaze := x.ctrl.glaze && x.ctrl.glazeSaved, glazeLvl := x.ctrl.glazeLvl, glazeIn := x.ctrl.glazeIn
              source := if x.ctrl.glaze && x.ctrl.glazeSaved then .glaze else .limp
              level := if x.ctrl.glaze && x.ctrl.glazeSaved then x.ctrl.glazeLvl else .off
              why := if x.ctrl.glaze && x.ctrl.glazeSaved then 3 else 2
              mark := x.ctrl.mark, markHigh := x.ctrl.markHigh, limpBad := x.ctrl.limpBad }
    meas := { x.meas with
      p1 := { x.meas.p1 with visitAt := none, visitOk := false, refRounds := 10, rejected := 0, pol := false, inner := 0, last := 0 }
      p2 := { x.meas.p2 with visitAt := none, visitOk := false, refRounds := 10, rejected := 0, pol := false, inner := 0, last := 0 }
      lastV := 0, sum100ms := {}, sum1s := {}, bucket := {}, slide := [], offSum := {}, mirror := 0
      avg1ms := {}, avg100ms := {}, avg1s := {}, latch := none, i1 := none, i2 := none, energyLo := none, energy := x.meas.energySaved, energyRem := 0, agreeSince := none }
    set := {} }

/-- The flags that a start clears, logged where they stood (R238). -/
def State.clearFlags (s : State) (c : Ch) (g : Stage) : State :=
  let s := s.chanFlag c 0x0204 (g.olOff || g.olOn) false
  let s := s.chanFlag c 0x0205 g.extV false
  let s := s.chanFlag c 0x0206 g.reverse false
  s.chanFlag c 0x0207 g.drift false

/-- The alarms of a cartridge that has been replaced by another: those of its channels and of its slot end (R282, R380). -/
def State.endAlarms (s : State) (k : Slot) : State :=
  match s.writer s.lead with
  | none => s
  | some w =>
    let mine := ((s.ctl w).alarms.filter fun a => a.active &&
      (((classOf a.code = 2 || (classOf a.code = 6 && a.code < 0x0605) || a.code = 0x0606) && 4 * k.val < a.index && a.index ≤ 4 * k.val + 4) ||
       ((a.code = 0x0605 || a.code = 0x0607 || a.code = 0x0403) && a.index = k.val + 1)))
    overList mine (fun a s => s.alarmUnit a.code a.index false (k.val + 1) 1 0) s

/-- A cartridge fresh from the factory with a serial number (R389, R240). -/
def Cart.fresh (serial : Bytes) : Cart := { serial := padTo 12 serial }

/-- What stands in a slot when a cartridge with this serial number is found there: the one that was, or another, fresh. -/
def State.insert (s : State) (k : Slot) (serial : Bytes) : State :=
  if (s.cart k).seated ∨ (s.cart k).serial = padTo 12 serial then s.modCart k fun x => { x with seated := true }
  else
    let s := s.endAlarms k
    let s := s.setCart k (Cart.fresh serial)
    overList (chansOf k) (fun c s => s.setChan c {}) s

/-- CARTRIDGE_START (R50, R120, R239, R283, R340, R412, R848): the cartridge leaves DARK and runs in limp-home. -/
def execCartridgeStart (t : Instant) (k : Slot) (mv : MilliVolt) (serial : Bytes) (s : State) : Result :=
  run t (fun s =>
    when (decide (11000 ≤ mv) && (!(s.cart k).seated || (s.cart k).band = .dark)) (fun s =>
      let s := (if (s.cart k).seated then s else s.insert k serial)
      let s := s.cartDark k
      let s := s.modCart k fun x =>
        { x with band := bandOf .dark mv, busMv := mv, bandAt := s.now, darkEnd := s.now, unset := true
                 lastFrom := none, removing := x.lever, scrubIn := s.now, lh := Vector.replicate 8 {}, grid := -(s.now : Int), hsTested := false, osc := 0
                 linkErr := Vector.replicate 2 0
                 limpMoved := false }
      let s := s.alarmUnit 0x0303 (k.val + 1) false (k.val + 1) 0 1 0 0 (s.cart k).serial
      let hold : Bool := s.active.isSome
      let lost : Bool := (chansOf k).any fun c => !(s.chan c).prot.savedOk
      let s := overList (chansOf k) (fun c s =>
        let x := s.chan c
        let p := x.prot.restore s.now lost (s.chItem c 0x0116) (s.chItem c 0x0118) (s.chItem c 0x0117)
        let y := x.start s.now p
        let y := { y with
          stage := { y.stage with restartAt := some (s.now + stagger c) }
          ctrl := { y.ctrl with insHold := if hold ∧ x.ctrl.mark ≠ 0 then some (s.now + 500 * msec) else none } }
        let s := ((s.setChan c y).clearFlags c x.stage).settle c
        if lost then s.chanAlarm c 0x020F true 0 1 else s) s
      (s.loadTimers k none).formDemands k) s) s

/-- INSERTION_HOLD_END (R412). -/
def execInsertionHoldEnd (t : Instant) (c : Ch) (s : State) : Result :=
  run t (fun s =>
    match (s.chan c).ctrl.insHold with
    | some e => when (decide (e ≤ s.now)) (fun s => s.modCtrl c fun x => { x with insHold := none }) s
    | none => s) s

/-! Limp-home. -/

/-- The cartridge has no holder from now on: LIMP governs by the handover policy, a twin half takes LIMIT_SHARE 1.0 and no trim, and the
armed entries whose T has not come are discarded (R186, R391, R396, R830, R870). -/
def State.enterLimp (s : State) (k : Slot) : State :=
  let now := s.cartTime k
  let s := s.modCart k fun x => { x with holder := none, armed := x.armed.filter fun a => a.time ≤ now }
  let s := overList (chansOf k) (fun c s =>
    let s := s.modChan c fun x => { x with set := { x.set with share := 2, trim := 0, release := false } }
    s.resource c 2) s
  s.logUnit 0x0F05 0 (k.val + 1) (k.val + 1) (stdBody 0 1 0 0 0 (s.cart k).serial)

/-- CART_HOLD of a cartridge, ns (R185). -/
def Cart.holdNs (x : Cart) (k : Slot) : Nat := ms (x.items.cart 0x0701 (k.val + 1))

/-- CART_HOLD_EXPIRY (R186). -/
def execCartHoldExpiry (t : Instant) (k : Slot) (s : State) : Result :=
  run t (fun s =>
    let x := s.cart k
    when (x.powered && x.holder.isSome && decide (x.holdAt + x.holdNs k ≤ s.now)) (fun s => (s.enterLimp k).noteMode) s) s

/-- PROT_STATE_LOST as the read of a stored state that fails its check leaves it for the next start (R282). -/
def State.protLost (s : State) (k : Slot) : State :=
  overList (chansOf k) (fun c s => s.modProt c fun p => { p with savedOk := false }) s

end Sys2Proof.Machine
end

