-- ==== Sys2Proof/Machine/Boot.lean ====
section
/-!
DEFINITION. Machine/Boot.lean: images and the boot record (R163 to R167, R188, R193, R196), and the two copies of the configuration (R169).
-/
namespace Sys2Proof.Machine

/-! Images. -/

/-- The image is valid for a controller of an issue (R164): its header, its length, its issue mask, its key, and its signature as stored. -/
def Image.valid (im : Image) (b : Boot) (issue : Nat) : Bool :=
  let k := field im.hdr 24 1
  let key : Bool := if k = 0 then b.keys[0] && !b.revoked[0] else if k = 1 then b.keys[1] && !b.revoked[1] else false
  field im.hdr 0 4 = 0x43564B46 && field im.hdr 4 2 = 1 && decide (field im.hdr 12 4 ≤ 1048448) &&
  ((issue = 0x42 && bit (field im.hdr 20 4) 0) || (issue = 0x43 && bit (field im.hdr 20 4) 1)) && key && im.sound

def Boot.image (b : Boot) (regB : Bool) : Image := if regB then b.imgB else b.imgA

def Boot.setImage (b : Boot) (regB : Bool) (im : Image) : Boot := if regB then { b with imgB := im } else { b with imgA := im }

/-- The image that the bisque stage chooses (R165): region B or A; none for NO_IMAGE. -/
def Boot.choose (b : Boot) (issue : Nat) : Option Bool :=
  let p := b.image b.prefB
  let o := b.image !b.prefB
  if p.st ≠ .invalid ∧ p.valid b issue then some b.prefB
  else if o.st = .confirmed ∧ o.valid b issue then some !b.prefB
  else none

/-! The copies of the boot record. -/

/-- The record in force as a copy with a sequence number. -/
def Boot.copy (b : Boot) (seq : Nat) : BootRec := { prefB := b.prefB, stA := b.imgA.st, stB := b.imgB.st, trials := b.trials, seq := seq }

/-- The record in force written, one copy after the other, each with its own sequence number (R167). -/
def Boot.write (b : Boot) : Boot :=
  let n := max b.recs[0].seq b.recs[1].seq
  { b with recs := #v[b.copy (n + 1), b.copy (n + 2)] }

/-- A copy taken as the record in force. -/
def Boot.take (b : Boot) (r : BootRec) : Boot :=
  { b with prefB := r.prefB, trials := r.trials, imgA := { b.imgA with st := r.stA }, imgB := { b.imgB with st := r.stB } }

/-- The copy that the bisque stage uses (R167): the one with the higher sequence number whose CRC is correct. -/
def Boot.best (b : Boot) : Option BootRec :=
  let x := b.recs[0]
  let y := b.recs[1]
  if x.ok ∧ (¬y.ok ∨ y.seq ≤ x.seq) then some x else if y.ok then some y else none

/-- The record that the bisque stage goes by when both copies are bad (R193): image A preferred, both treated as CONFIRMED. -/
def Boot.lost (b : Boot) : Boot :=
  { b with prefB := false, imgA := { b.imgA with st := .confirmed }, imgB := { b.imgB with st := .confirmed }, trials := 0 }

/-- The record read at a start: the best copy, or what stands for it where both are bad. -/
def Boot.read (b : Boot) : Boot := match b.best with
  | some r => b.take r
  | none => b.lost

/-- What a loss of logic power leaves of a write of the bisque stage (R196): both copies written, the first alone, the first with a wrong CRC, or the
second with one. Which of them is a free value. -/
def Boot.torn (b : Boot) (n : Nat) : Boot :=
  match b.old with
  | none => b
  | some old =>
    { b with old := none, recs := match n % 4 with
      | 0 => b.recs
      | 1 => #v[b.recs[0], old[1]]
      | 2 => #v[{ b.recs[0] with ok := false }, old[1]]
      | _ => #v[b.recs[0], { b.recs[1] with ok := false }] }

/-- A TRIAL image started three times without being CONFIRMED becomes INVALID (R188). -/
def Boot.revert (b : Boot) : Boot × Bool :=
  let p := b.image b.prefB
  if p.st = .trial ∧ 3 ≤ b.trials then ({ b.setImage b.prefB { p with st := .invalid } with trials := 0 }, true) else (b, false)

/-! The copies of the configuration. -/

/-- A configuration put into force and written to both copies (R611). -/
def Mram.setConfig (m : Mram) (items : Items) (epoch : Nat) (hash : Bytes) : Mram :=
  { m with items := items, epoch := epoch, hash := hash
           copies := Vector.replicate 2 { items := items, epoch := epoch, hash := hash, ok := true } }

/-- The configuration read at firmware start (R169): the valid copy with the higher epoch, and blank where none is valid. -/
def Mram.readConfig (m : Mram) : Mram :=
  let x := m.copies[0]
  let y := m.copies[1]
  let best : CfgCopy := if x.ok ∧ (¬y.ok ∨ y.epoch ≤ x.epoch) then x else if y.ok then y else {}
  { m with items := best.items, epoch := best.epoch, hash := best.hash }

end Sys2Proof.Machine
end

