-- ==== Sys2Proof/Machine/Send.lean ====
section
/-!
DEFINITION. Machine/Send.lean: what a PHY transmits (R494, R498, R499, R508, R517): addresses, the ARP cache and its waiting datagram, and the
queue of frames on the wire.
-/
namespace Sys2Proof.Machine

/-- Addresses in use on a port; none until firmware running (R492, R520). -/
def Ctlr.addr (x : Ctlr) (p : Bus) : Option PortAddr :=
  x.addrs.map fun a => match p with
    | .a => a.1
    | .b => a.2

/-- The controller address of a slot (R492). -/
def PortAddr.own (a : PortAddr) : Ctl → Nat
  | .a => a.ctrlA
  | .b => a.ctrlB

/-- Two addresses lie in one subnet of the port (R493). -/
def PortAddr.near (a : PortAddr) (x y : Nat) : Bool := x &&& a.mask = y &&& a.mask

/-- The unit serial number a controller goes by: that of its identity copy, and the plug's where it has none yet (R168, R956). -/
def State.unitSerial (s : State) (c : Ctl) : Bytes :=
  match (s.ctl c).mram.ident with
  | some i => i.serial
  | none => ((s.plug.filter fun p => p.ok && !p.blank).map (·.serial)).getD spaces12

/-- UNIT_MAC (R492). -/
def State.unitMac (s : State) (c : Ctl) : Nat := Config.unitMac (s.unitSerial c)

/-- The factory address of a controller's PHY (R494). -/
def State.phyMac (s : State) (c : Ctl) (p : Bus) : Nat := Config.phyMac (s.ctl c).serial p

/-- Time of a frame on the wire, ns, for its UDP payload length: headers, FCS, preamble and gap make 66 bytes more, at 10 Mb/s
(worked case of chapter 12). -/
def wireNs (len : Nat) : Nat := (len + 66) * 800

/-- The frames still on the queue of a PHY (R517). -/
def Phy.waiting (x : Phy) (now : Instant) : List TxFrame := x.txq.filter fun e => now < e.done

/-- The frames on the queue of a PHY, counted (R517). -/
def Phy.queued (x : Phy) (now : Instant) : Nat := (x.waiting now).length

/-- Frames that leave one after another from an instant on. -/
def TxFrame.after (from_ : Instant) : List TxFrame → List TxFrame
  | [] => []
  | f :: l => { f with done := from_ + f.ns } :: TxFrame.after (from_ + f.ns) l

/-- A frame put on the queue, and counted (R514, R517): a report last; another ahead of the reports but for the frame that is on the wire. -/
def Phy.sent (x : Phy) (now : Instant) (len : Nat) (report : Bool := false) : Phy :=
  let l := x.waiting now
  let ns := wireNs len
  let ahead := if report then l else l.take 1 ++ (l.drop 1).filter fun f => !f.report
  let behind := if report then [] else (l.drop 1).filter (·.report)
  let done := ((ahead.getLast?).map (·.done)).getD now + ns
  { x with txq := ahead ++ { done := done, ns := ns, report := report } :: TxFrame.after done behind
           cnt := { x.cnt with txOk := wrap32 x.cnt.txOk } }

/-- The output is a stream report. -/
def Sent.isReport : Sent → Bool
  | .report _ _ _ _ => true
  | _ => false

/-- A frame of the PHY as it is queued (R517): one that finds 16 frames queued is dropped. Outputs show at their queueing: log entry 76. -/
def State.putFrame (s : State) (c : Ctl) (p : Bus) (len : Nat) (o : Sent) : State :=
  if 16 ≤ ((s.ctl c).phy p).queued s.now then s
  else (s.emit o).modPhy c p fun x => x.sent s.now len o.isReport

/-- A gratuitous ARP for UNIT_IP with UNIT_MAC (R494, R496). -/
def State.sendGratuitous (s : State) (c : Ctl) (p : Bus) : State :=
  match (s.ctl c).addr p with
  | some a => if ((s.ctl c).phy p).st = .down then s else s.putFrame c p 0 (.gratuitous c p a.unit (s.unitMac c))
  | none => s

/-! What a datagram is on the wire (R498). -/

/-- An IPv4 datagram: version 4, header of 20 bytes with no options, DSCP 0, DF set, TTL 64, and its header checksum (R498). -/
def ipv4Of (proto src dst : Nat) (body : Bytes) : Bytes :=
  let head := fun (sum : Nat) => be 2 0x4500 ++ be 2 (20 + body.length) ++ be 2 (Config.ipIdent body).val ++ be 2 0x4000 ++ be 1 64 ++ be 1 proto ++
    be 2 sum ++ be 4 src ++ be 4 dst
  head (65535 - sum16 (head 0)) ++ body

/-- A UDP datagram with its checksum over the pseudo-header, sent as ones where it comes to 0 (R498). -/
def udpOf (src dst sport dport : Nat) (data : Bytes) : Bytes :=
  let len := 8 + data.length
  let sum := 65535 - sum16 (be 4 src ++ be 4 dst ++ be 2 17 ++ be 2 len ++ be 2 sport ++ be 2 dport ++ be 2 len ++ zeros 2 ++ data)
  be 2 sport ++ be 2 dport ++ be 2 len ++ be 2 (if sum = 0 then 65535 else sum) ++ data

/-- An ICMP echo reply to a request with this identifier, sequence number and data (R500). -/
def echoOf (id : Nat) (data : Bytes) : Bytes :=
  zeros 2 ++ be 2 (65535 - sum16 (zeros 4 ++ be 4 id ++ data)) ++ be 4 id ++ data

/-- A datagram to an address (R498, R499, R508): a DOWN port sends nothing; an address in the cache gets it at once; another is resolved by an ARP
request while one datagram waits, and a further one is dropped. -/
def State.sendOn (s : State) (c : Ctl) (p : Bus) (ip len : Nat) (o : Sent) : State :=
  let x := (s.ctl c).phy p
  match (s.ctl c).addr p with
  | none => s
  | some a =>
    let hop := if a.near ip a.unit then ip else a.gateway
    if x.st = .down ∨ hop = 0 then s
    else if x.arp.any (fun e => e.ip = hop && decide (s.now < e.at_ + 300 * sec)) then
      (s.putFrame c p len o).modPhy c p fun x => { x with arp := x.arp.map fun e => if e.ip = hop then { e with used := s.now } else e }
    else if x.waits.any (fun w => w.ip = hop) then
      s.modPhy c p fun x => { x with cnt := { x.cnt with arp := wrap32 x.cnt.arp } }
    else
      (s.putFrame c p 0 (.arpRequest c p hop)).modPhy c p fun x =>
        { x with waits := x.waits ++ [{ ip := hop, tries := 1, at_ := s.now, wait := o, len := len }] }

/-- An address learned (R499): it replaces its entry, or the least recently used of 32; the datagram that waited for it is sent. -/
def State.learn (s : State) (c : Ctl) (p : Bus) (ip mac : Nat) : State :=
  let x := (s.ctl c).phy p
  let rest := x.arp.filter fun e => e.ip ≠ ip
  let old := (rest.map (·.used)).foldl min (rest.map (·.used) |>.head?.getD 0)
  let rest := if rest.length < 32 then rest else
    match rest.find? fun e => e.used = old with
    | some v => rest.filter fun e => e.ip ≠ v.ip
    | none => rest.drop 1
  let ready := x.waits.filter fun w => w.ip = ip
  let s := s.modPhy c p fun x => { x with
    arp := rest ++ [{ ip := ip, mac := mac, at_ := s.now, used := s.now }], waits := x.waits.filter fun w => w.ip ≠ ip }
  if x.st = .down then s else ready.foldl (fun s w => s.putFrame c p w.len w.wait) s

end Sys2Proof.Machine
end

