-- ==== Sys2Proof/Machine/Journal.lean ====
section
/-!
DEFINITION. Machine/Journal.lean: journal transactions (R857 to R865): the changes they make to the mirrored state, their commit
and their release, and the completion of the requests they carry out (R550, R564).
-/
namespace Sys2Proof.Machine

/-! Sequence windows (R535 to R537). -/

/-- An entry put into a client's window; entries below H − 63 are discarded. -/
def ClientSt.putEntry (x : ClientSt) (e : WinEntry) : ClientSt :=
  let h := max x.high e.seq
  { x with high := h, win := (x.win.filter fun y => y.seq ≠ e.seq ∧ h < y.seq + 64) ++ [e] }

/-- A new sequence becomes H (R536). -/
def ClientSt.raise (x : ClientSt) (seq : Nat) : ClientSt :=
  let h := max x.high seq
  { x with high := h, win := x.win.filter fun y => h < y.seq + 64 }

def Mram.modClient (m : Mram) (c : Client) (f : ClientSt → ClientSt) : Mram := { m with clients := modV m.clients c f }

def Mram.client (m : Mram) (c : Client) : ClientSt := m.clients[c]

/-- A client by its slot number. -/
def clientOf (n : Nat) : Client := ⟨n % 16, Nat.mod_lt _ (by decide)⟩

/-- The withdrawal of a scheduled transaction (R561): its slot is freed, and its entry becomes COMPLETE with CONFLICT. -/
def Mram.withdraw (m : Mram) (jsn detail : Nat) (now : UnitTime) : Mram :=
  match m.slots.find? (fun j => j.jsn = jsn && j.sched) with
  | none => m
  | some j =>
    let m := { m with slots := m.slots.filter fun y => y.jsn ≠ jsn }
    if j.client < 16 then
      m.modClient (clientOf j.client) fun x => { x with win := x.win.map fun e =>
        if e.seq = j.seq ∧ e.st = .scheduled then { e with st := .complete, status := 0x0401, detail := detail, time := now } else e }
    else m

/-- A subscription as one of a list has it, with what that one's stream has carried so far (R569, R571). -/
def Sub.keep (old : List Sub) (y : Sub) : Sub :=
  match old.find? (fun z => z.handle = y.handle && z.stream = y.stream) with
  | some z => { y with first := z.first, sentAt := z.sentAt, cursor := z.cursor, last := z.last }
  | none => y

/-- One change made to the mirrored state of one controller (R858). -/
def Mram.apply (m : Mram) (now : UnitTime) (kind : Nat) : Change → Mram
  | .level c l cmd => { m with hosts := modV m.hosts c fun h =>
      { h with level := l, cmds := if cmd then h.cmds + 1 else h.cmds, shed := kind = 4, rest := kind = 2 } }
  | .pwm c p => { m with hosts := modV m.hosts c fun h => { h with pwm := p, sets := h.sets + 1 } }
  | .loop q ua => { m with loops := setV m.loops q (some ua) }
  | .staging st => { m with staging := st }
  | .config items epoch hash => m.setConfig items epoch hash
  | .lease c l => { m with leases := setV m.leases c l }
  | .entry cl e =>
    m.modClient cl fun x => x.putEntry (if e.st = .scheduled then e else { e with time := now })
  | .keys cl ks => m.modClient cl fun x => { x with keys := ks, keyLost := false }
  | .window cl => m.modClient cl fun x => { x with high := 0, win := [], repSeq := 1, repMir := 1 }
  | .subs cl l => m.modClient cl fun x => { x with subs := l.map (Sub.keep x.subs) }
  | .withdraw jsn detail => m.withdraw jsn detail now
  | .act _ _ => m
  | .address _ _ => m
  | .record r => { m with log := m.log.commit r }
  | .coneClear => { m with cone := { m.cone with entries := [] } }
  | .revoke k => { m with boot := { m.boot with revoked := if k = 0 then setV m.boot.revoked 0 true else setV m.boot.revoked 1 true } }
  | .claims _ _ _ _ _ => m
  | .swap _ _ => m

/-- The change waits for T in a scheduled transaction (R554, R556). -/
def Change.waits : Change → Bool
  | .level _ _ _ => true
  | .pwm _ _ => true
  | .loop _ _ => true
  | _ => false

/-- The changes a commit makes at once: all of them, but those of a scheduled transaction that wait for T. -/
def JSlot.commits (j : JSlot) : List Change := j.changes.filter fun ch => !(j.sched && ch.waits)

/-- The changes that a scheduled transaction makes at T. -/
def JSlot.later (j : JSlot) : List Change := j.changes.filter fun ch => j.sched && ch.waits

def Mram.applyAll (m : Mram) (now : UnitTime) (kind : Nat) (l : List Change) : Mram :=
  l.foldl (fun acc ch => acc.apply now kind ch) m

def Mram.slot (m : Mram) (jsn : Nat) : Option JSlot := m.slots.find? fun j => j.jsn = jsn

def Mram.modSlot (m : Mram) (jsn : Nat) (f : JSlot → JSlot) : Mram :=
  { m with slots := m.slots.map fun j => if j.jsn = jsn then f j else j }

def Mram.freeSlot (m : Mram) (jsn : Nat) : Mram := { m with slots := m.slots.filter fun j => j.jsn ≠ jsn }

/-- A role swap is in progress, so that no transaction is prepared and no request answered (R886). -/
def Mram.swapping (m : Mram) : Bool := m.slots.any fun j => j.kind = 6

/-- The slots of a mask. -/
def maskAny (m : Vector Bool 4) : Bool := m.toList.any id

/-- The cartridges on which channels lie. -/
def maskOfChans (cs : List Ch) : Vector Bool 4 := Vector.ofFn fun k => cs.any fun c => slotOf c = k

/-! Sending. -/

/-- Client slots' current key generation. -/
def ClientSt.current (x : ClientSt) : Option KeyGen := x.keys.find? fun k => k.st = .current

/-- A generation that is not past its 10 s as RETIRING (R530, R579). -/
def KeyGen.live (k : KeyGen) (now : Instant) : Bool := k.st ≠ .retiring || decide (now < k.erase)

/-- The live key of a client under a generation (R526). -/
def Ctlr.key (x : Ctlr) (cl : Client) (gen : Nat) (now : Instant) : Option KeyGen :=
  (x.mram.client cl).keys.find? fun k => k.gen = gen && k.live now

/-- The bootstrap key (R961): the plug's, or the identity copy's when no plug is fitted. -/
def State.bootKey (s : State) (c : Ctl) : Bytes :=
  match s.plug with
  | some p => p.bootKey
  | none => (((s.ctl c).mram.ident).map (·.bootKey)).getD (zeros 32)

/-- Bytes 0 to 23 + L of a packet (R523). -/
def packetHead (flags : Nat) (client : Client) (gen seq opcode status : Nat) (time : UnitTime) (params : Bytes) : Bytes :=
  [0x02] ++ be 1 flags ++ be 1 client.val ++ be 1 gen ++ be 6 seq ++ be 2 opcode ++ be 2 params.length ++ be 2 status ++
  beInt 8 time ++ params

/-- The tag of R528. -/
def tagOf (key head : Bytes) : Bytes := (hmac key head).take 16

/-- The whole packet as it travels. -/
def Packet.bytes (p : Packet) : Bytes :=
  packetHead p.flags p.client p.gen p.seq p.opcode p.status p.time p.params ++ p.tag

/-- The IPv4 datagram that an output of the unit is on the wire (R498, R500, R501, R505, R563): replies and reports leave from port 48720. A report
leaves from UNIT_IP: DEDUCED, log entry 76. -/
def State.datagram (s : State) : Sent → Option Bytes
  | .reply c (.bus b) dst fromUnit p => ((s.ctl c).addr b).map fun a =>
      let src := if fromUnit then a.unit else a.own c
      ipv4Of 17 src dst.ip (udpOf src dst.ip 48720 dst.port p.bytes)
  | .report c b dst p => ((s.ctl c).addr b).map fun a => ipv4Of 17 a.unit dst.ip (udpOf a.unit dst.ip 48720 dst.port p.bytes)
  | .echo _ _ src dst id data => some (ipv4Of 1 src dst (echoOf id data))
  | _ => none

/-- A packet of the unit with its tag under a key. -/
def mkPacket (key : Bytes) (flags : Nat) (client : Client) (gen seq opcode status : Nat) (time : UnitTime) (params : Bytes) : Packet :=
  { flags := flags, client := client, gen := gen, seq := seq, opcode := opcode, status := status, time := time, params := params,
    tag := tagOf key (packetHead flags client gen seq opcode status time params) }

/-- The key under which a reply is tagged: that of its request (R530), or the bootstrap key for a request that passed under it; none once the
generation has been erased. -/
def State.replyKey (s : State) (c : Ctl) (q : Request) : Option Bytes :=
  if q.boot then some (s.bootKey c) else ((s.ctl c).key q.client q.gen s.now).map (·.key)

/-- The reply to a request (R505, R524, R525, R562 to R565). NO_REPLY holds back DONE and ACCEPTED, and a request whose key has been erased gets none. -/
def State.reply (s : State) (c : Ctl) (q : Request) (opcode status : Nat) (time : UnitTime) (params : Bytes) : State :=
  match s.replyKey c q with
  | none => s
  | some key =>
  if q.noReply ∧ (status = 0 ∨ status = 1) then s
  else
    let flags := 1 ||| (b2n (opcode = 0x0102) <<< 1) ||| (b2n q.retrans <<< 3)
    let p := mkPacket key flags q.client q.gen q.seq (opcode ||| 0x8000) status time params
    let o : Sent := .reply c q.via q.src (q.toUnit && (s.ctl c).role = .active) p
    match q.via with
    | .bus b => s.sendOn c b q.src.ip (40 + params.length) o
    | .x50 => s.emit o

/-- Parameters of an error reply other than BUSY and NOT_ACTIVE (R567). -/
def errParams (off chan detail : Nat) : Bytes := be 2 off ++ be 1 chan ++ be 1 detail

/-! Commit and release. -/

/-- What the reply to a completed journaled request holds beyond the present state: filled in by Machine/Replies.lean through the
opcode. -/
abbrev ReplyOf := State → Ctl → Request → WinEntry → Bytes

/-- The window entry of a slot's request. -/
def Ctlr.entryOf (x : Ctlr) (j : JSlot) : WinEntry :=
  (((x.mram.client (clientOf j.client)).win.find? fun e => e.seq = j.seq)).getD
    { seq := j.seq, st := .complete, status := 0, opcode := j.opcode, jour := true, time := j.commitAt, digest := 0 }

/-- A host turns a shed channel on while an overload persists: shedding resumes 1 s later (R146). -/
def State.noteShed (s : State) (c : Ctl) (l : List Change) : State :=
  let m := (s.ctl c).mram
  let back := l.any fun ch => match ch with
    | .level k lvl true => (m.hosts[k]).shed && lvl.isOn
    | _ => false
  let above := s.cool.unitOver.isSome || s.cool.feedOver.toList.any (·.isSome)
  if (s.ctl c).role = .active ∧ back ∧ above then s.modCool fun x => { x with shedResume := some (s.now + sec) } else s

/-- A pair or a speed input whose items differ between two configurations (R402, R471). -/
def itemsDiffer (a b : Items) (ids : List Nat) (ix : Nat) : Bool := ids.any fun id => a.val id ix ≠ b.val id ix

/-- A speed input that restarts in IDLE (R471); its edges and its TACH_LOST alarm stay (R478). -/
def Tach.restart (x : Tach) (now : Instant) : Tach :=
  { x with st := .idle, spinAt := now, lowSince := none, goodSince := none, sigSum := 0, sigCnt := 0 }

/-- What a commit of the ACTIVE controller restarts: an input whose binding or thresholds change is IDLE (R471), and a pair whose
TWIN changes starts afresh (R386). -/
def State.noteConfig (s : State) (c : Ctl) (l : List Change) : State :=
  let old := (s.ctl c).mram.items
  l.foldl (fun s ch => match ch with
    | .config new _ _ =>
      if (s.ctl c).role = .active then
        let s := overList allQuads (fun q s =>
          if itemsDiffer old new [0x0401, 0x0403, 0x0405, 0x0406] (q.val + 1) then s.modTach q (·.restart s.now) else s) s
        overList allPairs (fun p s => if itemsDiffer old new [0x0201] (p.val + 1) then s.setTwin p {} else s) s
      else s
    | _ => s) s

/-- The records of a transaction given their indices at commit (R802, R806), and the entry of a LOG_MARK the index of its record (R812). -/
def numberRecords : Nat → Nat → List Change → List Change
  | _, _, [] => []
  | next, last, ch :: l =>
    match ch with
    | .record r => .record { r with index := next } :: numberRecords (nextIndex next) next l
    | .entry cl e => .entry cl (if e.opcode = 0x0503 then { e with mark := last } else e) :: numberRecords next last l
    | ch => ch :: numberRecords next last l

/-- The commit of a prepared transaction at the ACTIVE controller (R860, R862). -/
def State.commitTx (s : State) (c : Ctl) (jsn : Nat) (noMirror : Bool) : State :=
  match (s.ctl c).mram.slot jsn with
  | none => s
  | some j =>
    if j.st ≠ .prepared then s
    else
      let now := s.utime c
      let j := { j with changes := numberRecords (s.ctl c).mram.log.next 0 j.changes }
      ((s.noteShed c j.commits).noteConfig c j.commits).modMram c fun m =>
        let m := m.modSlot jsn fun y => { y with changes := j.changes, st := .committed, commitAt := now, noMirror := noMirror }
        { m.applyAll now j.kind j.commits with last := jsn }

/-- One change as the standby makes it: a record takes the index that the ACTIVE controller gave it. -/
def Mram.applyMirror (m : Mram) (now : UnitTime) (kind : Nat) (ch : Change) (at_ : Instant) : Mram :=
  match ch with
  | .record r => { m with log := m.log.mirror r at_ }
  | ch => m.apply now kind ch

/-- The commit of a transaction at the standby, from the ACTIVE controller's COMMIT (R860). -/
def State.mirrorTx (s : State) (c : Ctl) (jsn : Nat) : State :=
  match (s.ctl c).mram.slot jsn, (s.ctl c.other).mram.slot jsn with
  | some j, some a =>
    if j.st ≠ .prepared then s
    else s.modMram c fun m =>
      let m := m.modSlot jsn fun y => { y with changes := a.changes, st := .committed, commitAt := a.commitAt, noMirror := a.noMirror }
      { a.commits.foldl (fun acc ch => acc.applyMirror a.commitAt a.kind ch s.now) m with last := jsn }
  | _, _ => s

/-- One change of the released image (R861, R866). -/
def Setpoint.change (x : Setpoint) : Change → Setpoint
  | .level _ l cmd => { x with level := l, cmds := if cmd then x.cmds + 1 else x.cmds }
  | .pwm _ p => { x with pwm := p, sets := x.sets + 1 }
  | _ => x

/-- The channel that a change of the image concerns. -/
def Change.chan : Change → Option Ch
  | .level c _ _ => some c
  | .pwm c _ => some c
  | _ => none

/-- A 32-bit sequence number is not older than another, by serial-number arithmetic (R857). -/
def notOlder (n old : Nat) : Bool := (n + 2 ^ 32 - old % 2 ^ 32) % 2 ^ 32 < 2 ^ 31

/-- The changes of a transaction taken into the image of its controller, with the newest JSN it reflects (R866, R868). -/
def Ctlr.imageOf (x : Ctlr) (jsn : Nat) (l : List Change) : Ctlr :=
  let img := l.foldl (fun acc ch => match ch.chan with
    | some c => modV acc c fun sp => sp.change ch
    | none => acc) x.image
  { x with image := img, imgJsn := if notOlder jsn x.imgJsn then jsn % 2 ^ 32 else x.imgJsn }

/-- A plug of this unit as a controller knows it: valid, not blank, and of the serial number that its identity copy holds (R168, R956). -/
def State.ownPlug (s : State) (c : Ctl) : Option Plug :=
  s.plug.filter fun p => p.ok && !p.blank && ((s.ctl c).mram.ident).all (·.serial = p.serial)

/-- The code plug written with new contents, where one is fitted that can be written (R597, R611, R956). -/
def State.writePlug (s : State) (f : Plug → Plug) : Bool × State :=
  match s.ownPlug s.lead with
  | some p => (true, { s with plug := some (f p) })
  | none => (false, s)

/-- Addresses of a port put into plug contents (R597). -/
def Plug.setAddr (p : Plug) (port : Bus) (a : PortAddr) : Plug :=
  match port with
  | .a => { p with addrA := a }
  | .b => { p with addrB := a }

/-- The window is enabled in the configuration in force. -/
def Exp.winEn (x : Exp) : Bool := x.items.val 0x0904 0 = 1

/-- EXP_SEL_MODE is DECODED. -/
def Exp.decoded (x : Exp) : Bool := x.items.val 0x0901 0 = 1

/-- The expansion items of a configuration. -/
def expItems (l : Items) : Items := l.filter fun i => i.id ≥ 0x0901

/-- The committed items come into force (R687), and the window device is probed (R702). -/
def Exp.adopt (x : Exp) (l : Items) : Exp :=
  let y := { x with items := expItems l }
  { y with probe := y.winEn, newCfg := false, da := if y.decoded then x.da else 7 }

/-- FOREIGN ends with a configuration committed or pulled (R193). -/
def State.endForeign (s : State) (c : Ctl) : State :=
  (s.modMram c fun m => { m with foreign := false }).alarm c 0x0009 c.code false c.code 1 0

/-- The hash of the configuration in force written to the code plug (R611); CODEPLUG_STALE stands while it could not be. -/
def State.plugHash (s : State) (c : Ctl) (hash : Bytes) : State :=
  let (ok, s) := s.writePlug fun p => { p with hash := hash }
  s.alarm c 0x0A05 0 (!ok) c.code 0 0

/-- What a released change does beyond the mirrored state (R861): loop commands, code plug writes, cartridge writes, acts carried
by the next frames; a withdrawn transaction stands armed nowhere (R561: DEDUCED, log entry 77). A controller in HOLD with cause NO_CONFIG that commits
a configuration returns to ELECTING (R174). -/
def State.releaseChange (s : State) (c : Ctl) : Change → State
  | .loop q _ => s.modLoop q fun l => { l with hostAt := s.now, hostOld := false }
  | .act ch code => s.modCtl c fun x => { x with acts := modV x.acts (slotOf ch) fun l => l ++ [((posOf ch).val, code)] }
  | .address port a =>
    let (_, s) := s.writePlug fun p => p.setAddr port a
    let due := fun (x : Ctlr) => { x with addrDue := x.addrDue ++ [(port, a, s.now + sec)],
                                          mram := { x.mram with ident := x.mram.ident.map fun p => p.setAddr port a } }
    let s := s.modCtl c due
    if s.paired then s.modCtl c.other due else s
  | .config _ _ hash =>
    let s := (s.endForeign c).plugHash c hash
    let s := s.modCtl c fun x => 
      if x.exp.queue.isEmpty ∧ x.exp.drive then x.modExp fun e => e.adopt x.mram.items else x.modExp fun e => { e with newCfg := e.drive }
    let s := s.setBias
    let s := overList allSlots (fun k s => if s.holds c k then s.writeCart c k else s) s
    if (s.ctl c).role = .hold ∧ (s.ctl c).cause = 1 then s.setRole c .electing 0 0 0x01 else s
  | .coneClear => s.alarm c 0x0506 0 false c.code 1 0
  | .keys cl _ => s.alarm c 0x0903 cl.val false c.code 1 0
  | .withdraw jsn _ => overList allSlots (fun k s => s.modCart k fun x => { x with armed := x.armed.filter fun e => e.jsn ≠ jsn % 2 ^ 32 }) s
  | _ => s

/-- The entry of a slot's request, completed at every controller that mirrors it (R540). -/
def State.closeEntry (s : State) (c : Ctl) (j : JSlot) (status detail chan : Nat) (time : UnitTime) : State :=
  let close := fun (m : Mram) => m.modClient (clientOf j.client) fun x => { x with win := x.win.map fun e =>
    if e.seq = j.seq then { e with st := .complete, status := status, detail := detail, chan := chan, time := time } else e }
  if j.client < 16 then
    let s := s.modMram c close
    if (s.ctl c.other).standby ∧ s.linkUp then s.modMram c.other close else s
  else s

/-- The reply a slot owes, with the status that its entry holds. -/
def State.answerTx (s : State) (c : Ctl) (rep : ReplyOf) (j : JSlot) : State :=
  let e := (s.ctl c).entryOf j
  let s := match j.req with
    | some q => if j.replied then s
      else s.reply c q j.opcode e.status e.time (if e.status ≤ 1 then rep s c q e else errParams e.off e.chan e.detail)
    | none => s
  s.modMram c fun m => m.modSlot j.jsn fun j => { j with replied := true }

/-- The completion of a request (R550, R564): its entry's execution time, and its reply. SET_ADDRESS without a plug that can be
written completes with HW_FAULT CODEPLUG (R597). -/
def State.completeTx (s : State) (c : Ctl) (rep : ReplyOf) (jsn : Nat) (time : UnitTime) : State :=
  match (s.ctl c).mram.slot jsn with
  | none => s
  | some j =>
    let noPlug := j.opcode = 0x0003 ∧ ¬(s.writePlug id).1
    let s := s.closeEntry c j (if noPlug then 0x0501 else 0) (if noPlug then 31 else 0) 0 time
    s.answerTx c rep j

/-- The release of a committed transaction (R861): its effects, the reply of a scheduled one (ACCEPTED with T), and the completion and
the end of one that acts on no cartridge (R565, R865). A role swap waits for its HANDOFF (R886). -/
def State.releaseTx (s : State) (c : Ctl) (rep : ReplyOf) (jsn : Nat) : State :=
  match (s.ctl c).mram.slot jsn with
  | none => s
  | some j =>
    if j.st ≠ .committed ∨ j.released then s
    else
      let s := s.modCtl c fun x => x.modMram fun m => m.modSlot jsn fun j => { j with released := true }
      let s := if j.commits.any (fun ch => ch.chan.isSome) ∨ (maskAny j.mask ∧ ¬j.sched)
        then s.modCtl c fun x => x.imageOf jsn j.commits else s
      let s := j.commits.foldl (fun acc ch => acc.releaseChange c ch) s
      if j.sched then
        (s.alarm c 0x0906 j.client false c.code 1 0).answerTx c rep j
      else if maskAny j.mask ∨ j.kind = 6 then s
      else (s.completeTx c rep jsn j.commitAt).modMram c fun m => m.freeSlot jsn

/-- A transaction prepared by the ACTIVE controller (R860, R862): with a synced standby its PREPARE goes to it; otherwise it is committed
and released at once, without mirror. -/
def State.prepareTx (s : State) (c : Ctl) (rep : ReplyOf) (j : JSlot) : State :=
  let n := (s.ctl c).mram.jsn
  let s := s.modMram c fun m =>
    { m with jsn := n + 1, slots := m.slots ++ [{ j with jsn := n, st := .prepared, prepAt := s.now }] }
  if s.paired then s else (s.commitTx c n true).releaseTx c rep n

/-- The transaction as the standby holds it: nothing is owed to a client, and nothing is released (R860). -/
def JSlot.mirrored (j : JSlot) : JSlot := { j with req := none, replied := true }

/-- The end of a scheduled transaction at T (R554 to R556): its waiting changes are made at each controller that holds it. -/
def State.takeTx (s : State) (c : Ctl) (jsn : Nat) : State :=
  match (s.ctl c).mram.slot jsn with
  | none => s
  | some j =>
    if j.taken ∨ j.st ≠ .committed then s
    else
      let s := (s.noteShed c j.later).modCtl c fun x =>
        (x.imageOf jsn j.later).modMram fun m =>
          (m.applyAll (s.utime c) j.kind j.later).modSlot jsn fun j => { j with taken := true }
      j.later.foldl (fun acc ch => acc.releaseChange c ch) s

/-- The same made at the standby's copy, which releases nothing. -/
def State.takeMirror (s : State) (c : Ctl) (jsn : Nat) : State :=
  match (s.ctl c).mram.slot jsn with
  | none => s
  | some j =>
    if j.taken then s
    else s.modMram c fun m => (m.applyAll (s.utime c) j.kind j.later).modSlot jsn fun j => { j with taken := true }

end Sys2Proof.Machine
end

