-- ==== Sys2Proof/Machine/Replies.lean ====
section
/-!
DEFINITION. Machine/Replies.lean: reading the parameters of channel commands (R592, R600), and the reply parameters of the
journaled commands (R594, R600, R607, R621, R626, R631), formed from the present state (R539, R566).
-/
namespace Sys2Proof.Machine

/-- The PWM block of R592 at an offset, its reserved bits read as 0. -/
def pwmBlock (b : Bytes) (o : Nat) : PwmSet :=
  let ctl := field b (o + 20) 1
  { per := field b o 4 % 2 ^ 24, cmpa := field b (o + 4) 4 % 2 ^ 30,
    trga := field b (o + 8) 4 &&& 0xC0FFFFFF, trgb := field b (o + 12) 4 &&& 0xC0FFFFFF,
    phase := field b (o + 16) 4 % 2 ^ 24, centre := bit ctl 0, static := bit ctl 1, en := bit ctl 2 }

/-- One entry of SET_GROUP (R600): its offset, channel number, level code, and PWM block where one is present. -/
structure GroupEntry where
  /-- Offset of the entry. -/
  off   : Nat
  /-- Channel number as it stands. -/
  num   : Nat
  /-- Level code as it stands. -/
  level : Nat
  /-- PWM block, with flag [0]. -/
  pwm   : Option PwmSet

/-- The entries of a SET_GROUP. -/
def groupEntries (b : Bytes) : List GroupEntry :=
  (List.range (field b 0 1)).map fun i =>
    let o := 4 + 28 * i
    { off := o, num := field b o 1, level := field b (o + 1) 1,
      pwm := if bit (field b (o + 2) 1) 0 then some (pwmBlock b (o + 4)) else none }

/-- Each half of a twin for either of them (R392, R606), in ascending order and once. -/
def State.spread (s : State) (cs : List Ch) : List Ch :=
  allCh.filter fun c => cs.any fun d => (s.bothHalves d).contains c

/-- The channels that a channel control command names (R600), with both halves of a twin. -/
def State.named (s : State) (op : Nat) (b : Bytes) : List Ch :=
  if op = 0x0102 then s.spread ((groupEntries b).filterMap fun e => chNum e.num)
  else if op = 0x0106 ∨ op = 0x0107 then s.spread (chansIn (field b 0 2))
  else s.spread ((chNum (field b 0 1)).toList)

/-- The lease of a channel at a unit time: one that has ended protects nothing (R549, R579). -/
def Mram.lease (m : Mram) (ch : Ch) (now : UnitTime) : Option Lease := (m.leases[ch]).filter fun l => decide (now < l.stop)

/-- The mask of channels leased to a client. -/
def Mram.leased (m : Mram) (cl : Client) (now : UnitTime) : Nat :=
  maskOf 16 fun i => if h : i < 16 then (m.lease ⟨i, h⟩ now).any (·.client = cl) else false

/-- The number of staged items. -/
def Mram.staged (m : Mram) : Nat := ((m.staging).map (·.items.length)).getD 0

/-- One item record as it stands in the parameters (R593): its offset, item, index, length and value. -/
structure RawItem where
  /-- Offset of the record. -/
  off : Nat
  /-- Item ID. -/
  id  : Nat
  /-- Index. -/
  ix  : Nat
  /-- Value length. -/
  len : Nat
  /-- The value as one number. -/
  val : Nat

/-- The item records of parameters, read with `fuel` at least their number; none where the bytes do not divide into records. -/
def rawItems : Nat → Nat → Bytes → Option (List RawItem)
  | 0, _, b => if b.isEmpty then some [] else none
  | fuel + 1, off, b =>
    if b.isEmpty then some []
    else if b.length < 4 then none
    else
      let len := field b 3 1
      if b.length < 4 + len then none
      else (rawItems fuel (off + 4 + len) (b.drop (4 + len))).map fun l =>
        { off := off, id := field b 0 2, ix := field b 2 1, len := len, val := field b 4 len } :: l

/-- The records of a STAGE_CONFIG. -/
def itemsOf (b : Bytes) : Option (List RawItem) := rawItems b.length 0 b

/-- The highest cone index in a record, or 0xFFFF_FFFF when none was ever written (R622). -/
def Cone.highest (x : Cone) : Nat := if x.next = 0 then 0xFFFFFFFF else x.next - 1

/-- The reply parameters of the journaled commands, by opcode. -/
def replyParams : ReplyOf := fun s c q e =>
  let x := s.ctl c
  let m := x.mram
  let b := q.params
  match e.opcode with
  | 0x0010 => be 1 e.mark ++ zeros 3 ++
      beInt 8 ((((m.client q.client).subs.find? fun y => y.handle = e.mark).map (·.stop)).getD 0)
  | 0x0101 => x.stateList (s.named 0x0101 b)
  | 0x0102 => x.stateList (s.named 0x0102 b)
  | 0x0103 => x.stateList (s.named 0x0103 b)
  | 0x0104 => x.stateList (s.named 0x0104 b)
  | 0x0105 => x.stateList (s.named 0x0105 b)
  | 0x0106 =>
    let stop := ((s.named 0x0106 b).findSome? fun ch => (m.lease ch (s.utime c)).bind fun l =>
      if l.client = q.client then some l.stop else none).getD 0
    be 2 (m.leased q.client (s.utime c)) ++ zeros 2 ++ beInt 8 stop
  | 0x0107 => be 2 (m.leased q.client (s.utime c)) ++ zeros 2
  | 0x0108 =>
    let n : Quad := ⟨(field b 0 1 - 1) % 4, Nat.mod_lt _ (by decide)⟩
    let st := (s.loop n).stages[c.ix]
    be 1 (field b 0 1) ++ be 1 (b2n (st.compl ≠ .none)) ++ zeros 2 ++ be 4 ((m.loops[n]).getD 0) ++ be 4 (st.measAt s.now)
  | 0x0202 => be 2 ((itemsOf b).map (·.length) |>.getD 0) ++ be 2 m.staged
  | 0x0203 => be 4 m.epoch ++ m.hash
  | 0x0204 => be 2 e.mark
  | 0x0503 => be 4 e.mark
  | 0x0513 => be 2 e.mark ++ zeros 2 ++ be 4 m.cone.highest
  | 0x0702 => be 1 ((s.active.map Ctl.code).getD 0) ++ zeros 3
  | 0x0910 =>
    let t := clientOf (field b 0 1)
    let g := ((m.client t).keys.find? fun k => k.st = .next).orElse fun _ => (m.client t).current
    match g with
    | some k => be 1 t.val ++ be 1 k.gen ++ be 1 (b2n (k.st = .next)) ++ zeros 1
    | none => be 1 t.val ++ zeros 3
  | _ => []

end Sys2Proof.Machine
end

