-- ==== Sys2Proof/Machine/Session.lean ====
section
/-!
DEFINITION. Machine/Session.lean: check 7 of R509 for every opcode: which controller answers (R173, R495, R574, R957, R959), the
sequence window (R535 to R541), the checks in their order (R574), the in-flight bounds (R575, R576), and the execution of a request
(R550, R553, R562 to R567).
-/
namespace Sys2Proof.Machine

/-- A request refused: its status, and the fields of R567. -/
structure Refuse where
  /-- Status code of R574. -/
  status : Nat
  /-- Detail of R567 and R590. -/
  detail : Nat := 0
  /-- Channel concerned, 0 for none. -/
  chan   : Nat := 0
  /-- Offset of the first offending parameter byte. -/
  off    : Nat := 0xFFFF
deriving DecidableEq, Repr

/-- What the execution of a request that passed every check comes to. -/
inductive Answer where
  /-- DONE at once, with these reply parameters. -/
  | done (params : Bytes) (s : State)
  /-- Refused or failed while it ran. -/
  | err (r : Refuse) (s : State)
  /-- Answered by a later event. -/
  | later (s : State)
  /-- Answered already, or not at all. -/
  | quiet (s : State)
  /-- A transaction with these changes. -/
  | tx (j : JSlot) (s : State)

/-- A check: none when it passes. -/
abbrev Check := State → Ctl → Request → Option Refuse

/-- The check that always passes. -/
def noCheck : Check := fun _ _ _ => none

/-- One opcode: its row in Command Reference, its checks in the order of R574 beyond those of every opcode, and its execution. -/
structure Handler where
  /-- Opcode. -/
  op     : Nat
  /-- Least role: 0 MONITOR, 1 OPERATOR, 2 ENGINEER, 3 SERVICE; R543. -/
  least  : Nat
  /-- Journaled; R588. -/
  jour   : Bool := false
  /-- May carry a unit time; R589. -/
  sched  : Bool := false
  /-- Executed at its own address by a controller that is neither ACTIVE nor in HOLD; R574. -/
  own    : State → Ctl → Request → Bool := fun _ _ _ => false
  /-- Executed by a controller in HOLD; R173. -/
  hold   : Bool := false
  /-- The parameter length is the layout's; R586. -/
  len    : Bytes → Bool
  /-- DENIED, beyond the least role. -/
  denied : Check := noCheck
  /-- BAD_PARAM. -/
  param  : Check := noCheck
  /-- RANGE. -/
  range  : Check := noCheck
  /-- A bound of R575 beyond 1 and 2 that is reached: its code, and when its resource frees, where that is known. -/
  busy   : State → Ctl → Request → Option (Nat × Option UnitTime) := fun _ _ _ => none
  /-- CONFLICT and EPOCH_STALE. -/
  conflict : Check := noCheck
  /-- HW_FAULT. -/
  hw     : Check := noCheck
  /-- What a refusal leaves beside its entry and its reply. -/
  refused : State → Ctl → Request → Refuse → State := fun s _ _ _ => s
  /-- Execution. -/
  run    : State → Ctl → Request → Answer

/-- A parameter length of exactly `n`. -/
def exactly (n : Nat) (b : Bytes) : Bool := b.length = n

/-! Clients. -/

/-- Role of a client slot at a controller (R542). -/
def State.roleOf (s : State) (c : Ctl) (cl : Client) : Nat := if cl = 0 then 3 else s.itemAt c 0x0601 cl.val

/-- Channel mask of a client slot (R542). -/
def State.maskOfClient (s : State) (c : Ctl) (cl : Client) : Nat := s.itemAt c 0x0602 cl.val

/-- The controller in whose window a request that reaches `c` has its entry (R541). -/
def State.winCtl (s : State) (c : Ctl) : Ctl :=
  match s.active with
  | some a => if s.linkUp then a else c
  | none => c

/-- The digest of a request (R535). -/
def digestOf (op : Nat) (q : Request) : Nat := crc32 (be 2 op ++ be 2 q.params.length ++ beInt 8 q.time ++ q.params)

/-- A client's requests that are outstanding at a controller (R575, bound 1): journal slots, captures, expansion operations. -/
def Ctlr.outstanding (x : Ctlr) (cl : Client) : Nat :=
  (x.mram.slots.filter fun j => j.client = cl.val).length +
  (x.exp.queue.filter fun o => o.req.client = cl).length +
  (match x.gnss.snapRun with
   | some r => b2n ((r.req.map (·.client)) = some cl)
   | none => 0)

/-- Retry-after in µs (R576): until the instant where one is known, else the forecast, from 100 to 10000000. -/
def State.retryAfter (s : State) (c : Ctl) (cl : Client) (bound : Nat) (free : Option UnitTime) : Nat :=
  let us := match free with
    | some t => ((t - s.utime c) / 1000).toNat
    | none => Config.forecast bound cl s.now
  max 100 (min 10000000 us)

/-- When the earliest of some scheduled slots falls due; none where one of them is not scheduled. -/
def earliest (l : List JSlot) : Option UnitTime :=
  if l.any (fun j => !j.sched) then none
  else match l.map (·.time) with
    | [] => none
    | t :: ts => some (ts.foldl min t)

/-- The first bound reached, with the instant of its release (R575, R578, R916). -/
def State.bounded (s : State) (h : Handler) (c : Ctl) (q : Request) : Option (Nat × Option UnitTime) :=
  let x := s.ctl (s.winCtl c)
  if x.outstanding q.client ≥ 4 then
    let mine := x.mram.slots.filter fun j => j.client = q.client.val
    some (1, if mine.length = x.outstanding q.client then earliest mine else none)
  else if h.jour ∧ x.mram.slots.length ≥ 32 then some (2, earliest x.mram.slots)
  else h.busy s c q

/-! Answering. -/

/-- The recovery loader takes these opcodes (R959). -/
def recoveryOp (op : Nat) : Bool := op = 0x0901 || op = 0x0902 || op = 0x0903 || op = 0x0905

/-- The controller answers Syaskeg requests where this one came (R173, R193, R495, R957, R959). -/
def State.answers (s : State) (op : Nat) (q : Request) : Bool :=
  let x := s.ctl q.ctl
  let here : Bool := match q.via with
    | .bus _ => true
    | .x50 => s.x50.cable && decide (s.x50.ctl = some q.ctl) && decide (s.x50.from_ ≤ s.now)
  let unit : Bool := match q.via with
    | .bus _ => q.toUnit
    | .x50 => false
  x.fitted && x.powered && here && match x.role with
    | .active => !x.mram.swapping && (!unit || x.ready)
    | .synced => !unit
    | .unsynced => !unit
    | .service => !unit
    | .hold => !unit && s.roleOf q.ctl q.client = 3 && (x.cause ≠ 3 || decide (q.via = .x50))
    | .faulted => decide (q.via = .x50) && s.s50 && recoveryOp op
    | _ => false

/-- NOT_ACTIVE: the opcode is not one that this controller executes in its role (R173, R574). -/
def State.notActive (s : State) (h : Handler) (q : Request) : Bool :=
  match (s.ctl q.ctl).role with
  | .active => false
  | .hold => !h.hold
  | .faulted => false
  | _ => !h.own s q.ctl q

/-- The window classification of a request (R536). -/
inductive Win where
  | drop | fresh | again (e : WinEntry)
deriving DecidableEq, Repr

/-- An IN_PROGRESS request of this client and sequence stands in a journal slot. -/
def Mram.working (m : Mram) (cl : Client) (seq : Nat) : Bool :=
  m.slots.any fun j => j.client = cl.val && j.seq = seq && !j.replied && j.req.isSome

/-- The entry that the transaction of a request in progress will make. -/
def Mram.entryOf (m : Mram) (cl : Client) (seq : Nat) : Option WinEntry :=
  (m.slots.find? fun j => j.client = cl.val && j.seq = seq && !j.replied && j.req.isSome).bind fun j =>
    j.changes.findSome? fun x => match x with
      | .entry _ e => some { e with st := .inProgress }
      | _ => none

/-- The classification of a request (R536). A sequence that stands in progress counts as one with an entry; at H = 2^48 − 1 nothing is new (R538). -/
def Mram.window (m : Mram) (cl : Client) (seq : Nat) (retrans : Bool) : Win :=
  let w := m.client cl
  let fresh : Win := if w.high = 2 ^ 48 - 1 then .drop else .fresh
  if seq = 0 ∨ seq + 63 < w.high then .drop
  else if seq > w.high then fresh
  else match w.win.find? (fun e => e.seq = seq) with
    | some e => if retrans then .again (if m.working cl seq then { e with st := .inProgress } else e) else .drop
    | none => match m.entryOf cl seq with
      | some e => if retrans then .again e else .drop
      | none => fresh

/-- A request's entry in the window that it is checked against. -/
def State.enter (s : State) (c : Ctl) (cl : Client) (e : WinEntry) : State :=
  s.modMram (s.winCtl c) fun m => m.modClient cl fun x => x.putEntry e

/-- An error reply, with its entry (R537, R567). -/
def State.refuse (s : State) (h : Handler) (q : Request) (r : Refuse) : State :=
  let now := s.utime q.ctl
  let e : WinEntry := { seq := q.seq, st := .complete, status := r.status, opcode := h.op, jour := h.jour, time := now,
                        digest := digestOf h.op q, detail := r.detail, chan := r.chan, off := r.off }
  ((h.refused s q.ctl q r).enter q.ctl q.client e).reply q.ctl q h.op r.status now (errParams r.off r.chan r.detail)

/-- BUSY, which leaves no entry (R537, R567). -/
def State.sayBusy (s : State) (op : Nat) (q : Request) (b : Nat × Option UnitTime) : State :=
  s.reply q.ctl q op 0x0101 (s.utime q.ctl) (be 4 (s.retryAfter q.ctl q.client b.1 b.2) ++ be 1 b.1 ++ zeros 3)

/-- NOT_ACTIVE, which leaves no entry (R537, R567). -/
def State.sayNotActive (s : State) (op : Nat) (q : Request) : State :=
  s.reply q.ctl q op 0x0102 (s.utime q.ctl)
    (be 1 (s.ctl q.ctl).role.code ++ be 1 ((s.active.map Ctl.code).getD 0) ++ zeros 2)

/-! The checks of every opcode. -/

/-- Below the least role (R543). -/
def Handler.deniedAt (h : Handler) : Check := fun s c q =>
  if s.roleOf c q.client < h.least then some { status := 0x0201 } else h.denied s c q

/-- GROUP on exactly SET_GROUP (R524), a unit time only where it is permitted (R589), and the length of the layout (R586). -/
def Handler.paramAt (h : Handler) : Check := fun s c q =>
  if (h.op = 0x0102) ≠ (q.group = true) then some { status := 0x0302 }
  else if q.time ≠ 0 ∧ ¬h.sched then some { status := 0x0302, detail := 33 }
  else if ¬h.len q.params then some { status := 0x0302 }
  else h.param s c q

/-- T from 2 ms to 86400 s after arrival (R552). -/
def Handler.rangeAt (h : Handler) : Check := fun s c q =>
  let lead := q.time - s.utime c
  if h.sched ∧ q.time ≠ 0 ∧ (lead < 2 * msec ∨ lead > 86400 * sec) then some { status := 0x0303 }
  else h.range s c q

/-- No schedule while unit time is UNSET (R552). -/
def Handler.conflictAt (h : Handler) : Check := fun s c q =>
  if h.sched ∧ q.time ≠ 0 ∧ (s.ctl c).time.st = .unset then some { status := 0x0401, detail := 16 } else h.conflict s c q

/-- The first of some checks that fails. -/
def firstOf (l : List Check) : Check := fun s c q => l.findSome? fun f => f s c q

/-- A new request: the checks in the order of R574, then execution. -/
def State.fresh (s : State) (h : Handler) (q : Request) : State :=
  let c := q.ctl
  if s.notActive h q then s.sayNotActive h.op q
  else match firstOf [h.deniedAt, h.paramAt, h.rangeAt] s c q with
    | some r => s.refuse h q r
    | none =>
      match s.bounded h c q with
      | some b => s.sayBusy h.op q b
      | none =>
        match firstOf [h.conflictAt, h.hw] s c q with
        | some r => s.refuse h q r
        | none =>
          let now := s.utime c
          let e : WinEntry := { seq := q.seq, st := .complete, status := 0, opcode := h.op, jour := h.jour, time := now,
                                digest := digestOf h.op q }
          match h.run s c q with
          | .done p s' => (s'.enter c q.client e).reply c q h.op 0 now p
          | .err r s' => s'.refuse h q r
          | .later s' => s'.enter c q.client { e with st := .inProgress }
          | .quiet s' => s'
          | .tx j s' =>
            let e := { e with mark := j.seq }
            let e := if q.time ≠ 0 then { e with st := .scheduled, status := 1, time := q.time } else e
            s'.prepareTx c replyParams { j with
              client := q.client.val, seq := q.seq, opcode := h.op, time := q.time, sched := q.time ≠ 0, req := some q
              changes := j.changes ++ [.entry q.client e] }

/-- A retransmission is answered from its entry (R539). -/
def State.again (s : State) (h : Handler) (q : Request) (e : WinEntry) : State :=
  let c := q.ctl
  if e.digest ≠ digestOf h.op q then s.reply c q h.op 0x0401 (s.utime c) (errParams 0xFFFF 0 3)
  else match e.st with
    | .inProgress => s
    | .scheduled => s.reply c q h.op 1 e.time (replyParams s c q e)
    | .complete =>
      if e.jour then
        s.reply c q h.op e.status e.time (if e.status ≤ 1 then replyParams s c q e else errParams e.off e.chan e.detail)
      else s.fresh h q

/-- A request that was answered later is COMPLETE, and its reply is sent (R537, R562, R565). -/
def State.answerLater (s : State) (c : Ctl) (q : Request) (op status : Nat) (time : UnitTime) (params : Bytes) (detail : Nat := 0) : State :=
  let s := s.modMram (s.winCtl c) fun m => m.modClient q.client fun x => { x with win := x.win.map fun e =>
    if e.seq = q.seq then { e with st := .complete, status := status, detail := detail, time := time } else e }
  s.reply c q op status time params

/-- The first use of a NEXT generation: it becomes CURRENT, and CURRENT becomes RETIRING, to be erased 10 s later (R530). -/
def ClientSt.useKey (x : ClientSt) (gen : Nat) (now : Instant) : ClientSt :=
  if x.keys.any (fun k => k.gen = gen && k.st = .next) then
    { x with keys := x.keys.map fun k =>
        if k.gen = gen then { k with st := .current }
        else if k.st = .current then { k with st := .retiring, erase := now + 10 * sec } else k }
  else x

/-- The same at every controller that mirrors the keys. -/
def State.useKey (s : State) (c : Ctl) (cl : Client) (gen : Nat) : State :=
  let f := fun (m : Mram) => m.modClient cl fun x => x.useKey gen s.now
  let s := s.modMram c f
  if s.linkUp then s.modMram c.other f else s

/-- A request at check 7: its key generation counts as used, it is classified, and it is executed, answered or dropped. -/
def State.perform (s : State) (h : Handler) (q : Request) : State :=
  if s.answers h.op q then
    let s := s.useKey q.ctl q.client q.gen
    match (s.ctl (s.winCtl q.ctl)).mram.window q.client q.seq q.retrans with
    | .drop => s
    | .again e => s.again h q e
    | .fresh =>
      (s.modMram (s.winCtl q.ctl) fun m => m.modClient q.client fun x => x.raise q.seq).fresh h q
  else s

/-- An opcode that is not defined (R574). -/
def State.badOpcode (s : State) (op : Nat) (q : Request) : State :=
  if s.answers op q then
    let s := s.useKey q.ctl q.client q.gen
    let refuse := fun (s : State) => s.refuse { op := op, least := 0, len := fun _ => true, run := fun s _ _ => .quiet s } q { status := 0x0301 }
    match (s.ctl (s.winCtl q.ctl)).mram.window q.client q.seq q.retrans with
    | .drop => s
    | .again e =>
      if e.digest ≠ digestOf op q then s.reply q.ctl q op 0x0401 (s.utime q.ctl) (errParams 0xFFFF 0 3) else refuse s
    | .fresh => refuse (s.modMram (s.winCtl q.ctl) fun m => m.modClient q.client fun x => x.raise q.seq)
  else s

end Sys2Proof.Machine
end

