-- ==== Sys2Proof/Machine/SessionCmds.lean ====
section
/-!
DEFINITION. Machine/SessionCmds.lean: the session, identity and subscription group, opcodes 0x00xx (R594 to R599).
-/
namespace Sys2Proof.Machine

/-- The opcodes of R574 that a controller which is not ACTIVE executes at its own address. -/
def always (_ : State) (_ : Ctl) (_ : Request) : Bool := true

/-! PING. -/

def hPing : Handler := {
  op := 0x0000, least := 0, own := always, hold := true, len := exactly 0
  run := fun s _ _ => .done [] s }

/-- PING (R594). -/
def execPing (t : Instant) (q : Request) (s : State) : Result := run t (fun s => s.perform hPing q) s

/-! IDENTIFY. -/

/-- The contents that name the unit, as a controller reads them: the code plug's, or its identity copy's (R168, R956). -/
def State.identOf (s : State) (c : Ctl) : Option Plug := (s.ownPlug c).orElse fun _ => (s.ctl c).mram.ident

/-- A part entry of R595: an issue and a serial number that cannot be read are 0x00 and spaces. -/
def partEntry (code : Nat) (present readable : Bool) (issue : Nat) (serial : Bytes) : Bytes :=
  be 1 code ++ be 1 (b2n present) ++ be 1 (if readable then issue else 0) ++ zeros 1 ++
  (if readable then padTo 12 serial else spaces12)

/-- The twelve part entries of R595. What a controller can read of a part is left open by R2: the peer while the pair link is up, a cartridge that is not
DARK, and the parts of the unit itself always (DESIGN CHOICE, log entry 70). -/
def State.parts (s : State) (c : Ctl) : Bytes :=
  let ctlEntry := fun (code : Nat) (k : Ctl) =>
    let x := s.ctl k
    partEntry code x.fitted (x.fitted && (k = c || s.linkUp)) x.issue x.serial
  let own := fun (code : Nat) (present : Bool) =>
    partEntry code present present (Config.partIssue code) (Config.partSerial code)
  (match s.plug with
   | some p => partEntry 1 true true p.issue p.carrier ++ own 2 true
   | none => partEntry 1 true false 0 [] ++ own 2 false) ++
  ctlEntry 3 .a ++ ctlEntry 4 .b ++
  (allSlots.flatMap fun k =>
    let x := s.cart k
    partEntry (5 + k.val) x.seated (x.seated && x.band ≠ .dark) x.issue x.serial) ++
  own 9 s.cool.tray ++ own 10 s.ant.card ++
  own 11 (s.ctlA.fitted && s.ctlA.sup.cell ≠ .absent) ++ own 12 (s.ctlB.fitted && s.ctlB.sup.cell ≠ .absent)

/-- The identity record of R595, 240 bytes. -/
def State.identity (s : State) (c : Ctl) : Bytes :=
  let x := s.ctl c
  padTo 12 (((s.identOf c).map (·.serial)).getD spaces12) ++ be 1 c.code ++ be 1 x.role.code ++
  be 2 x.line ++ be 2 x.minor ++ be 2 x.schema ++ be 4 x.build ++ be 4 x.mram.epoch ++ padTo 16 x.mram.hash ++
  be 1 s.unitMode.code ++ zeros 3 ++ s.parts c

def hIdentify : Handler := {
  op := 0x0001, least := 0, own := always, hold := true, len := exactly 0
  run := fun s c _ => .done (s.identity c) s }

/-- IDENTIFY (R595). -/
def execIdentify (t : Instant) (q : Request) (s : State) : Result := run t (fun s => s.perform hIdentify q) s

/-! SESSION_INFO. -/

/-- The generation in a state, or 0. -/
def ClientSt.genIn (x : ClientSt) (st : KeyState) : Nat := ((x.keys.find? fun k => k.st = st).map (·.gen)).getD 0

/-- The reply of R594, 24 bytes. -/
def State.sessionInfo (s : State) (c : Ctl) (cl : Client) : Bytes :=
  let m := (s.ctl (s.winCtl c)).mram
  let x := m.client cl
  be 1 (s.roleOf c cl) ++ zeros 1 ++ be 2 (s.maskOfClient c cl) ++ be 1 (x.genIn .current) ++ be 1 (x.genIn .next) ++
  be 1 (x.genIn .retiring) ++ be 1 ((s.ctl (s.winCtl c)).outstanding cl) ++ be 6 x.high ++ be 2 (m.leased cl (s.utime c)) ++
  be 6 (x.repSeq - 1) ++ zeros 2

def hSessionInfo : Handler := {
  op := 0x0002, least := 0, own := always, hold := true, len := exactly 0
  run := fun s c q => .done (s.sessionInfo c q.client) s }

/-- SESSION_INFO (R594). -/
def execSessionInfo (t : Instant) (q : Request) (s : State) : Result := run t (fun s => s.perform hSessionInfo q) s

/-! SET_ADDRESS. -/

/-- The addresses that the parameters give. -/
def addrOf (b : Bytes) : PortAddr :=
  { unit := field b 4 4, ctrlA := field b 8 4, ctrlB := field b 12 4, mask := field b 16 4, gateway := field b 20 4 }

/-- The netmask has a prefix length from 8 to 30 (R492). -/
def maskOk (m : Nat) : Bool := (List.range 23).any fun i => m = 2 ^ 32 - 2 ^ (32 - (8 + i))

/-- Two addresses lie in one subnet. -/
def sameNet (mask a b : Nat) : Bool := a &&& mask = b &&& mask

/-- R493 for one port, and the other port in a different subnet. -/
def addrsOk (a other : PortAddr) : Bool :=
  maskOk a.mask && sameNet a.mask a.unit a.ctrlA && sameNet a.mask a.unit a.ctrlB &&
  a.unit ≠ a.ctrlA && a.unit ≠ a.ctrlB && a.ctrlA ≠ a.ctrlB &&
  !sameNet (a.mask &&& other.mask) a.unit other.unit

/-- The addresses of the other port, as held. -/
def State.otherAddr (s : State) (c : Ctl) (port : Nat) : PortAddr :=
  match s.identOf c with
  | some p => if port = 1 then p.addrB else p.addrA
  | none => if port = 1 then ({} : Plug).addrB else ({} : Plug).addrA

/-- A log record of a journaled command with the standard body and its client (R801, R806). -/
def State.cmdRecord (s : State) (c : Ctl) (code object : Nat) (old new : Int) (cl : Client) : LogRec :=
  s.record c code 0 c.code object (stdBody old new 0 0 0 spaces12 cl.val)

def hSetAddress : Handler := {
  op := 0x0003, least := 3, jour := true, hold := true, len := exactly 24
  range := fun s c q =>
    let port := field q.params 0 1
    if port ≠ 1 ∧ port ≠ 2 then some { status := 0x0303, off := 0 }
    else if addrsOk (addrOf q.params) (s.otherAddr c port) then none else some { status := 0x0303, off := 4 }
  run := fun s c q =>
    let port := field q.params 0 1
    .tx { changes := [.address (if port = 1 then .a else .b) (addrOf q.params),
                      .record (s.cmdRecord c 0x0A04 port 0 (addrOf q.params).unit q.client)] } s }

/-- SET_ADDRESS (R597). -/
def execSetAddress (t : Instant) (q : Request) (s : State) : Result := run t (fun s => s.perform hSetAddress q) s

/-! SUBSCRIBE, UNSUBSCRIBE, LIST_SUBS. -/

/-- The period and the filter that a stream permits (R598). -/
def streamOk (stream period filter : Nat) : Bool :=
  let within (lo : Nat) := decide (lo ≤ period ∧ period ≤ 36000)
  match stream with
  | 0x00 => period = 0 && filter < 2 ^ 16
  | 0x01 => within 1 && (filter >>> 16 = 1 || filter >>> 16 = 2)
  | 0x02 => (period = 0 || within 1) && filter < 2 ^ 8
  | 0x03 => period = 0 && filter = 0
  | 0x04 => period = 0 && filter < 2 ^ 19
  | 0x05 => period = 0 && filter = 0
  | 0x06 => period = 0 && filter < 4
  | 0x07 => period = 0 && filter = 0
  | 0x08 => within 1 && filter = 0
  | 0x09 => period = 0 && filter = 0
  | 0x0A => within 10 && filter = 0
  | _ => false

/-- Offset of the field that R598 refuses. -/
def streamOff (stream period : Nat) : Nat :=
  if stream > 0x0A then 1 else if streamOk stream period (if stream = 1 then 0x10000 else 0) then 8 else 2

/-- The subscriptions of a client that have not ended at a unit time (R569). -/
def Mram.liveSubs (m : Mram) (cl : Client) (now : UnitTime) : List Sub := (m.client cl).subs.filter fun y => decide (now < y.stop)

/-- The subscriptions of the whole unit. -/
def Mram.allSubs (m : Mram) (now : UnitTime) : List Sub := allClients.flatMap fun cl => m.liveSubs cl now

/-- The earliest end among some subscriptions. -/
def earliestEnd (l : List Sub) : Option UnitTime :=
  match l.map (·.stop) with
  | [] => none
  | t :: ts => some (ts.foldl min t)

/-- The lowest free handle. -/
def freeHandle (l : List Sub) : Nat := ((List.range 8).find? fun h => !l.any (fun x => x.handle = h)).getD 0

/-- What a stream whose first report is the first one that arises has produced last (R599): the next log index, or an instant. -/
def Ctlr.streamMark (x : Ctlr) (stream : Nat) : Int :=
  let never : Int := -(2 ^ 64 : Nat)
  match stream with
  | 0x04 => x.mram.log.next
  | 0x05 => (x.time.report.map (·.edge)).getD never
  | 0x06 => x.gnss.epochAt.getD never
  | 0x07 => x.latched.getD never
  | _ => 0

def hSubscribe : Handler := {
  op := 0x0010, least := 0, jour := true, len := exactly 12
  range := fun _ _ q =>
    let b := q.params
    let h := field b 0 1
    let life := field b 4 2
    if h > 7 ∧ h ≠ 0xFF then some { status := 0x0303, off := 0 }
    else if ¬streamOk (field b 1 1) (field b 2 2) (field b 8 4) then
      some { status := 0x0303, off := streamOff (field b 1 1) (field b 2 2) }
    else if life < 5 ∨ life > 3600 then some { status := 0x0303, off := 4 }
    else none
  busy := fun s c q =>
    let m := (s.ctl c).mram
    let mine := m.liveSubs q.client (s.utime c)
    if field q.params 0 1 ≠ 0xFF then none
    else if mine.length ≥ 8 then some (3, earliestEnd mine)
    else if (m.allSubs (s.utime c)).length ≥ 32 then some (4, earliestEnd (m.allSubs (s.utime c)))
    else none
  conflict := fun s c q =>
    let h := field q.params 0 1
    if h = 0xFF ∨ ((s.ctl c).mram.liveSubs q.client (s.utime c)).any (fun x => x.handle = h) then none
    else some { status := 0x0401, detail := 24, off := 0 }
  run := fun s c q =>
    let b := q.params
    let mine := (s.ctl c).mram.liveSubs q.client (s.utime c)
    let stop : UnitTime := s.utime c + (field b 4 2 * sec : Nat)
    let h := field b 0 1
    let n := if h = 0xFF then freeHandle mine else h
    let new := if h = 0xFF then
        mine ++ [{ handle := n, stream := field b 1 1, period := field b 2 2, filter := field b 8 4, stop := stop
                   cursor := (s.ctl c).streamMark (field b 1 1) }]
      else mine.map fun x => if x.handle = h then { x with period := field b 2 2, filter := field b 8 4, stop := stop } else x
    .tx { seq := n, changes := [.subs q.client new] } s }

/-- SUBSCRIBE (R596, R598). -/
def execSubscribe (t : Instant) (q : Request) (s : State) : Result := run t (fun s => s.perform hSubscribe q) s

def hUnsubscribe : Handler := {
  op := 0x0011, least := 0, jour := true, len := exactly 4
  run := fun s c q =>
    let mine := (s.ctl c).mram.liveSubs q.client (s.utime c)
    .tx { changes := [.subs q.client (mine.filter fun x => x.handle ≠ field q.params 0 1)] } s }

/-- UNSUBSCRIBE (R596). -/
def execUnsubscribe (t : Instant) (q : Request) (s : State) : Result := run t (fun s => s.perform hUnsubscribe q) s

def hListSubs : Handler := {
  op := 0x0012, least := 0, len := exactly 0
  run := fun s c q =>
    let mine := (s.ctl c).mram.liveSubs q.client (s.utime c)
    .done (be 1 mine.length ++ zeros 3 ++ mine.flatMap fun x =>
      be 1 x.handle ++ be 1 x.stream ++ be 2 x.period ++ be 4 x.filter ++ beInt 8 x.stop) s }

/-- LIST_SUBS (R594). -/
def execListSubs (t : Instant) (q : Request) (s : State) : Result := run t (fun s => s.perform hListSubs q) s

end Sys2Proof.Machine
end

