-- ==== Sys2Proof/Machine/ChannelCmds.lean ====
section
/-!
DEFINITION. Machine/ChannelCmds.lean: the channel control group, opcodes 0x01xx (R600 to R606), with ownership (R545 to R549) and the
twin rules of commands (R392 to R394, R407).
-/
namespace Sys2Proof.Machine

/-! Checks that the group shares. -/

/-- An OPERATOR's channels lie in its mask, both halves of a twin (R544, R393). -/
def maskCheck (op : Nat) : Check := fun s c q =>
  if s.roleOf c q.client = 1 then
    ((s.named op q.params).find? fun ch => !bit (s.maskOfClient c q.client) ch.val).map fun ch => { status := 0x0201, chan := numOf ch }
  else none

/-- A channel leased to another client (R546): the lowest such channel. -/
def leaseCheck (op : Nat) : Check := fun s c q =>
  ((s.named op q.params).find? fun ch => ((s.ctl c).mram.lease ch (s.utime c)).any (·.client ≠ q.client)).map fun ch => { status := 0x0401, detail := 15, chan := numOf ch }

/-- Every channel's cartridge is claimed, of a twin one of the two (R603). -/
def cartCheck (op : Nat) : Check := fun s c q =>
  ((s.named op q.params).find? fun ch => !(s.bothHalves ch).any fun k => s.holds c (slotOf k)).map fun ch =>
    { status := 0x0501, detail := 17, chan := numOf ch }

/-- A channel number from 1 to 16 at offset 0 (R600). -/
def chanRange : Check := fun _ _ q =>
  if (chNum (field q.params 0 1)).isSome then none else some { status := 0x0303, off := 0 }

/-- The first field of a PWM block that breaks R330 for a channel, as its place in the block of R592. -/
def State.pwmBad (s : State) (c : Ctl) (ch : Ch) (p : PwmSet) : Option Nat :=
  let pos := fun (w : Nat) => !bit w 31 || w % 2 ^ 24 ≤ (if p.centre then p.per / 2 else p.per - 1)
  if p.per < 4000 ∨ p.per > 16666666 ∨ (p.centre ∧ p.per % 2 = 1) ∨ p.per < 2 * 8 * s.itemAt c 0x011A (numOf (s.itemCh ch)) then some 0
  else if ¬pos p.trga then some 8
  else if ¬pos p.trgb then some 12
  else if p.phase ≥ p.per then some 16
  else none

/-- The cartridges that a channel command acts on: those claimed. -/
def State.actsOn (s : State) (c : Ctl) (cs : List Ch) : Vector Bool 4 :=
  Vector.ofFn fun k => s.holds c k && cs.any fun ch => slotOf ch = k

/-! SET_CHANNEL. -/

def hSetChannel : Handler := {
  op := 0x0101, least := 1, jour := true, sched := true, len := exactly 4
  denied := maskCheck 0x0101
  range := fun s c q =>
    (chanRange s c q).orElse fun _ =>
      if field q.params 1 1 > 2 then some { status := 0x0303, off := 1, chan := field q.params 0 1 } else none
  conflict := leaseCheck 0x0101
  hw := cartCheck 0x0101
  run := fun s c q =>
    let cs := s.named 0x0101 q.params
    .tx { mask := s.actsOn c cs, changes := cs.map fun ch => .level ch (levelOf (field q.params 1 1)) true } s }

/-- SET_CHANNEL (R601). -/
def execSetChannel (t : Instant) (q : Request) (s : State) : Result := run t (fun s => s.perform hSetChannel q) s

/-! SET_GROUP. -/

/-- The settings that an entry gives a channel: its block, else those journaled. -/
def State.entryPwm (s : State) (c : Ctl) (ch : Ch) (e : GroupEntry) : PwmSet := e.pwm.getD ((s.ctl c).mram.hosts[ch]).pwm

/-- The first entry that repeats a channel, or names the other half of a twin with a different level or different
settings (R394, R602). -/
def State.groupClash (s : State) (c : Ctl) : List GroupEntry → List GroupEntry → Option GroupEntry
  | _, [] => none
  | seen, e :: l =>
    let bad : Bool := match chNum e.num with
      | none => false
      | some ch => seen.any fun f => match chNum f.num with
        | none => false
        | some g => g = ch || (s.isTwin ch && g = partner ch && (f.level ≠ e.level || s.entryPwm c g f ≠ s.entryPwm c ch e))
    if bad then some e else s.groupClash c (seen ++ [e]) l

/-- The first entry with a channel, a level or settings outside their range. -/
def State.groupRange (s : State) (c : Ctl) (l : List GroupEntry) : Option Refuse :=
  l.findSome? fun e => match chNum e.num with
    | none => some { status := 0x0303, off := e.off }
    | some ch =>
      if e.level > 2 then some { status := 0x0303, off := e.off + 1, chan := numOf ch }
      else match e.pwm with
        | some p => (s.pwmBad c ch p).map fun o => { status := 0x0303, off := e.off + 4 + o, chan := numOf ch }
        | none => none

/-- The changes of one entry: its settings, then its level, on both halves of a twin (R392, R602). -/
def State.groupChanges (s : State) (e : GroupEntry) : List Change :=
  match chNum e.num with
  | none => []
  | some ch =>
    let cs := s.bothHalves ch
    (match e.pwm with
     | some p => cs.map fun k => .pwm k p
     | none => []) ++ cs.map fun k => .level k (levelOf e.level) true

/-- Entries without the second mention of a twin that is already named by its other half (R394: applied once). -/
def State.groupOnce (s : State) : List Ch → List GroupEntry → List GroupEntry
  | _, [] => []
  | seen, e :: l => match chNum e.num with
    | none => e :: s.groupOnce seen l
    | some ch =>
      if s.isTwin ch ∧ seen.contains (partner ch) then s.groupOnce seen l else e :: s.groupOnce (seen ++ [ch]) l

def hSetGroup : Handler := {
  op := 0x0102, least := 1, jour := true, sched := true
  len := fun b => b.length = 4 + 28 * field b 0 1
  denied := maskCheck 0x0102
  param := fun s c q => (s.groupClash c [] (groupEntries q.params)).map fun e => { status := 0x0302, off := e.off, chan := e.num }
  range := fun s c q =>
    let n := field q.params 0 1
    if n = 0 ∨ n > 16 then some { status := 0x0303, off := 0 } else s.groupRange c (groupEntries q.params)
  conflict := leaseCheck 0x0102
  hw := cartCheck 0x0102
  run := fun s c q =>
    .tx { mask := s.actsOn c (s.named 0x0102 q.params)
          changes := (s.groupOnce [] (groupEntries q.params)).flatMap s.groupChanges } s }

/-- SET_GROUP (R559, R602). -/
def execSetGroup (t : Instant) (q : Request) (s : State) : Result := run t (fun s => s.perform hSetGroup q) s

/-! SET_PWM. -/

def hSetPwm : Handler := {
  op := 0x0103, least := 1, jour := true, sched := true, len := exactly 28
  denied := maskCheck 0x0103
  range := fun s c q =>
    match chNum (field q.params 0 1) with
    | none => some { status := 0x0303, off := 0 }
    | some ch => (s.pwmBad c ch (pwmBlock q.params 4)).map fun o => { status := 0x0303, off := 4 + o, chan := numOf ch }
  conflict := leaseCheck 0x0103
  hw := cartCheck 0x0103
  run := fun s c q =>
    let cs := s.named 0x0103 q.params
    let set := bit (field q.params 1 1) 0
    .tx { mask := s.actsOn c cs
          changes := (cs.map fun ch => .pwm ch (pwmBlock q.params 4)) ++
                     (if set then cs.map fun ch => .level ch .pwm true else []) } s }

/-- SET_PWM (R601). -/
def execSetPwm (t : Instant) (q : Request) (s : State) : Result := run t (fun s => s.perform hSetPwm q) s

/-! CLEAR_TRIP. -/

/-- The wire model state above which a clear is refused: 0.7, in units of 2^−60, ten times over (R271). -/
def clearMax : Nat := 7 * 2 ^ 60

/-- A channel that is too warm to be cleared (R271). -/
def State.cooling (s : State) (ch : Ch) : Bool :=
  let p := (s.chan ch).prot
  p.trip ≠ .none && p.tripCause ≠ 0x14 && (10 * p.x > clearMax || p.dieFwd || p.dieFw)

/-- The MID comparator of a channel locked out by STUCK_ON is watched for 10 ms (R271): whether it stays clear is a free value. -/
def State.stuckChecks (s : State) (cs : List Ch) : Bool × State :=
  cs.foldl (fun (acc : Bool × State) ch =>
    let p := (acc.2.chan ch).prot
    if p.trip ≠ .none ∧ p.tripCause = 0x14 then
      let (n, s) := acc.2.draw
      (acc.1 && n % 2 = 1, s)
    else acc) (true, s)

def hClearTrip : Handler := {
  op := 0x0104, least := 1, jour := true, len := exactly 4
  denied := fun s c q => (maskCheck 0x0104 s c q).orElse fun _ =>
    if s.roleOf c q.client = 3 then none
    else ((s.named 0x0104 q.params).find? fun ch => (s.chan ch).prot.trip ≠ .none && (s.chan ch).prot.tripCause = 0x14).map fun ch =>
      { status := 0x0201, chan := numOf ch }
  range := chanRange
  conflict := leaseCheck 0x0104
  hw := cartCheck 0x0104
  run := fun s c q =>
    let cs := s.named 0x0104 q.params
    let (clear, s) := s.stuckChecks cs
    let num := ((cs.head?).map numOf).getD 0
    if ¬clear then .err { status := 0x0501, detail := 20, chan := num } s
    else match cs.find? s.cooling with
      | some ch => .err { status := 0x0401, detail := 19, chan := numOf ch } s
      | none =>
        let tripped := cs.filter fun ch => (s.chan ch).prot.trip ≠ .none || (s.chan ch).prot.retrying
        .tx { mask := s.actsOn c tripped
              changes := tripped.map fun ch => .act ch (if (s.chan ch).prot.tripCause = 0x14 then 0xC2 else 0xC0) } s }

/-- CLEAR_TRIP (R271, R280, R407): a channel on a retry attempt is named too, since the attempt may have ended in a new trip before the command is
applied. -/
def execClearTrip (t : Instant) (q : Request) (s : State) : Result := run t (fun s => s.perform hClearTrip q) s

/-! CLEAR_GLAZE. -/

/-- The fault input that set a channel's glaze latch is asserted (R605). -/
def State.glazeHeld (s : State) (ch : Ch) : Bool :=
  let x := (s.chan ch).ctrl
  x.glaze && ((s.cart (slotOf ch)).flt[if x.glazeIn = 0 then (0 : Fin 2) else 1]).asserted

def hClearGlaze : Handler := {
  op := 0x0105, least := 1, jour := true, len := exactly 4
  denied := maskCheck 0x0105
  range := chanRange
  conflict := fun s c q => (leaseCheck 0x0105 s c q).orElse fun _ =>
    ((s.named 0x0105 q.params).find? s.glazeHeld).map fun ch => { status := 0x0401, detail := 21, chan := numOf ch }
  hw := cartCheck 0x0105
  run := fun s c q =>
    let cs := (s.named 0x0105 q.params).filter fun ch => (s.chan ch).ctrl.glaze
    .tx { mask := s.actsOn c cs, changes := cs.map fun ch => .act ch 0xC1 } s }

/-- CLEAR_GLAZE (R605, R844). -/
def execClearGlaze (t : Instant) (q : Request) (s : State) : Result := run t (fun s => s.perform hClearGlaze q) s

/-! OWN and RELEASE. -/

/-- The channels that a pending scheduled transaction names. -/
def JSlot.pendingOn (j : JSlot) : List Ch := if j.taken then [] else j.later.filterMap Change.chan

/-- Other clients' pending scheduled transactions that name any of some channels. -/
def Mram.rivals (m : Mram) (cl : Client) (cs : List Ch) : List JSlot :=
  m.slots.filter fun j => j.sched && j.client ≠ cl.val && j.pendingOn.any fun ch => cs.contains ch

/-- Other clients that hold leases on any of some channels. -/
def Mram.holders (m : Mram) (cl : Client) (cs : List Ch) (now : UnitTime) : List Client :=
  allClients.filter fun k => k ≠ cl && cs.any fun ch => (m.lease ch now).any (·.client = k)

/-- The clients that an OWN with TAKEOVER takes something from (R548): holders of leases, and clients with pending scheduled requests. -/
def Mram.displaced (m : Mram) (cl : Client) (cs : List Ch) (now : UnitTime) : List Client :=
  allClients.filter fun k => (m.holders cl cs now).contains k || (m.rivals cl cs).any fun j => j.client = k.val

/-- A channel is leased to another client, whom a TAKEOVER does not outrank (R548). -/
def State.leasedAway (s : State) (c : Ctl) (cl : Client) (takeover : Bool) (ch : Ch) : Bool :=
  match (s.ctl c).mram.lease ch (s.utime c) with
  | some l => decide (l.client ≠ cl) && (!takeover || decide (s.roleOf c cl ≤ s.roleOf c l.client))
  | none => false

def hOwn : Handler := {
  op := 0x0106, least := 1, jour := true, len := exactly 8
  denied := maskCheck 0x0106
  range := fun _ _ q =>
    let life := field q.params 2 2
    if field q.params 0 2 = 0 then some { status := 0x0303, off := 0 }
    else if life < 1 ∨ life > 600 then some { status := 0x0303, off := 2 }
    else none
  conflict := fun s c q =>
    let m := (s.ctl c).mram
    let above := bit (field q.params 4 1) 0
    (s.named 0x0106 q.params).findSome? fun ch =>
      if s.leasedAway c q.client above ch then some { status := 0x0401, detail := 15, chan := numOf ch }
      else if ¬above ∧ ¬(m.rivals q.client [ch]).isEmpty then some { status := 0x0401, chan := numOf ch }
      else none
  run := fun s c q =>
    let m := (s.ctl c).mram
    let cs := s.named 0x0106 q.params
    let stop : UnitTime := s.utime c + (field q.params 2 2 * sec : Nat)
    let taken := (m.displaced q.client cs (s.utime c)).map fun k =>
      Change.record (s.cmdRecord c 0x0905 (((cs.head?).map numOf).getD 0) k.val q.client.val q.client)
    .tx { changes := (cs.map fun ch => .lease ch (some { client := q.client, stop := stop })) ++
                     ((m.rivals q.client cs).map fun j => .withdraw j.jsn 1) ++ taken } s }

/-- OWN (R547, R548). -/
def execOwn (t : Instant) (q : Request) (s : State) : Result := run t (fun s => s.perform hOwn q) s

def hRelease : Handler := {
  op := 0x0107, least := 1, jour := true, len := exactly 4
  denied := maskCheck 0x0107
  range := fun _ _ q => if field q.params 0 2 = 0 then some { status := 0x0303, off := 0 } else none
  run := fun s c q =>
    let m := (s.ctl c).mram
    let cs := (s.named 0x0107 q.params).filter fun ch => (m.lease ch (s.utime c)).any (·.client = q.client)
    .tx { changes := cs.map fun ch => .lease ch none } s }

/-- RELEASE (R606). -/
def execRelease (t : Instant) (q : Request) (s : State) : Result := run t (fun s => s.perform hRelease q) s

/-! SET_LOOP. -/

/-- The loop output with a number from 1 to 4. -/
def quadNum (n : Nat) : Option Quad := if h : 1 ≤ n ∧ n ≤ 4 then some ⟨n - 1, by omega⟩ else none

def hSetLoop : Handler := {
  op := 0x0108, least := 2, jour := true, sched := true, len := exactly 8
  range := fun _ _ q =>
    let ua := field q.params 4 4
    if (quadNum (field q.params 0 1)).isNone then some { status := 0x0303, off := 0 }
    else if ua < 3500 ∨ ua > 21500 then some { status := 0x0303, off := 4 }
    else none
  conflict := fun s c q => if s.itemAt c 0x0301 (field q.params 0 1) = 9 then none else some { status := 0x0401 }
  run := fun s _ q =>
    match quadNum (field q.params 0 1) with
    | some n => .tx { changes := [.loop n (field q.params 4 4)] } s
    | none => .quiet s }

/-- SET_LOOP (R464). -/
def execSetLoop (t : Instant) (q : Request) (s : State) : Result := run t (fun s => s.perform hSetLoop q) s

end Sys2Proof.Machine
end

