-- ==== Sys2Proof/Machine/ConfigCmds.lean ====
section
/-!
DEFINITION. Machine/ConfigCmds.lean: the configuration group, opcodes 0x02xx (R607 to R613, R637, R896, R967).
-/
namespace Sys2Proof.Machine

/-! GET_CONFIG. -/

/-- Item records from a cursor, at most `room` bytes, and the key of the first record that does not fit (R612). -/
def packItems (l : Items) : Nat → List (Nat × Nat × Nat) → Bytes × Option (Nat × Nat)
  | _, [] => ([], none)
  | room, (id, ix, size) :: ks =>
    if 4 + size > room then ([], some (id, ix))
    else
      let (b, next) := packItems l (room - (4 + size)) ks
      (itemRecord id ix size (l.val id ix) ++ b, next)

def hGetConfig : Handler := {
  op := 0x0201, least := 0, own := always, hold := true, len := exactly 4
  param := fun _ _ q => if field q.params 0 1 > 1 then some { status := 0x0302, off := 0 } else none
  conflict := fun s c q =>
    if field q.params 0 1 = 1 ∧ (s.ctl c).mram.staging.isNone then some { status := 0x0401, detail := 4 } else none
  run := fun s c q =>
    let m := (s.ctl c).mram
    let staged := field q.params 0 1 = 1
    let items := if staged then ((m.staging).map (·.items)).getD [] else m.items
    let from_ := fun (k : Nat × Nat × Nat) =>
      decide (field q.params 2 2 < k.1) || (k.1 = field q.params 2 2 && decide (field q.params 1 1 ≤ k.2.1))
    let keys := itemKeys.filter fun k => from_ k && (!staged || (Items.find items k.1 k.2.1).isSome)
    let (b, next) := packItems items 1000 keys
    let (id, ix) := next.getD (0, 0)
    .done (be 4 m.epoch ++ (if staged then zeros 16 else padTo 16 m.hash) ++ be 2 id ++ be 1 ix ++ be 1 (b2n next.isSome) ++ b) s }

/-- GET_CONFIG (R612). -/
def execGetConfig (t : Instant) (q : Request) (s : State) : Result := run t (fun s => s.perform hGetConfig q) s

/-! STAGE_CONFIG. -/

/-- The checks of one record in order (R609). -/
def recordCheck (role : Nat) (i : RawItem) : Option Refuse :=
  match itemRow i.id with
  | none => some { status := 0x0302, off := i.off }
  | some r =>
    let ch := if r.kind = .ch then i.ix else 0
    if ¬r.kind.ok i.ix then some { status := 0x0302, off := i.off }
    else if i.len ≠ r.size then some { status := 0x0302, off := i.off + 3, chan := ch }
    else if (i.id = 0x0601 ∨ i.id = 0x0602) ∧ role < 3 then some { status := 0x0201, detail := 12, off := i.off }
    else if ¬r.rng.ok (normalise i.id i.val) then some { status := 0x0303, off := i.off + 4, chan := ch }
    else none

/-- Bytes of item records that a staging area holds. -/
def stagedBytes (l : Items) : Nat := (List.map (fun i : Item => 4 + ((itemRow i.id).map (·.size)).getD 0) l).sum

/-- The records staged over an area, or the first that does not fit into 64 KiB (R896). -/
def stageOver : Items → List RawItem → Except Nat Items
  | l, [] => .ok l
  | l, i :: is =>
    let l' := Items.insert ⟨i.id, i.ix, normalise i.id i.val⟩ l
    if stagedBytes l' > 65536 then .error i.off else stageOver l' is

/-- What stands in the staging area. -/
def Mram.stagedItems (m : Mram) : Items := ((m.staging).map (·.items)).getD []

/-- The staging area is held by another client (R608). -/
def Mram.heldByOther (m : Mram) (cl : Client) : Bool :=
  match m.staging with
  | some st => st.holder ≠ cl
  | none => false

/-- The holder of the staging area has used it (R608), as the standby has it too (R638). -/
def State.renewStaging (s : State) (c : Ctl) (cl : Client) : State :=
  let f := fun (m : Mram) => { m with staging := m.staging.map fun st => if st.holder = cl then { st with usedAt := s.now } else st }
  let s := s.modMram c f
  if s.paired then s.modMram c.other f else s

def hStageConfig : Handler := {
  op := 0x0202, least := 2, jour := true, hold := true
  len := fun b => 5 ≤ b.length && b.length ≤ 1024 && (itemsOf b).isSome
  param := fun s c q =>
    let l := (itemsOf q.params).getD []
    (l.findSome? (recordCheck (s.roleOf c q.client))).orElse fun _ =>
      match stageOver (if (s.ctl c).mram.heldByOther q.client then [] else (s.ctl c).mram.stagedItems) l with
      | .ok _ => none
      | .error o => some { status := 0x0303, off := o }
  conflict := fun s c q =>
    if s.unitMode = .split then some { status := 0x0401, detail := 6 }
    else if (s.ctl c).mram.heldByOther q.client then some { status := 0x0401, detail := 5 }
    else none
  refused := fun s c q _ => s.renewStaging c q.client
  run := fun s c q =>
    match stageOver (s.ctl c).mram.stagedItems ((itemsOf q.params).getD []) with
    | .ok l => .tx { changes := [.staging (some { holder := q.client, items := l, usedAt := s.now })] } s
    | .error o => .err { status := 0x0303, off := o } s }

/-- STAGE_CONFIG (R609). -/
def execStageConfig (t : Instant) (q : Request) (s : State) : Result := run t (fun s => s.perform hStageConfig q) s

/-! COMMIT_CONFIG. -/

/-- INRUSH_T of each channel is within the range and step of its PROFILE (R227): LAMP 1 to 500 ms, MOTOR 10 to 10000 ms in steps
of 10 ms. The channel of the first that is not. -/
def inrushBad (l : Items) : Option Nat :=
  ((List.range 16).map (· + 1)).find? fun n =>
    let v := l.val 0x0107 n
    let p := l.val 0x0101 n
    v ≠ 0 && ((p = 1 && v > 500) || (p = 2 && (v < 10 || v % 10 ≠ 0)))

/-- R387 for the pairs whose TWIN changes: the first channel that is not off and free. -/
def State.twinBusy (s : State) (c : Ctl) (new : Items) : Option Ch :=
  allCh.find? fun ch =>
    itemsDiffer (s.ctl c).mram.items new [0x0201] ((pairOf ch).val + 1) &&
    (let x := s.chan ch
     ((s.ctl c).mram.hosts[ch]).level ≠ .off || x.stage.output ≠ .off || x.prot.trip ≠ .none || x.ctrl.source = .open ||
     x.ctrl.source = .glaze)

/-- R331: the first channel whose minimum pulse does not fit its period. -/
def State.pulseBad (s : State) (new : Items) : Option Ch :=
  allCh.find? fun ch =>
    let n := if new.val 0x0201 ((pairOf ch).val + 1) = 1 then numOf (lowOf (pairOf ch)) else numOf ch
    let two := 16 * new.val 0x011A n
    two > (s.chan ch).gen.act.per || (new.val 0x0101 n = 4 && two * new.val 0x010F n > 1600000) || two > 8000

/-- R490. -/
def plcaBad (l : Items) : Bool :=
  [1, 2].any fun p =>
    let a := l.val 0x0502 p
    let b := l.val 0x0503 p
    let n := l.val 0x0504 p
    a = b || (a ≥ n && b = 0) || (b ≥ n && a = 0)

/-- LOOP_IDX is one that LOOP_SRC requires (R460). -/
def loopIdxOk (src ix : Nat) : Bool :=
  if src = 1 ∨ src = 5 ∨ src = 8 then 1 ≤ ix && ix ≤ 16
  else if src = 2 then 1 ≤ ix && ix ≤ 8
  else if src = 3 then 1 ≤ ix && ix ≤ 2
  else if src = 6 then 1 ≤ ix && ix ≤ 4
  else true

/-- The remaining rules between items that concern no channel (R610): of the loop items and of the lines. -/
def crossBad (l : Items) : Bool :=
  ([1, 2, 3, 4].any fun n => l.val 0x0304 n = l.val 0x0303 n || !loopIdxOk (l.val 0x0301 n) (l.val 0x0302 n)) ||
  ([1, 2, 3, 4].any fun n => l.val 0x0401 n ≠ 0 && [1, 2, 3, 4].any fun k => k ≠ n && l.val 0x0401 k = l.val 0x0401 n)

/-- The remaining rule between items of one channel (R610), of profile MOTOR: the first channel that breaks it. -/
def motorBad (l : Items) : Option Nat :=
  ((List.range 16).map (· + 1)).find? fun n => l.val 0x0101 n = 2 && l.resolved 0x0107 n < l.val 0x010A n

/-- The epoch that a commit gives: the next, or 1 for the reset of R967; none where R637 forbids it. -/
def State.nextEpoch (s : State) (c : Ctl) (q : Request) : Option Nat :=
  let e := (s.ctl c).mram.epoch
  if e = 0xFFFFFFFF then if q.via = .x50 ∧ s.s50 then some 1 else none else some (e + 1)

/-- The checks of R610, in their order, against the configuration that the commit would produce. R608 has a commit of another client refused without
exception, and R610 takes one of a SERVICE client: DEDUCED, log entry 77. -/
def State.commitCheck (s : State) (c : Ctl) (q : Request) (new : Items) : Option Refuse :=
  let x := s.ctl c
  if s.unitMode = .split then some { status := 0x0401, detail := 6 }
  else if x.role = .hold ∧ x.cause ≠ 1 then some { status := 0x0401, detail := 7 }
  else if x.mram.staging.isNone then some { status := 0x0401, detail := 4 }
  else if x.mram.heldByOther q.client ∧ s.roleOf c q.client < 3 then some { status := 0x0401, detail := 5 }
  else if field q.params 0 4 ≠ x.mram.epoch then some { status := 0x0402 }
  else if new.val 0x0901 0 = 0 ∧ 2 ≤ new.val 0x0905 0 then some { status := 0x0303 }
  else match inrushBad new with
    | some n => some { status := 0x0303, chan := n }
    | none =>
      match s.twinBusy c new with
      | some ch => some { status := 0x0401, detail := 8, chan := numOf ch }
      | none =>
        match s.pulseBad new with
        | some ch => some { status := 0x0401, detail := 9, chan := numOf ch }
        | none =>
          if plcaBad new then some { status := 0x0401, detail := 10 }
          else if crossBad new ∨ (s.nextEpoch c q).isNone then some { status := 0x0401, detail := 11 }
          else (motorBad new).map fun n => { status := 0x0401, detail := 11, chan := n }

/-- A client's right to command a channel under a configuration (R543, R544). -/
def rightTo (l : Items) (cl : Nat) (ch : Ch) : Bool :=
  let role := if cl = 0 then 3 else l.val 0x0601 cl
  let twin := l.val 0x0201 ((pairOf ch).val + 1) = 1
  let need := if twin then [lowOf (pairOf ch), highOf (pairOf ch)] else [ch]
  decide (2 ≤ role) || (role = 1 && need.all fun k => bit (l.val 0x0602 cl) k.val)

/-- Leases and pending scheduled requests beyond the rights that a configuration gives (R549, R561). -/
def Mram.beyond (m : Mram) (new : Items) : List Change :=
  (allCh.filterMap fun ch => match m.leases[ch] with
    | some l => if rightTo new l.client.val ch then none else some (.lease ch none)
    | none => none) ++
  (m.slots.filterMap fun j =>
    let loops := j.later.any fun ch => match ch with
      | .loop _ _ => true
      | _ => false
    let low := decide (j.client < 16) && j.client ≠ 0 && decide (new.val 0x0601 j.client < 2)
    if j.sched ∧ ¬j.taken ∧ ((j.pendingOn.any fun ch => !rightTo new j.client ch) ∨ (loops ∧ low)) then some (.withdraw j.jsn 1)
    else none)

/-- The COMMIT record (R801). -/
def State.commitRecord (s : State) (c : Ctl) (old new : Nat) (hash : Bytes) (n : Nat) (cl : Client) : LogRec :=
  s.record c 0x0A01 0 c.code 0 (be 4 old ++ be 4 new ++ padTo 16 hash ++ be 2 n ++ be 1 cl.val)

def hCommitConfig : Handler := {
  op := 0x0203, least := 2, jour := true, hold := true, len := exactly 4
  run := fun s c q =>
    let m := (s.ctl c).mram
    let new := Items.above m.items m.stagedItems
    let s := s.renewStaging c q.client
    match s.commitCheck c q new with
    | some r => .err r s
    | none =>
      let epoch := (s.nextEpoch c q).getD 1
      let hash := configHash new
      .tx { changes := [.config new epoch hash, .staging none] ++ m.beyond new ++
                       [.record (s.commitRecord c m.epoch epoch hash m.staged q.client)] } s }

/-- COMMIT_CONFIG (R610, R611). -/
def execCommitConfig (t : Instant) (q : Request) (s : State) : Result :=
  run t (fun s => s.perform hCommitConfig q) s

/-! DISCARD_CONFIG. -/

/-- A DISCARD record that names the former holder (R608). -/
def State.discardRecord (s : State) (c : Ctl) (n : Nat) (holder client : Nat) : LogRec :=
  s.record c 0x0A02 0 c.code 0 (stdBody n 0 holder 0 0 spaces12 client)

def hDiscardConfig : Handler := {
  op := 0x0204, least := 2, jour := true, hold := true, len := exactly 0
  conflict := fun s c q =>
    if (s.ctl c).mram.heldByOther q.client ∧ s.roleOf c q.client < 3 then some { status := 0x0401, detail := 5 } else none
  run := fun s c q =>
    let m := (s.ctl c).mram
    match m.staging with
    | none => .tx { seq := 0, changes := [] } s
    | some st =>
      .tx { seq := m.staged
            changes := [.staging none, .record (s.discardRecord c m.staged st.holder.val q.client.val)] } s }

/-- DISCARD_CONFIG (R608). -/
def execDiscardConfig (t : Instant) (q : Request) (s : State) : Result := run t (fun s => s.perform hDiscardConfig q) s

end Sys2Proof.Machine
end

