-- ==== Sys2Proof/Machine/SessionEvents.lean ====
section
/-!
DEFINITION. Machine/SessionEvents.lean: what ends by itself in sessions (R530, R549, R569, R608), and the mirror of report sequences (R571).
-/
namespace Sys2Proof.Machine

/-- An effect on both controllers that run their firmware. -/
def State.both (s : State) (f : Ctl → State → State) : State :=
  let s := if s.ctlA.running then f .a s else s
  if s.ctlB.running then f .b s else s

/-- KEY_RETIRING_ERASE (R530). -/
def execKeyRetiringErase (t : Instant) (cl : Client) (s : State) : Result :=
  run t (fun s => s.both fun c s => s.modMram c fun m => m.modClient cl fun x =>
    { x with keys := x.keys.filter fun k => k.st ≠ .retiring || decide (s.now < k.erase) }) s

/-- LEASE_EXPIRY (R549): no output changes. -/
def execLeaseExpiry (t : Instant) (ch : Ch) (s : State) : Result :=
  run t (fun s => s.both fun c s => s.modMram c fun m =>
    { m with leases := modV m.leases ch fun l => l.filter fun y => s.utime c < y.stop }) s

/-- SUBSCRIPTION_END (R569). -/
def execSubscriptionEnd (t : Instant) (cl : Client) (handle : Nat) (s : State) : Result :=
  run t (fun s => s.both fun c s => s.modMram c fun m => m.modClient cl fun x =>
    { x with subs := x.subs.filter fun y => y.handle ≠ handle || decide (s.utime c < y.stop) }) s

/-- STAGE_HOLD_EXPIRY (R608): 600 s without use; the DISCARD record names the former holder. -/
def execStageHoldExpiry (t : Instant) (s : State) : Result :=
  run t (fun s =>
    let w := s.lead
    match (s.ctl w).mram.staging with
    | none => s
    | some st => when ((s.ctl w).running && decide (st.usedAt + 600 * sec ≤ s.now)) (fun s =>
        let r := s.discardRecord w (s.ctl w).mram.staged st.holder.val 0xFF
        let s := if (s.ctl w).role = .active then s.logAt w r else s
        s.both fun c s => s.modMram c fun m => { m with staging := none }) s) s

/-- What a subscription's stream has carried so far, with the count (R571): kept by handle at the standby. -/
def ClientSt.follow (x act : ClientSt) : ClientSt :=
  { x with repSeq := act.repSeq, repMir := act.repSeq, repLoss := act.repLoss, subs := x.subs.map (Sub.keep act.subs) }

/-- REPORT_SEQ_MIRROR (R571): every 100 ms the ACTIVE controller's counts go to a standby that follows. -/
def execReportSeqMirror (t : Instant) (s : State) : Result :=
  run t (fun s =>
    match s.active with
    | none => s
    | some c =>
      when (s.linkUp && (s.ctl c.other).standby) (fun s =>
        let mine := (s.ctl c).mram.clients
        let s := s.modMram c fun m => { m with clients := m.clients.map fun x => { x with repMir := x.repSeq } }
        s.modMram c.other fun m => { m with clients := Vector.ofFn fun i => (m.clients[i]).follow mine[i] }) s) s

end Sys2Proof.Machine
end

