-- ==== Sys2Proof/Machine/Inputs.lean ====
section
/-!
DEFINITION. Machine/Inputs.lean: the LH and FLT lines and the ends of handovers (chapter 20).
-/
namespace Sys2Proof.Machine

/-! Line classification. -/

/-- Places of the classes of R821 in rising ratio: short, closed, open, line open. -/
def placeOf (cls : Nat) : Nat := if cls = 3 then 0 else if cls = 1 then 1 else if cls = 0 then 2 else 3

/-- The class at a place. -/
def classAt (p : Nat) : Nat := if p = 0 then 3 else if p = 1 then 1 else if p = 2 then 0 else 2

/-- The ratio of line to rail voltage is at least a number of thousandths. -/
def ratioGe (mv rail m : Nat) : Bool := mv * 1000 ≥ m * rail

/-- The ratio lies above a number of thousandths. -/
def ratioGt (mv rail m : Nat) : Bool := mv * 1000 > m * rail

/-- The place of a ratio with no class to leave: a boundary belongs to the class above it (R821). -/
def plainPlace (mv rail : Nat) : Nat := b2n (ratioGe mv rail 150) + b2n (ratioGe mv rail 550) + b2n (ratioGe mv rail 930)

/-- The place after a sample: the line leaves a class only where the ratio has passed the boundary by 0.02 (R821). -/
def nextPlace (p mv rail : Nat) : Nat :=
  let up := b2n (ratioGe mv rail 170) + b2n (ratioGe mv rail 570) + b2n (ratioGe mv rail 950)
  let down := b2n (ratioGt mv rail 130) + b2n (ratioGt mv rail 530) + b2n (ratioGt mv rail 910)
  if p < up then up else if down < p then down else p

/-- A sample taken into a line's classification (R821, R822). -/
def Line.sample (x : Line) (mv rail : Nat) : Line :=
  let cls := classAt (if x.run = 0 then plainPlace mv rail else nextPlace (placeOf x.raw) mv rail)
  { x with raw := cls, run := if x.run ≠ 0 ∧ cls = x.raw then x.run + 1 else 1
           contacts := if x.fault.isSome ∧ cls ≤ 1 then x.contacts + 1 else 0 }

/-- The line of a part: 0 to 7 for LH1 to LH8, 8 and 9 for FLT1 and FLT2. -/
def State.line (s : State) (w : Part) (i : Fin 10) : Line :=
  match w with
  | .ctrl c => (s.ctl c).lines[i]
  | .cart k => if h : i.val < 8 then (s.cart k).lh[i.val] else ((s.cart k).flt[i.val - 8]'(by omega)).line

/-- A change of a line of a part. -/
def State.modLine (s : State) (w : Part) (i : Fin 10) (f : Line → Line) : State :=
  match w with
  | .ctrl c => s.modCtl c fun x => { x with lines := modV x.lines i f }
  | .cart k => s.modCart k fun x =>
    if h : i.val < 8 then { x with lh := modV x.lh ⟨i.val, h⟩ f }
    else { x with flt := modV x.flt ⟨i.val - 8, by omega⟩ fun y => { y with line := f y.line } }

/-- The part samples its lines: a powered cartridge, a running controller. -/
def State.samples (s : State) (w : Part) : Bool :=
  match w with
  | .ctrl c => (s.ctl c).running
  | .cart k => (s.cart k).powered

/-- LINE_SAMPLE (R821). -/
def execLineSample (t : Instant) (w : Part) (i : Fin 10) (lineMv railMv : Nat) (s : State) : Result :=
  run t (fun s => when (s.samples w && railMv ≠ 0) (fun s => s.modLine w i fun x => x.sample lineMv railMv) s) s

/-- CONTACT_CHANGE (R822): ten samples in a row in a contact class accept it, while no fault is declared. -/
def execContactChange (t : Instant) (w : Part) (i : Fin 10) (s : State) : Result :=
  run t (fun s =>
    let x := s.line w i
    when (s.samples w && x.raw ≤ 1 && decide (10 ≤ x.run) && x.fault.isNone) (fun s =>
      s.modLine w i fun y => { y with closed := some (y.raw = 1) }) s) s

/-- The first fault of the LH lines of a cartridge fixes the level that HOLD demands; the end of the last one forgets it (R831). -/
def State.noteHeld (s : State) (k : Slot) (before : List Line) : State :=
  let after := (s.cart k).lh.toList
  if faultMask before = 0 ∧ faultMask after ≠ 0 then
    let known : Bool := before.all fun l => l.closed.isSome
    overList (chansOf k) (fun c s => s.modCtrl c fun x => { x with heldDemand := if known then some x.demand else none }) s
  else if faultMask after = 0 then overList (chansOf k) (fun c s => s.modCtrl c fun x => { x with heldDemand := none }) s
  else s

/-- LINE_STATE (R822, R847): a fault is declared after 50 samples and ends after 500 in the contact classes; the alarm is that of the
controller's own taps. -/
def execLineState (t : Instant) (w : Part) (i : Fin 10) (s : State) : Result :=
  run t (fun s =>
    let x := s.line w i
    let declare : Bool := x.fault.isNone && decide (2 ≤ x.raw) && decide (50 ≤ x.run)
    let above : Bool := x.fault.isSome && decide (500 ≤ x.contacts)
    when (s.samples w && (declare || above)) (fun s =>
      let s' := s.modLine w i fun y =>
        if declare then { y with fault := some y.raw, contacts := 0 }
        else { y with fault := none, contacts := 0, closed := if 10 ≤ y.run then some (y.raw = 1) else y.closed }
      match w with
      | .cart k => s'.noteHeld k (s.cart k).lh.toList
      | .ctrl c =>
        let s' := s'.modCtl c fun y => { y with lineAl := setV y.lineAl i declare }
        if (s.ctl c).role = .active then
          s'.alarm c 0x0F01 (i.val + 1) declare c.code (if declare then b2n (x.closed.getD false) else x.fault.getD 0) x.raw
        else s') s) s

/-! Fault inputs. -/

/-- FLT_ASSERT (R823, R826, R828): the comparator has indicated for `ns`, with the ratio `r` in thousandths. It acts in a debug halt too. -/
def execFltAssert (t : Instant) (k : Slot) (i : Fin 2) (r : Nat) (ns : Nat) (s : State) : Result :=
  run t (fun s =>
    when ((s.cart k).powered && !((s.cart k).flt[i]).asserted && decide (r < 550) && decide (100 ≤ ns)) (fun s =>
      let s := s.modCart k fun x => { x with flt := modV x.flt i fun y => { y with asserted := true } }
      overList (chansOf k) (fun c s => (s.setGlaze c i).evalOpen c) s) s) s

/-- FLT_RELEASE (R823, R828, R269): 1 ms without an indication; a retry attempt that OPEN held is evaluated afresh. -/
def execFltRelease (t : Instant) (k : Slot) (i : Fin 2) (r : Nat) (ns : Nat) (s : State) : Result :=
  run t (fun s =>
    when ((s.cart k).powered && ((s.cart k).flt[i]).asserted && decide (600 < r) && decide (msec ≤ ns)) (fun s =>
      let s := s.modCart k fun x => { x with flt := modV x.flt i fun y => { y with asserted := false } }
      overList (chansOf k) (fun c s => s.evalOpen c) s) s) s

/-! Limp-home demands. -/

/-- The re-arm of a locked-out channel by cycling its limp-home level (R272): OFF for 1 s, then ON or PWM. -/
def State.rearm (s : State) (c : Ch) : State :=
  let p := (s.chan c).prot
  let lvl := s.limpLevel c
  if (s.cart (slotOf c)).holder.isNone ∧ p.trip = .locked ∧ p.tripCause ≠ 0x14 then
    if lvl = .off then s.modProt c fun q => { q with limpOff := some (q.limpOff.getD s.now) }
    else if lvl.isOn ∧ s.held p.limpOff sec then s.clearTrip c
    else s.modProt c fun q => { q with limpOff := none }
  else s.modProt c fun q => { q with limpOff := none }

/-- LIMP_DEMAND (R831 to R833, R272). -/
def execLimpDemand (t : Instant) (k : Slot) (s : State) : Result :=
  run t (fun s =>
    when ((s.cart k).powered && !(s.cart k).frozen) (fun s => (overList (chansOf k) (fun c s => s.rearm c) s).formDemands k) s) s

/-! Handovers. -/

/-- SOAK_END (R837). -/
def execSoakEnd (t : Instant) (c : Ch) (s : State) : Result :=
  run t (fun s =>
    let x := (s.chan c).ctrl
    when (s.engine c && x.hand = .soak && decide (x.soakEnd ≤ s.now)) (fun s => s.adopt c (s.demands c x.source)) s) s

/-- HANDOVER_RAMP_END (R839, R840). -/
def execHandoverRampEnd (t : Instant) (c : Ch) (s : State) : Result :=
  run t (fun s =>
    let x := (s.chan c).ctrl
    match x.ramp with
    | some r => when (s.engine c && x.hand = .ramp && decide (r.stop ≤ s.now)) (fun s =>
        let new := s.demands c x.source
        (s.logHand c x.level new.1 x.policy).applyLevel c new 5) s
    | none => s) s

end Sys2Proof.Machine
end

