-- ==== Sys2Proof/Machine/Twins.lean ====
section
/-!
DEFINITION. Machine/Twins.lean: twinned channels (chapter 09): the pair state and the twin status record, the sharing loop, and the course of
a cartridge's withdrawal and its return.
-/
namespace Sys2Proof.Machine

/-! What a controller has of a half. -/

/-- The output code a controller has of a channel, from the status frames that it receives: OFF where they have stopped. -/
def State.outOf (s : State) (a : Ctl) (c : Ch) : Nat := if s.present a (slotOf c) then bits ((s.ctl a).wordOf c) 8 3 else 0

/-- A half conducts as the controller sees it (R402). -/
def State.conducts (s : State) (a : Ctl) (c : Ch) : Bool := s.outOf a c = 1 || s.outOf a c = 2

/-- It conducts in RUN or HOLD, and its cartridge stays (R396). -/
def State.runs (s : State) (a : Ctl) (c : Ch) : Bool :=
  s.conducts a c && 2 ≤ bits ((s.ctl a).wordOf c) 11 2 && !((s.ctl a).seen[slotOf c]).removing

/-- Both halves of a pair conduct in RUN or HOLD, so that the sharing loop runs (R396). -/
def State.bothRun (s : State) (a : Ctl) (p : Pair) : Bool := s.runs a (lowOf p) && s.runs a (highOf p)

/-- The share error of the lower half exceeds ±0.5 % (R397, R402). -/
def Twin.offShare (w : Twin) : Bool :=
  match w.share with
  | some v => v < 4950 || 5050 < v
  | none => false

/-- The pair state (R402), the first row whose condition holds. -/
def State.pairState (s : State) (c : Ctl) (p : Pair) : Nat :=
  let x := s.ctl c
  let low := s.conducts c (lowOf p)
  let high := s.conducts c (highOf p)
  let lvl := (x.mram.hosts[lowOf p]).level
  let leaving := fun (k : Slot) => s.present c k && (x.seen[k]).removing && !(x.seen[k]).left
  if ¬lvl.isOn ∧ ¬low ∧ ¬high then 0
  else if leaving (slotOf (lowOf p)) ∨ leaving (slotOf (highOf p)) then 1
  else if lvl.isOn ∧ ¬low ∧ ¬high then 2
  else if (s.twin p).joinAt.any (fun t => s.now < t + 200 * msec) ∧ (s.twin p).offShare then 3
  else if low ∧ ¬high then 4
  else if high ∧ ¬low then 5
  else 6

/-- The twin status record (R403), 16 bytes. An alignment beyond its field stands at the end of the field: DESIGN CHOICE, log entry 74. -/
def State.twinRecord (s : State) (c : Ctl) (p : Pair) : Bytes :=
  let w := s.twin p
  let st := s.pairState c p
  be 1 (p.val + 1) ++ be 1 st ++ be 2 (w.share.getD 0xFFFF) ++ be 2 (if st = 6 then w.natural.getD 0xFFFF else 0xFFFF) ++
  be 2 w.trimLow ++ be 2 w.trimHigh ++
  (match w.align with
   | some a => beInt 2 (max (-32768) (min 32766 a))
   | none => be 2 0x7FFF) ++
  be 2 (b2n w.unbalanced ||| (b2n w.alignBad <<< 1) ||| (b2n w.diverged <<< 2) ||| (b2n w.unmeas <<< 3) ||| (b2n w.forced <<< 4) |||
    (b2n w.masked <<< 5)) ++ zeros 2

/-! The sharing loop. -/

/-- A flag of a twin changed, logged and raised as an alarm with the pair as its index (R419). -/
def State.pairFlag (s : State) (p : Pair) (code : Nat) (was is : Bool) (meas limit : Int := 0) : State :=
  if was = is then s else s.alarmUnit code (p.val + 1) is s.lead.code (b2n was) (b2n is) meas limit

/-- The trim after one cycle: `step` mV, at most 5, toward the half that carries more; only one half carries trim, from 0 to 300 mV (R396). -/
def Twin.trimStep (w : Twin) (low high : Int) (step : Nat) : Twin :=
  let now : Int := (w.trimLow : Int) - w.trimHigh
  let next := if low > high then now + step else if high > low then now - step else now
  let next := max (-300) (min 300 next)
  { w with trimLow := next.toNat, trimHigh := (-next).toNat }

/-- The trim of the pair. -/
def Twin.trim (w : Twin) : Nat := max w.trimLow w.trimHigh

/-- A half of the pair stands under a debug halt (R418). -/
def State.halted (s : State) (p : Pair) : Bool := (s.cart (slotOf (lowOf p))).frozen || (s.cart (slotOf (highOf p))).frozen

/-- The natural share of the lower half, 0.01 % (R398): the share itself where no half carries trim; with trim it is computed from the trim, the duty
and the half currents by a rule that the spec does not give (log entry 74). -/
def Twin.naturalOf (w : Twin) (duty : Nat) (low high : Int) : Nat :=
  if w.trim = 0 ∧ low + high ≠ 0 then min 10000 (low * 10000 / (low + high)).toNat
  else Config.naturalShare ((w.trimLow : Int) - w.trimHigh) duty low high % 10001

/-- The trim and the shares of one cycle (R396, R398, R403). The step within 5 mV is a free value (R396 bounds it). -/
def State.shareStep (s : State) (a : Ctl) (p : Pair) (low high : Int) : State :=
  let w := s.twin p
  let both := s.bothRun a p
  let sum := low + high
  let share : Option Nat := if sum.natAbs < 1000 then none else some (min 65534 (low * 10000 / sum).toNat)
  let h := (s.ctl a).mram.hosts[lowOf p]
  let natural := if both then some (w.naturalOf (dutyOf h.level h.pwm) low high) else none
  let (d, s) := s.draw
  let w := if ¬both ∨ w.unmeas then { w with trimLow := 0, trimHigh := 0 }
    else if w.alignBad ∨ s.halted p then w
    else w.trimStep low high (d % 6)
  s.setTwin p { w with share := share, natural := natural
                       unbalSince := s.track (if w.unbalanced then w.trim < 280 else w.trim = 300) w.unbalSince }

/-- The boundaries of the higher half less those of the lower, in quarters of a ns, between the nearest two, to one tick (R399): none where the two
generators do not both run with one period. -/
def State.skew (s : State) (p : Pair) : Option Int :=
  let l := (s.chan (lowOf p)).gen
  let h := (s.chan (highOf p)).gen
  let per : Int := ticks l.runPer
  if l.begun ∧ h.begun ∧ l.runPer = h.runPer ∧ 0 < per then
    let d := ((h.boundAt : Int) - l.boundAt) % per
    let d := if per < 2 * d then d - per else d
    some (d / 25 * 25)
  else none

/-- The oscillators of the two cartridges let the boundaries of the higher half drift by `d` ns against the lower's. -/
def Gen.drift (g : Gen) (d : Int) : Gen :=
  if g.enabled then { g with perAt := ((g.perAt : Int) + 4 * d).toNat, boundAt := ((g.boundAt : Int) + 4 * d).toNat } else g

/-- One period of the higher half shortened or lengthened by a tick, at most once per period, against a difference of one tick or more (R399). -/
def State.alignTick (s : State) (p : Pair) (skew : Int) : State :=
  let g := (s.chan (highOf p)).gen
  when (decide (25 ≤ skew.natAbs) && decide (g.boundAt ≠ (s.twin p).corrAt)) (fun s =>
    let b := if skew > 0 then g.boundAt - ticks 1 else g.boundAt + ticks 1
    (s.modGen (highOf p) fun g => { g with boundAt := b }).modTwin p fun w => { w with corrAt := b }) s

/-- The boundary alignment of one cycle (R399, R403, R419), after a drift of `drift` ns, and TWIN_ALIGN, which is not raised during a halt. -/
def State.alignStep (s : State) (a : Ctl) (p : Pair) (drift : Int) : State :=
  let pwm : Bool := s.outOf a (lowOf p) = 2 && s.outOf a (highOf p) = 2
  let s := s.modGen (highOf p) (·.drift drift)
  let skew := if pwm then s.skew p else none
  let frozen := s.halted p
  let w := s.twin p
  let s := match skew with
    | some d => if frozen then s else s.alignTick p d
    | none => s
  let align := skew.map fun d => d / 4
  let (bad, since) := if frozen then (w.alignBad, w.alignSince) else
    hysteresis s.now w.alignBad w.alignSince (align.any fun d => 200 < d.natAbs) (align.all fun d => d.natAbs ≤ 50) (10 * msec) sec
  let s := s.modTwin p fun w => { w with align := align, alignBad := bad, alignSince := since }
  s.pairFlag p 0x0305 w.alignBad bad (align.getD 0) 200

/-- TWIN_DIVERGED and TWIN_UNMEASURED (R419). -/
def State.twinFlags (s : State) (p : Pair) : State :=
  let x := s.ctl s.lead
  let w := s.twin p
  let none5 := fun (c : Ch) => (s.chan c).meas.cls s.now (s.cart (slotOf c)).proofBad (s.cart (slotOf c)).proofAt = 5
  let both : Bool := s.present s.lead (slotOf (lowOf p)) && s.present s.lead (slotOf (highOf p))
  let (dv, ds) := debounce s.now w.diverged w.divSince (both && bits (x.wordOf (lowOf p)) 6 2 ≠ bits (x.wordOf (highOf p)) 6 2) (10 * msec) sec
  let (um, us) := debounce s.now w.unmeas w.measSince (none5 (lowOf p) || none5 (highOf p)) 0 sec
  let s := s.modTwin p fun w => { w with diverged := dv, divSince := ds, unmeas := um, measSince := us }
  (s.pairFlag p 0x0306 w.diverged dv).pairFlag p 0x0307 w.unmeas um

/-- The trip of both halves by the pair's wire model, as one transaction (R405). -/
def State.pairTrip (s : State) (a : Ctl) (p : Pair) : State :=
  s.prepareTx a replyParams
    { kind := 5, changes := [.act (lowOf p) 0x12, .act (highOf p) 0x12],
      mask := Vector.ofFn fun k => (k = slotOf (lowOf p) || k = slotOf (highOf p)) && s.holds a k }

/-- The trip of a pair is under way. -/
def Mram.pairTrips (m : Mram) (p : Pair) : Bool := m.slots.any fun j => j.changes.contains (.act (lowOf p) 0x12)

/-- The wire model on the sum of the halves (R405): at 1.0 a half that still conducts is tripped, with its partner, once no role swap holds the
journal (R886). -/
def State.pairWire (s : State) (a : Ctl) (p : Pair) (sum : Int) : State :=
  let m := (s.ctl a).mram
  let n := (lowOf p).val + 1
  let x := wireStep (s.twin p).x sum (m.items.val 0x0114 n) (m.items.val 0x0115 n)
  let s := s.modTwin p fun w => { w with x := x }
  if xOne ≤ x ∧ (s.conducts a (lowOf p) ∨ s.conducts a (highOf p)) ∧ ¬m.swapping ∧ ¬m.pairTrips p then s.pairTrip a p else s

/-- A half carries the current it is commanded to, as far as its gates tell: both gate monitors confirm on (R408). -/
def State.gatesOn (s : State) (c : Ch) : Bool := !(s.chan c).prot.gateMon && !(s.chan c).stage.offDue

/-- The lockout sent to a half that carries less than a tenth of the pair current in three 1 ms averages in a row (R408), with the
masking raised and its end. -/
def State.stuckHalf (s : State) (a : Ctl) (p : Pair) (low high : Int) : State :=
  let w := s.twin p
  let sum := (low + high).natAbs
  let ok : Bool := s.bothRun a p && s.gatesOn (lowOf p) && s.gatesOn (highOf p) && decide (1000 ≤ sum) && !w.unmeas
  let nl := if ok ∧ low.natAbs * 10 < sum then w.lowCount + 1 else 0
  let nh := if ok ∧ high.natAbs * 10 < sum then w.highCount + 1 else 0
  let locked := fun (c : Ch) => bits ((s.ctl a).wordOf c) 0 4 = 5
  let hit := nl = 3 || nh = 3
  let now : Bool := hit || (w.masked && (locked (lowOf p) || locked (highOf p) || 3 ≤ nl || 3 ≤ nh))
  let c := if nl = 3 then lowOf p else highOf p
  let s := if hit then s.modCtl a fun x => { x with acts := modV x.acts (slotOf c) fun l => l ++ [((posOf c).val, 0x15)] } else s
  (s.modTwin p fun w => { w with lowCount := nl, highCount := nh, masked := now }).pairFlag p 0x0309 w.masked now (min low high)

/-- SHARING_LOOP (R396, every 1 ms), from the 1 ms averages of the halves: `drift` is what the boundaries of the higher half have drifted against
those of the lower since the last cycle, ns (R399). -/
def execSharingLoop (t : Instant) (p : Pair) (drift : Int) (s : State) : Result :=
  run t (fun s =>
    match s.active with
    | none => s
    | some a =>
      when (s.twinned p) (fun s =>
        let ma := fun (c : Ch) => ((s.chan c).meas.avg1ms.current.getD 0) / 1000
        let low : Int := ma (lowOf p)
        let high : Int := ma (highOf p)
        let s := s.twinFlags p
        let s := s.shareStep a p low high
        let s := s.alignStep a p drift
        let s := s.pairWire a p (low + high)
        s.stuckHalf a p low high) s) s

/-- TWIN_UNBALANCED (R416): the trim at 300 mV for 1 s, and below 280 mV for 10 s. -/
def execTwinUnbalanced (t : Instant) (p : Pair) (s : State) : Result :=
  run t (fun s =>
    let w := s.twin p
    let due := if w.unbalanced then s.held w.unbalSince (10 * sec) else s.held w.unbalSince sec
    when (s.active.isSome && s.twinned p && due) (fun s =>
      (s.modTwin p fun w => { w with unbalanced := !w.unbalanced, unbalSince := none }).pairFlag p 0x0304 w.unbalanced (!w.unbalanced) w.trim 300) s) s

/-! Withdrawal and return. -/

/-- A channel's part of a withdrawal (R410): it turns off by R210, a twin half by R401 where its partner conducts; the cause field keeps its
value. -/
def State.withdrawChan (s : State) (c : Ch) : State :=
  let x := s.chan c
  let cause := x.stage.cause
  match x.stage.output with
  | .freewheel => s.setChan c (x.modStage fun g => { g.toOff s.now with cause := cause })
  | .highZ => s
  | .off => s.modGen c (·.stop)
  | .decay => s.modStage c fun g => { g with toFw := false }
  | _ => s.decay c false (s.demagSlow c) cause

/-- What stood still in a channel during a halt moves on by the time it lasted since its own start (R281, R328, R841): the retry interval, the
counter of the generator, the soak and the ramps, and the START time of the profile; a calibration is due at once. -/
def Chan.unfreeze (x : Chan) (from_ now : Instant) (soak : Nat) : Chan :=
  let on := fun (start at_ : Instant) => at_ + (now - max from_ start)
  { x with
    stage := { x.stage with startAt := on x.stage.startAt x.stage.startAt }
    prot := { x.prot with tripAt := on x.prot.tripAt x.prot.tripAt }
    gen := { x.gen with perAt := x.gen.perAt + quarters (now - from_), boundAt := x.gen.boundAt + quarters (now - from_), calDue := now }
    ctrl := { x.ctrl with
      soakEnd := on (x.ctrl.soakEnd - soak) x.ctrl.soakEnd
      ramp := x.ctrl.ramp.map fun r => { r with start := on r.start r.start, stop := on r.start r.stop } } }

/-- An output that a halt has left at HIGH_Z is OFF again (R205, R222). -/
def Chan.thaw (x : Chan) (now : Instant) : Chan :=
  if x.stage.output = .highZ ∧ x.ctrl.source ≠ .open then { x with stage := { x.stage.toOff now with cause := 0x0E } } else x

/-- A debug halt ends (R964, R328): every channel goes to its evaluated state, and DEBUG_RESUME is logged. -/
def State.resume (s : State) (k : Slot) : State :=
  let x := s.cart k
  if x.frozen then
    let s := s.modCart k fun y => { y with frozen := false }
    let s := overList (chansOf k) (fun c s =>
      (s.modChan c fun y => (y.unfreeze x.frozenAt s.now (s.chItem c 0x0121 * 10 * msec)).thaw s.now).settle c) s
    s.logUnit 0x0E03 0 (k.val + 1) (k.val + 1) (stdBody 1 0 0 0 0 x.serial)
  else s

/-- LEVER_OPEN (R410); a debug halt ends first (R964). -/
def execLeverOpen (t : Instant) (k : Slot) (s : State) : Result :=
  run t (fun s =>
    let x := s.cart k
    when (x.seated && !x.lever) (fun s =>
      let s := s.resume k
      let s := s.modCart k fun y => { y with lever := true, leverAt := some s.now, removing := y.band ≠ .dark, left := false }
      if x.powered then overList (chansOf k) (fun c s => s.withdrawChan c) s else s) s) s

/-- LEVER_CLOSE (R410): REMOVING and LEFT end, and each channel follows its source again. -/
def execLeverClose (t : Instant) (k : Slot) (s : State) : Result :=
  run t (fun s =>
    let x := s.cart k
    when (x.seated && x.lever) (fun s =>
      let s := s.modCart k fun y => { y with lever := false, removing := false, left := false, leverAt := none }
      overList (chansOf k) (fun c s => ((if x.holder.isSome then s.joinCheck c else s)).settle c) s) s) s

/-- Every switch of a channel is confirmed off. -/
def Stage.allOff (g : Stage) : Bool := (g.output = .off || g.output = .highZ) && !g.ser && !g.fw && !g.fwd

/-- LEFT (R410). -/
def execLeft (t : Instant) (k : Slot) (s : State) : Result :=
  run t (fun s =>
    when ((s.cart k).powered && (s.cart k).removing && (chansOf k).all fun c => (s.chan c).stage.allOff)
      (fun s => s.modCart k fun x => { x with left := true }) s) s

/-- A cartridge out of its slot. -/
def State.unseat (s : State) (k : Slot) : State :=
  (s.cartDark k).modCart k fun x => { x with seated := false, lever := false, leverAt := none, busMv := 0 }

/-- SLOT_LEFT (R411): the status frames of a LEFT cartridge stop, and its slot is empty. -/
def execSlotLeft (t : Instant) (k : Slot) (s : State) : Result :=
  run t (fun s =>
    let x := s.cart k
    when (x.seated && x.left) (fun s =>
      (s.unseat k).logUnit 0x0302 0 (k.val + 1) (k.val + 1) (stdBody 1 0 0 0 0 x.serial)) s) s

/-- TWIN_FORCED of the pairs that a slot's channels belong to (R419). -/
def State.forcePairs (s : State) (k : Slot) : State :=
  overList ((chansOf k).map pairOf) (fun p s =>
    if s.twinned p then
      let w := s.twin p
      (s.modTwin p fun w => { w with forced := true }).pairFlag p 0x0308 w.forced true
    else s) s

/-- SLOT_LOST (R419, R971): a cartridge drawn without the lever, or less than 5 ms after its switch opened; a cartridge inserted ends the alarm. -/
def execSlotLost (t : Instant) (k : Slot) (s : State) : Result :=
  run t (fun s =>
    let x := s.cart k
    when (x.seated && !(x.left && !x.leverAt.any (fun t => s.now < t + 5 * msec))) (fun s =>
      let s := s.unseat k
      (s.alarmUnit 0x0303 (k.val + 1) true (k.val + 1) 1 0 0 0 x.serial).forcePairs k) s) s

/-- TWIN_JOIN (R413): a half that waited joins when its partner is in RUN or HOLD, and goes its own way when the partner has stopped. -/
def execTwinJoin (t : Instant) (c : Ch) (s : State) : Result :=
  run t (fun s =>
    let y := (s.chan (partner c)).stage
    when ((s.chan c).ctrl.joinWait && !(y.output.conducts && y.phase = .start)) (fun s => s.joinCheck c) s) s

end Sys2Proof.Machine
end

