-- ==== Sys2Proof/Machine/Roles.lean ====
section
/-!
DEFINITION. Machine/Roles.lean: what starts a role swap and a shed (R141, R142, R886): transactions that no client asked for.
-/
namespace Sys2Proof.Machine

/-- The swap transaction (R886): the new ACTIVE slot, the cause, and the ROLE_SWAP record (R801, R806), which is the onset of an alarm of the former ACTIVE
controller where a lost cartridge link is the cause (R927, R933). -/
def State.swapTx (s : State) (c : Ctl) (cause : Nat) (client : Nat := 0xFF) : JSlot :=
  { kind := 6, changes := [.swap c.other cause,
      .record (s.record c 0x0103 (if cause = 2 then 2 else 0) c.code (if cause = 2 then c.code else 0) (stdBody c.code c.other.code cause 0 0 spaces12 client))] }

/-- A role swap started by the ACTIVE controller (R886): `cause` 1 controller die hot, 2 cartridge link. None within 10 s of another one
(R888), and none while one runs. -/
def State.startSwap (s : State) (c : Ctl) (cause : Nat) : State :=
  let x := s.ctl c
  let soon : Bool := match x.swapAt with
    | some t => decide (s.now < t + 10 * sec)
    | none => false
  if x.role = .active ∧ (s.ctl c.other).role = .synced ∧ s.linkUp ∧ ¬soon ∧ ¬x.mram.swapping then
    s.prepareTx c replyParams (s.swapTx c cause)
  else s

/-- A transaction of the ACTIVE controller's own, where no swap runs. -/
def State.ownTx (s : State) (c : Ctl) (j : JSlot) : State :=
  if (s.ctl c).mram.swapping then s else s.prepareTx c replyParams j

/-- SHED_RANK of a channel, that of the lower half for a twin (R140, R142). -/
def State.shedRank (s : State) (c : Ch) : Nat := s.item 0x011D (numOf (s.itemCh c))

/-- The cartridges that a transaction on channels waits for: those this controller holds. -/
def State.heldMask (s : State) (c : Ctl) (cs : List Ch) : Vector Bool 4 :=
  Vector.ofFn fun k => (maskOfChans cs)[k] && s.holds c k

/-- A channel, or its twin pair as one, shed (R142): OFF at HOST, as a journaled change of kind 4. -/
def State.shedChan (s : State) (c : Ctl) (ch : Ch) : State :=
  let cs := s.bothHalves ch
  s.ownTx c { kind := 4, changes := cs.map fun d => .level d .off true, mask := s.heldMask c cs }

/-- A channel that shedding may take: its HOST level is ON or PWM and its rank is not 0. -/
def State.sheddable (s : State) (c : Ctl) (ch : Ch) : Bool := ((s.ctl c).mram.hosts[ch]).level.isOn && s.shedRank ch ≠ 0

/-- The channel that shedding takes next (R141): of the highest rank, and of those the highest-numbered. -/
def State.nextShed (s : State) (c : Ctl) : Option Ch :=
  (allCh.filter fun ch => s.sheddable c ch).foldl (fun best ch => match best with
    | none => some ch
    | some b => if s.shedRank b ≤ s.shedRank ch then some ch else best) none

end Sys2Proof.Machine
end

