-- ==== Sys2Proof/Machine/Cooling.lean ====
section
/-!
DEFINITION. Machine/Cooling.lean: the housekeeping round (R423), the feeds as the controllers see them (R114, R115, R139, R150), shedding
(R141 to R146), fans (R437 to R442, R447), derating (R443 to R446), die shutdowns and the cone record (R426 to R436).
-/
namespace Sys2Proof.Machine

/-! Feeds. -/

/-- The place of a feed voltage among the states of R115, whose boundaries stand at 9 V, 16 V and above 33 V, shifted by `d` mV. -/
def feedPlace (mv d : Int) : Nat := b2n (decide (9000 + d ≤ mv)) + b2n (decide (16000 + d ≤ mv)) + b2n (decide (33000 + d < mv))

/-- A feed's state after a reading: it leaves a state only when the voltage has passed the boundary by 0.5 V (R115). -/
def feedState (was : Option Nat) (mv : MilliVolt) : Nat :=
  match was with
  | none => feedPlace mv 0
  | some n =>
    let up := feedPlace mv 500
    let down := feedPlace mv (-500)
    if n < up then up else if down < n then down else n

/-- The lowest-numbered cartridge in service (R114): one whose engine runs. -/
def State.feedCart (s : State) : Option Slot := allSlots.find? fun k => (s.cart k).powered

/-- The sum of a feed's branch currents (R114). -/
def State.feedSum (s : State) (i : Fin 2) : MilliAmp :=
  (allSlots.map fun k => if (s.cart k).powered then (s.cart k).branchMa[i] else 0).sum

/-- The state alarm of one feed after a round (R150): raised in every state but PRESENT. It ends after 1 s of PRESENT; that of HIGH after 100 ms
below 32 V. -/
def State.feedAlarm (s : State) (i : Fin 2) (was now : Nat) : State :=
  let idx := i.val + 1
  let mv := s.cool.feedMv[i]
  let old := s.cool.feedBad[i]
  let bad := if now ≠ 2 then some now else old
  let fine : Bool := now = 2 && (bad ≠ some 3 || decide (mv < 32000))
  let since := if bad = old then s.track fine s.cool.feedOkSince[i] else none
  let s := s.modCool fun x => { x with feedOkSince := setV x.feedOkSince i since, feedBad := setV x.feedBad i bad }
  if now ≠ 2 then
    if (s.ctl s.lead).alarmed 0x0401 idx ∧ was ≠ now then s.logUnit 0x0401 0 s.lead.code idx (stdBody was now mv)
    else s.alarmUnit 0x0401 idx true s.lead.code was now mv
  else if s.held since (if bad = some 3 then 100 * msec else sec) then
    (s.alarmUnit 0x0401 idx false s.lead.code was now mv).modCool fun x => { x with feedBad := setV x.feedBad i none }
  else s

/-- The 1 s average of a feed's current (R139): the mean of the last ten rounds, none before there have been ten. -/
def Cool.feedMean (x : Cool) (i : Fin 2) : Option MilliAmp :=
  if x.feedWin[i].length = 10 then some (x.feedWin[i].sum / 10) else none

/-- FEED_OVERLOAD of one feed after a round (R139, R141): above 125 A as a 1 s average, until it carries less than 115 A. -/
def State.feedLoad (s : State) (i : Fin 2) : State :=
  match s.cool.feedMean i with
  | none => s
  | some ma =>
    let above := s.cool.feedOver[i]
    let on : Bool := decide (125000 < ma) || (above.isSome && decide (115000 ≤ ma))
    let s := s.modCool fun x => { x with feedOver := setV x.feedOver i (s.track on above) }
    if on = above.isSome then s else s.alarmUnit 0x0408 (i.val + 1) on s.lead.code (b2n above.isSome) (b2n on) ma 125000

/-- Feeds of a round as the ACTIVE controller classifies them (R114, R115), with FEED_IMBALANCE and FEED_OVERLOAD (R139, R150). While no
cartridge is in service nothing is classified and no alarm changes. -/
def State.feeds (s : State) : State :=
  match s.feedCart with
  | none => s.modCool fun x => { x with
      feedSt := Vector.replicate 2 none, feedMv := Vector.replicate 2 0, feedMa := Vector.replicate 2 0, feedWin := Vector.replicate 2 [] }
  | some k =>
    let was := s.cool.feedSt
    let s := s.modCool fun x => { x with
      feedMv := (s.cart k).feedMv
      feedMa := Vector.ofFn fun i => s.feedSum i
      feedWin := Vector.ofFn fun i => (s.feedSum i :: x.feedWin[i]).take 10
      feedSt := Vector.ofFn fun i => some (feedState was[i] (s.cart k).feedMv[i]) }
    let s := overList [(0 : Fin 2), 1] (fun i s =>
      let now := (s.cool.feedSt[i]).getD 2
      s.feedAlarm i ((was[i]).getD 2) now) s
    let both : Bool := s.cool.feedSt.toList.all (· = some 2)
    let diff := (s.cool.feedMv[0] - s.cool.feedMv[1]).natAbs
    let (imb, since) := if both then
        hysteresis s.now s.cool.imbalance s.cool.imbSince (decide (1500 < diff)) (decide (diff < 1000)) (10 * sec) (10 * sec)
      else (s.cool.imbalance, none)
    let old := s.cool.imbalance
    let s := s.modCool fun x => { x with imbalance := imb, imbSince := since }
    let s := if old = imb then s else s.alarmUnit 0x0402 0 imb s.lead.code (b2n old) (b2n imb) diff 1500
    (s.feedLoad 0).feedLoad 1

/-- UNIT_OVERLOAD (R139, R445): the sum of the 1 s averages against the total in force; it ends 10 A below, or when the limit has risen above
the total. -/
def State.total (s : State) : State :=
  let ma := (allCh.map fun c => s.chMa c).sum
  let lim : Int := s.unitLimit
  let above := s.cool.unitOver
  let on : Bool := decide (lim < ma)
  let s := s.modCool fun x => { x with totalMa := ma, unitOver := s.track on above }
  if on = above.isSome then s else s.alarmUnit 0x0409 0 on s.lead.code (b2n above.isSome) (b2n on) ma lim

/-! One round. -/

/-- Reference checks of both paths of a channel (R373): a failed one counts towards rule 1 of R370 and raises REF_DRIFT, which clears after 10
rounds that pass (R380). -/
def Path.refCheck (p : Path) (ppm : Int) : Path :=
  let bad : Bool := decide (500 < ppm.natAbs)
  let n := if bad then 0 else bump 10 p.refRounds
  { p with refBad := bad, refRounds := n, refDrift := bad || (p.refDrift && decide (n < 10)) }

/-- The peak reading of a die in shutdown goes into its pending entry (R432), which completes the one in the record at its exit (R433): DEDUCED, log
entry 75. -/
def State.conePeak (s : State) (c : Ch) (fwd fw : DeciDeg) : State :=
  s.modCart (slotOf c) fun y => { y with cone := y.cone.map (fun e =>
    if e.channel = numOf c ∧ e.lasted.isNone then { e with peak := max e.peak (if e.die = 2 then fw else fwd) } else e) }

/-- A channel's part of a round in its cartridge. -/
def State.chanRound (s : State) (c : Ch) (r : CartRound) : State :=
  let i := posOf c
  let m := (s.chan c).meas
  let was := m.p1.refDrift || m.p2.refDrift
  let s := s.modChan c fun x => { x with
    prot := { x.prot with dieTemp := max r.fwd[i] r.fw[i], dieAt := some s.now, fwdT := r.fwd[i], fwT := r.fw[i] }
    meas := { x.meas with p1 := x.meas.p1.refCheck r.ref1[i], p2 := x.meas.p2.refCheck r.ref2[i] } }
  let m := (s.chan c).meas
  ((s.conePeak c r.fwd[i] r.fw[i]).chanFlag c 0x0602 was (m.p1.refDrift || m.p2.refDrift)).exclude c

/-- An alarm of a cartridge's own: source and object its slot. -/
def State.cartFlag (s : State) (k : Slot) (code : Nat) (was is : Bool) (meas limit : Int := 0) : State :=
  if was = is then s else s.alarmUnit code (k.val + 1) is (k.val + 1) (b2n was) (b2n is) meas limit (s.cart k).serial

/-- An ORing branch passes no current (R112): its feed is negative, or 20 mV below the power bus. -/
def branchOff (feed bus : MilliVolt) : Bool := decide (feed < 0) || decide (feed + 20 ≤ bus)

/-- The part of a cartridge's current in its branch on FEED1, in thousandths (R111 to R113): the branch that passes carries all where the other is
off or where the feeds differ by more than 1.5 V; with both PRESENT neither branch carries more than 60 %. What is left open is the free value
`n`. -/
def branchShare (f1 f2 bus : MilliVolt) (n : Nat) : Nat :=
  if branchOff f2 bus then 1000
  else if branchOff f1 bus then 0
  else if 1500 < (f1 - f2).natAbs then (if f2 < f1 then 1000 else 0)
  else if feedPlace f1 0 = 2 ∧ feedPlace f2 0 = 2 then 400 + n % 201
  else n % 1001

/-- The two branch currents of a cartridge that draws `load` (R112 to R114): a branch that has failed carries its reverse current `rev`, and the
other carries it with the load. -/
def branchCurrents (r : CartRound) (n : Nat) : Vector MilliAmp 2 :=
  if branchOff r.feedMv[0] r.busMv ∧ branchOff r.feedMv[1] r.busMv then Vector.ofFn fun i => -(r.rev[i] : Int)
  else
    let total : MilliAmp := r.load + r.rev[0] + r.rev[1]
    let p := branchShare r.feedMv[0] r.feedMv[1] r.busMv n
    let a : MilliAmp := total * p / 1000
    Vector.ofFn fun i => if r.rev[i] ≠ 0 then -(r.rev[i] : Int) else if i = 0 then a else total - a

/-- The drop added to each branch (R113): up to 50 mV in the branch of the higher feed while the two are balanced. The free value `n` is
the drop in mV. -/
def branchDrop (r : CartRound) (n : Nat) : Vector Nat 2 :=
  let f := r.feedMv
  let balanced : Bool := feedPlace f[0] 0 = 2 && feedPlace f[1] 0 = 2 && decide ((f[0] - f[1]).natAbs ≤ 1500)
  Vector.ofFn fun i => if balanced ∧ f[i] = max f[0] f[1] ∧ f[0] ≠ f[1] then n % 51 else 0

/-- A cartridge's part of a round (R112 to R114, R372 to R374, R380): readings taken, PROOF_FAULT after a failed proof check and over after 10
that pass, CART_OSC_FAULT outside ±100 ppm and over after 10 s within ±50 ppm, and ORING_FAULT for good after 10 ms above 1 A in reverse
(R150). -/
def State.cartRound (s : State) (k : Slot) (r : CartRound) : State :=
  let (n1, s) := s.draw
  let (n2, s) := s.draw
  let x := s.cart k
  let bad : Bool := decide (200 < r.proof.natAbs)
  let n := if bad then 0 else bump 10 x.proofOk
  let pf := bad || (x.proofBad && decide (n < 10))
  let okSince := s.track (x.oscBad && decide (r.osc.natAbs ≤ 5000)) x.oscOkSince
  let osc := (x.oscBad && !s.held okSince (10 * sec)) || decide (10000 < r.osc.natAbs)
  let oring := Vector.ofFn fun i => x.oring[i] || (decide (1000 < r.rev[i]) && decide (10 ≤ r.revMs[i]))
  let s := s.modCart k fun y => { y with
    tDie := max (r.fwd.toList.foldl max r.fwd[0]) (r.fw.toList.foldl max r.fw[0]), tMeas := r.meas, tAir := r.air, feedMv := r.feedMv
    busMv := r.busMv, branchMa := branchCurrents r n1, drop := branchDrop r n2, osc := r.osc
    proofBad := pf, proofOk := n, proofAt := if pf ∧ ¬y.proofBad then s.now else y.proofAt
    oscBad := osc, oscOkSince := okSince, oring := oring
    oscBins := if y.holder.isSome then putBin y.oscBins (binOf r.meas) (r.osc * 10) else y.oscBins }
  let s := s.cartFlag k 0x0605 x.proofBad pf r.proof 200
  let s := s.cartFlag k 0x0607 x.oscBad osc r.osc 10000
  let s := s.cartFlag k 0x0403 (x.oring.toList.any id) (oring.toList.any id) (max r.rev[0] r.rev[1] : Nat) 1000
  overList (chansOf k) (fun c s => s.chanRound c r) s

/-- A reading lies in the range of its sensor (R423), in 0.1 °C. -/
def inRange (t hi : DeciDeg) : Bool := decide (-400 ≤ t) && decide (t ≤ hi)

/-- The inlet temperature and the state of its sensors after a round (R425, R452). -/
def State.inletRound (s : State) (r : Vector DeciDeg 2) : State :=
  let x := s.cool
  let ok := fun (i : Fin 2) => inRange r[i] 1250
  let win : Vector (List DeciDeg) 2 := Vector.ofFn fun i => if ok i then (r[i] :: x.inletWin[i]).take 10 else []
  let avg : Vector DeciDeg 2 := Vector.ofFn fun i => if win[i].isEmpty then r[i] else win[i].sum / win[i].length
  let back := Vector.ofFn fun i => s.track (!x.inletOk[i] && ok i) x.inletBack[i]
  let good : Vector Bool 2 := Vector.ofFn fun i => ok i && (x.inletOk[i] || s.held back[i] (10 * sec))
  let gap := (r[0] - r[1]).natAbs
  let (diff, since) := hysteresis s.now x.inletDiff x.inletSince (good[0] && good[1] && decide (50 < gap))
    (!(good[0] && good[1]) || decide (gap ≤ 30)) sec (10 * sec)
  let now := if good[0] ∧ good[1] then max avg[0] avg[1] else if good[0] then avg[0] else if good[1] then avg[1] else 700
  let was := x.inletDiff || !x.inletOk[0] || !x.inletOk[1]
  let is := diff || !good[0] || !good[1]
  let high : Bool := decide (700 < now)
  let s := s.modCool fun y => { y with
    inlet := avg, inletWin := win, inletOk := good, inletBack := back, inletDiff := diff, inletSince := since, inletNow := now
    inletUsed := if 20 ≤ (now - y.inletUsed).natAbs then now else y.inletUsed, inletHigh := high }
  let s := if was = is then s else s.alarmUnit 0x0503 0 is 0x11 (b2n was) (b2n is) gap 50
  if x.inletHigh = high then s else s.alarmUnit 0x0504 0 high 0x11 (b2n x.inletHigh) (b2n high) now 700

/-- DIE_HOT and SENSOR_IMPLAUSIBLE of a channel (R428, R452). -/
def State.dieRound (s : State) (c : Ch) (fwd fw : DeciDeg) : State :=
  let g := (s.chan c).stage
  let off : Bool := g.output = .off && decide (g.offAt + 60 * sec ≤ s.now)
  let odd := !inRange fwd 2000 || !inRange fw 2000 || (off && decide (200 < (fwd - fw).natAbs))
  let (bad, since) := debounce s.now s.cool.dieBad[c] s.cool.dieSince[c] odd 0 (10 * sec)
  let t := max fwd fw
  let was := s.cool.dieHot[c]
  let hot := if bad then was else decide (1500 ≤ t) || (was && decide (1400 ≤ t))
  let s' := s.modCool fun x => { x with
    dieBad := setV x.dieBad c bad, dieSince := setV x.dieSince c since, dieHot := setV x.dieHot c hot }
  let s' := if s.cool.dieBad[c] = bad then s' else s'.chanAlarm c 0x0503 bad (b2n (!bad)) (b2n bad) t
  s'.chanFlag c 0x0210 was hot t 1500

/-- Duty term, %: a line from 30 at `lo` to 100 at `hi` (R437). -/
def dutyTerm (t lo hi : Int) : Int := max 30 (min 100 (30 + (t - lo) * 70 / (hi - lo)))

/-- The duty at which a fan is driven (R440): it stands still in a pause, and a retry of a start check runs at 100 %. -/
def Cool.driveOf (x : Cool) (i : Fin 2) : Nat :=
  match (x.fans[i]).st with
  | .pause | .absent => 0
  | .starting | .stalled => if (x.fans[i]).retries = 0 then x.duty else 100
  | _ => x.duty

/-- Both fans driven as their states and the duty have it. -/
def Cool.driven (x : Cool) : Cool := { x with drive := Vector.ofFn x.driveOf }

/-- The fan duty of a round (R437, R452): the higher term, never below 30 %, moved by at most 10 %. -/
def State.dutyRound (s : State) (die : DeciDeg) : State :=
  let x := s.cool
  let want := if x.inletOk[0] ∨ x.inletOk[1] then max (dutyTerm x.inletNow 250 550) (dutyTerm die 900 1300) else 100
  let d : Int := x.duty
  s.modCool fun y => { y with duty := (max (d - 10) (min (d + 10) want)).toNat, driveAt := some s.now }.driven

/-- A fan counts as running (R439). -/
def Fan.runs (f : Fan) : Bool := f.st = .running || f.st = .tachLost

/-- A fan's readings and running time of a round (R435, R440 to R442). -/
def Fan.round (f : Fan) (now : Instant) (rpm pct : Nat) : Fan :=
  let valid : Bool := decide (300 ≤ rpm)
  let run : Bool := (f.st = .running && !valid) || (f.st = .tachLost && valid)
  let odd : Bool := f.st = .tachLost && (decide (pct < 60) || decide (140 < pct))
  { f with rpm := rpm, pct := pct
           tachSince := if run then some (f.tachSince.getD now) else none
           curSince := if odd then some (f.curSince.getD now) else none
           runMs := if f.runs then f.runMs + 100 else f.runMs
           runSince := if f.runs then some (f.runSince.getD now) else none }

/-- The controllers' own sensors (R423, R429): CTRL_HOT at 120 °C. -/
def State.ctrlRound (s : State) (c : Ctl) (die board : DeciDeg) : State :=
  if (s.ctl c).fitted ∧ (s.ctl c).powered then
    let was := (s.ctl c).sup.ctrlHot
    let hot : Bool := decide (1200 ≤ die)
    let s := s.modSup c fun x => { x with ctrlDie := die, ctrlBoard := board, ctrlHot := hot }
    if was = hot then s else s.alarm c 0x000A c.code hot c.code (b2n was) (b2n hot) die 1200
  else s

/-- The lifetime counters of time, kept by both controllers (R435). -/
def Cone.tick (x : Cone) (step : Nat) (inlet : DeciDeg) : Cone :=
  { x with
    stepMs := Vector.ofFn fun i => x.stepMs[i] + if i.val = step then 100 else 0
    hotMs := if 550 < inlet then x.hotMs + 100 else x.hotMs }

/-- Cell states in row order (R132, R617). -/
def CellState.code : CellState → Nat
  | .absent => 0 | .qualifying => 1 | .precharge => 2 | .qualified => 3 | .weak => 4 | .refused => 5 | .failed => 6

/-- Codes of the fan states, in the row order of R439. -/
def FanState.code : FanState → Nat
  | .starting => 0 | .pause => 1 | .running => 2 | .tachLost => 3 | .stalled => 4 | .stopped => 5 | .blocked => 6 | .absent => 7

/-- Status of a cartridge (R617). -/
def State.cartStatus (s : State) (c : Ctl) (k : Slot) : Nat :=
  let x := s.cart k
  if ¬x.powered then 0 else if x.removing then 4 else if ((s.ctl c).claims[k]).unclaimed then 3 else if x.holder.isNone then 1 else 2

/-- The housekeeping record (R617), 96 bytes. -/
def State.hkBytes (s : State) (c : Ctl) : Bytes :=
  let x := s.cool
  let p := (s.ctl c).sup
  let fan := fun (i : Fin 2) => x.fans[i]
  let feed := fun (i : Fin 2) => (x.feedSt[i]).getD 0xFF
  beInt 8 x.roundAt ++ be 1 s.unitMode.code ++ be 1 x.step ++ be 1 (fan 0).st.code ++ be 1 (fan 1).st.code ++
  be 2 (satU 16 (fan 0).rpm) ++ be 2 (satU 16 (fan 1).rpm) ++ be 1 x.duty ++ zeros 1 ++ beInt 2 x.inletNow ++
  be 1 (feed 0) ++ be 1 (feed 1) ++ zeros 2 ++ beInt 4 x.feedMv[0] ++ beInt 4 x.feedMv[1] ++ beInt 4 x.feedMa[0] ++ beInt 4 x.feedMa[1] ++
  be 1 p.logicSt[0] ++ be 1 p.logicSt[1] ++ be 1 p.cell.code ++ be 1 p.loadTest ++ be 2 (satU 16 p.cellMv.toNat) ++ be 2 (satU 16 p.holdup) ++
  beInt 2 p.ctrlDie ++ beInt 2 p.ctrlBoard ++ beInt 2 x.gnssBoard ++ zeros 2 ++
  (allSlots.flatMap fun k =>
    let y := s.cart k
    be 1 (s.cartStatus c k) ++ (if y.powered then beInt 2 y.tDie ++ beInt 2 y.tMeas ++ beInt 2 y.tAir else zeros 6) ++ zeros 1) ++
  beInt 4 x.totalMa ++ be 4 s.unitLimit

/-- The record of a completed round, as each running controller keeps it (R617). -/
def State.keepHk (s : State) : State :=
  let keep := fun (s : State) (c : Ctl) => if (s.ctl c).running then s.modCtl c fun x => { x with hk := s.hkBytes c } else s
  keep (keep s .a) .b

/-- HOUSEKEEPING_ROUND (R423): every sensor is read once; what the controllers do with the readings is the ACTIVE controller's. -/
def execHousekeepingRound (t : Instant) (r : HkRound) (s : State) : Result :=
  run t (fun s =>
    let s := overList allSlots (fun k s => if (s.cart k).powered then s.cartRound k r.carts[k] else s) s
    let s := (s.ctrlRound .a r.die[0] r.board[0]).ctrlRound .b r.die[1] r.board[1]
    let s := (s.modCtl .a fun x => { x with stale := [] }).modCtl .b fun x => { x with stale := [] }
    match s.active with
    | none => s
    | some w =>
      let s := s.modCool fun x => { x with
        fans := Vector.ofFn fun i => (x.fans[i]).round s.now r.rpm[i] r.pct[i], gnssBoard := r.gnss, roundAt := s.utime w }
      let s := s.inletRound r.inlet
      let s := overList allCh (fun c s => if (s.cart (slotOf c)).powered then
        s.dieRound c (r.carts[slotOf c]).fwd[posOf c] (r.carts[slotOf c]).fw[posOf c] else s) s
      let dies := allSlots.filterMap fun k => if (s.cart k).powered then some (s.cart k).tDie else none
      let s := if (s.ctl w).ready then s.dutyRound (dies.foldl max (-400)) else s
      let s := s.feeds.total
      let s := s.modMram w fun m => { m with cone := m.cone.tick s.cool.step s.cool.inletNow }
      let s := if (s.ctl w.other).standby ∧ s.linkUp then
        s.modMram w.other fun m => { m with cone := m.cone.tick s.cool.step s.cool.inletNow } else s
      let s := s.keepHk
      if 1250 ≤ (s.ctl w).sup.ctrlDie then s.startSwap w 1 else s) s

/-! Shedding. -/

/-- Shedding of each kind as it stands now (R141, R445): begun by FEED_OVERLOAD of 10 s or UNIT_OVERLOAD of 60 s, and gone on with until the feed
carries less than 115 A, or the total stands 10 A below its limit. -/
def State.sheds (s : State) : Vector Bool 2 × Bool :=
  let x := s.cool
  (Vector.ofFn fun i => x.feedOver[i].isSome && (x.shedFeed[i] || s.held x.feedOver[i] (10 * sec)),
   (x.unitOver.isSome && s.held x.unitOver (60 * sec)) || (x.shedUnit && decide ((s.unitLimit : Int) - 10000 ≤ x.totalMa)))

/-- In LIMP and SPLIT mode nothing is shed (R143, R450). -/
def State.shedMode (s : State) : Bool := s.unitMode = .dual || s.unitMode = .solo

/-- A shed may be prepared: the mode sheds, and no shed is in preparation (R142, R143). -/
def State.shedFree (s : State) (w : Ctl) : Bool := s.shedMode && !(s.ctl w).mram.slots.any fun j => j.kind = 4 && j.st = .prepared

/-- A shed may be made: nothing was shed within the last 100 ms (R141, R451). -/
def State.shedNow (s : State) (w : Ctl) : Bool :=
  s.shedFree w &&
  (match s.cool.shedAt with
   | some a => decide (a + 100 * msec ≤ s.now)
   | none => true)

/-- No wait after a host's turn-on stands against it (R146). -/
def State.mayShed (s : State) (w : Ctl) : Bool := s.shedNow w && s.cool.shedResume.isNone

/-- SHED (R141, R143): one channel, the one of the highest rank; none left ends the shedding. -/
def execShed (t : Instant) (s : State) : Result :=
  run t (fun s =>
    match s.active with
    | none => s
    | some w =>
      let due := s.sheds
      let s := s.modCool fun x => { x with shedFeed := due.1, shedUnit := due.2 }
      when ((due.1[0] || due.1[1] || due.2) && s.mayShed w) (fun s => match s.nextShed w with
        | none => s
        | some c => (s.shedChan w c).modCool fun x => { x with shedAt := some s.now }) s) s

/-- SHED_RESUME (R146). -/
def execShedResume (t : Instant) (s : State) : Result :=
  run t (fun s => when (match s.cool.shedResume with
    | some a => decide (a ≤ s.now)
    | none => false) (fun s => s.modCool fun x => { x with shedResume := none }) s) s

/-- CH_DERATE_EXCEEDED (R446): the alarm after 10 s, its end with the timer's reset, and the shed after DERATE_GRACE. -/
def execChDerateExceeded (t : Instant) (ch : Ch) (s : State) : Result :=
  run t (fun s =>
    match s.active with
    | none => s
    | some w =>
      let c := s.itemCh ch
      let above := s.cool.overSince[c]
      let was := s.cool.exceeded[c]
      let back := s.cool.underSince[c].isNone
      let now : Bool := above.isSome && (was || (back && s.held above (10 * sec)))
      let s := (s.modCool fun x => { x with exceeded := setV x.exceeded c now }).chanFlag c 0x0211 was now (s.checkedMa c) (s.checkedLimit c)
      when (now && back && s.held above (s.item 0x0801 0 * sec) && s.sheddable w c && s.shedNow w)
        (fun s => (s.shedChan w c).modCool fun x => { x with shedAt := some s.now }) s) s

/-! Derating and fans. -/

/-- The step that failed fans call for at once: those stopped, blocked or absent (R443, R452; log entry 13). -/
def Cool.stepUp (x : Cool) : Nat := (x.fans.toList.filter fun f => f.st = .stopped || f.st = .blocked || f.st = .absent).length

/-- The step that fans running for 10 s justify (R444). -/
def State.stepDown (s : State) : Nat := 2 - (s.cool.fans.toList.filter fun f => f.runs && s.held f.runSince (10 * sec)).length

/-- A derate step taken: DERATE_STEP is an alarm while the step is not 0, and every change is a record. -/
def State.takeStep (s : State) (n : Nat) : State :=
  let was := s.cool.step
  if n = was then s
  else
    let s := s.modCool fun x => { x with step := n }
    if was = 0 ∨ n = 0 then s.alarmUnit 0x0502 0 (n ≠ 0) 0x11 was n s.cool.inletNow
    else s.logUnit 0x0502 0 0x11 0 (stdBody was n s.cool.inletNow)

/-- DERATE_STEP (R444): up at once, down when the fans that justify it have run for 10 s. -/
def execDerateStep (t : Instant) (s : State) : Result :=
  run t (fun s =>
    when s.active.isSome (fun s =>
      let up := s.cool.stepUp
      if s.cool.step < up then s.takeStep up
      else if s.stepDown < s.cool.step then s.takeStep (max up s.stepDown) else s) s) s

/-- FAN_TRAY_TIMEOUT (R38, R438, R450): no drive command for 100 ms. -/
def execFanTrayTimeout (t : Instant) (s : State) : Result :=
  run t (fun s => when (s.cool.tray && (match s.cool.driveAt with
    | some a => decide (a + 100 * msec ≤ s.now)
    | none => true)) (fun s => s.modCool fun x => { x with duty := 100, drive := Vector.replicate 2 100 }) s) s

/-- A fan state that is a fault (R452). -/
def FanState.fault : FanState → Bool
  | .tachLost => true | .stalled => true | .stopped => true | .blocked => true | _ => false

/-- A change of one fan. -/
def State.modFan (s : State) (i : Fin 2) (f : Fan → Fan) : State := s.modCool fun x => { x with fans := modV x.fans i f }

/-- A fan enters a state: a fault raises FAN_STATE, RUNNING clears it, and a change from one fault to another is a record (R452). -/
def State.fanTo (s : State) (i : Fin 2) (st : FanState) : State :=
  let was := (s.cool.fans[i]).st
  let s := (s.modFan i fun f => { f with
    st := st, at_ := s.now, tachSince := none, curSince := none
    runSince := if st = .running ∨ st = .tachLost then some (f.runSince.getD s.now) else none
    starts := if st = .starting ∨ st = .stalled then f.starts + 1 else f.starts
    blocks := if st = .blocked then f.blocks + 1 else f.blocks }).modCool fun x => x.driven
  if st.fault then
    if (s.ctl s.lead).alarmed 0x0501 (i.val + 1) then s.logUnit 0x0501 0 0x11 (i.val + 1) (stdBody was.code st.code)
    else s.alarmUnit 0x0501 (i.val + 1) true 0x11 was.code st.code
  else if st = .running then s.alarmUnit 0x0501 (i.val + 1) false 0x11 was.code st.code
  else if st = .absent then s.logUnit 0x0501 0 0x11 (i.val + 1) (stdBody was.code st.code)
  else s

/-- A start check begins (R440). -/
def State.startFan (s : State) (i : Fin 2) (st : FanState := .starting) : State :=
  (s.modFan i fun f => { f with retries := 0 }).fanTo i st

/-- FAN_START_CHECK (R440): an attempt that reaches 300 rpm ends in RUNNING at once; one that has not within 2 s pauses for 5 s, and after the
third retry the fan is blocked; a pause ends with the next attempt. -/
def execFanStartCheck (t : Instant) (i : Fin 2) (rpm : Nat) (s : State) : Result :=
  run t (fun s =>
    let f := s.cool.fans[i]
    when (s.cool.tray && s.active.isSome) (fun s =>
      match f.st with
      | .pause =>
        if f.at_ + 5 * sec ≤ s.now then (s.modFan i fun g => { g with retries := f.retries + 1, rpm := rpm }).fanTo i .starting else s
      | .starting | .stalled =>
        let s := s.modFan i fun g => { g with rpm := rpm }
        if 300 ≤ rpm then s.fanTo i .running
        else if f.at_ + 2 * sec ≤ s.now then (if 3 ≤ f.retries then s.fanTo i .blocked else s.fanTo i .pause)
        else s
      | _ => s) s) s

/-- The class of a fan without tachometer, by its supply current (R441). -/
def fanClass (pct : Nat) : FanState := if pct < 60 then .stopped else if pct ≤ 140 then .tachLost else .stalled

/-- FAN_TACH_FAULT (R441, R442): no tachometer for 1 s and the supply current over the next 1 s, or a lost one whose current leaves the band
for 1 s. A stalled fan is in its start check from then on. -/
def execFanTachFault (t : Instant) (i : Fin 2) (rpm pct : Nat) (s : State) : Result :=
  run t (fun s =>
    let f := s.cool.fans[i]
    let due : Bool := (f.st = .running && s.held f.tachSince (2 * sec) && decide (rpm < 300)) ||
      (f.st = .tachLost && s.held f.curSince sec && fanClass pct ≠ .tachLost)
    when (s.cool.tray && s.active.isSome && due) (fun s =>
      let st := fanClass pct
      let s := s.modFan i fun g => { g with rpm := rpm, pct := pct }
      if st = .stalled then s.startFan i .stalled else s.fanTo i st) s) s

/-- FAN_TACH_RECOVERY (R442): 10 s of valid readings. -/
def execFanTachRecovery (t : Instant) (i : Fin 2) (rpm : Nat) (s : State) : Result :=
  run t (fun s =>
    let f := s.cool.fans[i]
    when (s.cool.tray && s.active.isSome && f.st = .tachLost && s.held f.tachSince (10 * sec) && decide (300 ≤ rpm))
      (fun s => (s.modFan i fun g => { g with rpm := rpm }).fanTo i .running) s) s

/-- FAN_RETRY (R442): every 10 min. -/
def execFanRetry (t : Instant) (i : Fin 2) (s : State) : Result :=
  run t (fun s =>
    let f := s.cool.fans[i]
    when (s.cool.tray && s.active.isSome && (f.st = .stopped || f.st = .blocked) && decide (f.at_ + 600 * sec ≤ s.now))
      (fun s => s.startFan i) s) s

/-- FAN_TRAY_PRESENCE (R447, R451): removal sets ABSENT and step 2; an inserted tray runs at 100 %, and the ACTIVE controller starts a check of its
fans. -/
def execFanTrayPresence (t : Instant) (present : Bool) (s : State) : Result :=
  run t (fun s =>
    if present = s.cool.tray then s
    else if present then
      let s := s.modCool fun x => { x with tray := true, duty := 100, driveAt := none }
      if s.active.isSome then (s.startFan 0).startFan 1
      else s.modCool fun x => { x with
        fans := x.fans.map fun f => { f with st := .starting, at_ := s.now, retries := 0 }, drive := Vector.replicate 2 100 }
    else
      let s := ((s.modCool fun x => { x with tray := false }).fanTo 0 .absent).fanTo 1 .absent
      if s.active.isSome then s.takeStep 2 else s) s

/-- Fans at a new ACTIVE controller (R451, R455): a running start check begins afresh, a blocked fan stays so, and what counts time restarts. -/
def State.fansAfresh (s : State) : State :=
  if s.cool.tray then
    overList [(0 : Fin 2), 1] (fun i s =>
      match (s.cool.fans[i]).st with
      | .starting | .pause => s.startFan i
      | .stalled => s.startFan i .stalled
      | _ => s.modFan i fun f => { f with tachSince := none, curSince := none }) s
  else s

/-- Fans at command-ready (R453, R451): one at 300 rpm or more is RUNNING, a blocked one stays so, any other starts a check. -/
def State.fansReady (s : State) : State :=
  if s.cool.tray then
    overList [(0 : Fin 2), 1] (fun i s =>
      let f := s.cool.fans[i]
      if f.st = .blocked then s else if 300 ≤ f.rpm then s.fanTo i .running else s.startFan i) s
  else (s.fanTo 0 .absent).fanTo 1 .absent

/-! Die shutdowns. -/

/-- A pending cone entry of a power-die shutdown, or a count where 16 are pending (R434, R454). -/
def State.coneOnset (s : State) (c : Ch) (fw : Bool) (temp : DeciDeg) : State :=
  let k := slotOf c
  let x := s.cart k
  let e : ConeEntry :=
    { onset := s.cartTime k, from_ := s.now, die := if fw then 2 else 1, slot := k.val + 1, channel := numOf c
      flags := b2n (x.holder.isNone || x.unset) ||| (b2n (s.chan c).ctrl.twinned <<< 1) ||| (b2n s.cool.dieBad[c] <<< 2)
      mode := s.unitMode.code, step := s.cool.step, peak := temp, inlet := s.cool.inletNow
      current := (((s.chan c).meas.avg1ms.current).getD 0) / 1000, bus := x.busMv, serial := x.serial }
  s.modCart k fun y =>
    if y.cone.length < 16 then { y with cone := y.cone ++ [e] }
    else { y with coneLost := modV y.coneLost ⟨(posOf c).val + (if fw then 4 else 0), by have := (posOf c).isLt; split <;> omega⟩ (· + 1) }

/-- DIE_THERMAL_SHUTDOWN (R426, R434): the comparator acts in a debug halt too (R281, R451). -/
def execDieThermalShutdown (t : Instant) (c : Ch) (fw : Bool) (temp : DeciDeg) (s : State) : Result :=
  run t (fun s =>
    let p := (s.chan c).prot
    when ((s.cart (slotOf c)).powered && decide (1700 ≤ temp) && !(if fw then p.dieFw else p.dieFwd)) (fun s =>
      let s := s.coneOnset c fw temp
      let s := s.modProt c fun q => if fw then { q with dieFw := true, dieTemp := temp } else { q with dieFwd := true, dieTemp := temp }
      s.trip c 0x13) s) s

/-- DIE_THERMAL_EXIT (R427, R433). -/
def execDieThermalExit (t : Instant) (c : Ch) (fw : Bool) (temp : DeciDeg) (s : State) : Result :=
  run t (fun s =>
    let p := (s.chan c).prot
    when ((s.cart (slotOf c)).powered && decide (temp < 1500) && (if fw then p.dieFw else p.dieFwd)) (fun s =>
      let s := s.modProt c fun q =>
        if fw then { q with dieFw := false, dieExit := s.now } else { q with dieFwd := false, dieExit := s.now }
      let die := if fw then 2 else 1
      s.modCart (slotOf c) fun y => { y with cone := y.cone.map (fun e =>
        if e.channel = numOf c ∧ e.die = die ∧ e.lasted.isNone then { e with lasted := some ((s.now - e.from_) / msec) } else e) }) s) s

/-! The cone record. -/

/-- A die's lifetime counter raised by a number (R435). -/
def Cone.count (x : Cone) (e : ConeEntry) : Cone :=
  let i : Fin 16 := ⟨(e.channel - 1) % 16, Nat.mod_lt _ (by decide)⟩
  if e.die = 1 then { x with fwd := modV x.fwd i (· + 1) }
  else if e.die = 2 then { x with fw := modV x.fw i (· + 1) }
  else { x with ctrl := if e.slot = 0x0A then modV x.ctrl 0 (· + 1) else modV x.ctrl 1 (· + 1) }

/-- The lifetime counter of an entry's die. -/
def Cone.lifeOf (x : Cone) (e : ConeEntry) : Nat :=
  let i : Fin 16 := ⟨(e.channel - 1) % 16, Nat.mod_lt _ (by decide)⟩
  if e.die = 1 then x.fwd[i] else if e.die = 2 then x.fw[i] else if e.slot = 0x0A then x.ctrl[0] else x.ctrl[1]

/-- Entries a cone record holds (R431). -/
def coneSize : Nat := 1024

/-- An entry written (R433), or a shutdown not recorded where the record is full (R449). -/
def Cone.put (x : Cone) (e : ConeEntry) : Cone :=
  let x := x.count e
  if x.entries.length < coneSize then
    { x with entries := x.entries ++ [{ e with index := x.next, life := x.lifeOf e }], next := wrap32 x.next }
  else { x with missed := x.missed + 1 }

/-- An entry completed at its exit (R433). -/
def Cone.complete (x : Cone) (i lasted : Nat) (peak : DeciDeg) : Cone :=
  { x with entries := x.entries.map fun e => if e.index = i then { e with lasted := some lasted, peak := peak } else e }

/-- A change of the cone record of a controller and of the standby that mirrors it (R431). -/
def State.modCone (s : State) (w : Ctl) (f : Cone → Cone) : State :=
  let g := fun (m : Mram) => { m with cone := f m.cone }
  let s := s.modMram w g
  if (s.ctl w.other).standby ∧ s.linkUp then s.modMram w.other g else s

/-- A new entry in the record, logged, with CONE_FULL when it fills the record (R449). -/
def State.putCone (s : State) (w : Ctl) (e : ConeEntry) : State :=
  let x := (s.ctl w).mram.cone
  let fits : Bool := decide (x.entries.length < coneSize)
  let s := s.modCone w (·.put e)
  let s := if fits then
      s.logEv w 0x0505 0 e.slot e.channel (stdBody 0 x.next e.peak (if e.die = 3 then 1350 else 1700) 0 e.serial)
    else s
  if coneSize ≤ (s.ctl w).mram.cone.entries.length then s.alarm w 0x0506 0 true w.code 0 1 coneSize else s

/-- One pending entry collected: written at the first collection, completed at the one after its exit. -/
def State.collect (s : State) (w : Ctl) (e : ConeEntry) : State × List ConeEntry :=
  let x := (s.ctl w).mram.cone
  if e.sent then
    match e.lasted with
    | some ms => (s.modCone w (·.complete e.index ms e.peak), [])
    | none => (s, [e])
  else
    let s' := s.putCone w e
    (s', if e.lasted.isSome ∨ coneSize ≤ x.entries.length then [] else [{ e with sent := true, index := x.next }])

/-- Pending entries and counts of a cartridge taken over by the ACTIVE controller (R434). -/
def State.coneCollect (s : State) (w : Ctl) (k : Slot) : State :=
  let (s, kept) := (s.cart k).cone.foldl (fun (acc : State × List ConeEntry) e =>
    let (s, l) := acc.1.collect w e
    (s, acc.2 ++ l)) (s, [])
  let lost := (s.cart k).coneLost
  let s := s.modCart k fun y => { y with cone := kept, coneLost := Vector.replicate 8 0 }
  s.modCone w fun x =>
    let i := fun (p : Fin 4) => chOf k p
    let y := (List.finRange 4).foldl (fun (x : Cone) p =>
      { x with fwd := modV x.fwd (i p) (· + lost[p.val]), fw := modV x.fw (i p) (· + lost[p.val + 4]) }) x
    { y with missed := y.missed + lost.toList.sum }

/-- CONE_COLLECT (R434). -/
def execConeCollect (t : Instant) (k : Slot) (s : State) : Result :=
  run t (fun s =>
    match s.active with
    | none => s
    | some w => when (s.holds w k && (s.cart k).powered) (fun s => s.coneCollect w k) s) s

/-- The lifetime counters of fans go with the tray's fans; the entry of a cone record as 64 bytes (R432), without its CRC. -/
def ConeEntry.head (e : ConeEntry) : Bytes :=
  beInt 8 e.onset ++ be 1 e.die ++ be 1 e.slot ++ be 1 e.channel ++ be 1 e.flags ++ be 1 e.mode ++ be 1 e.step ++
  beInt 2 e.peak ++ beInt 2 e.inlet ++ zeros 2 ++ beInt 4 e.current ++ beInt 4 e.bus ++
  (match e.lasted with
   | some ms => be 4 (satU 32 ms)
   | none => be 4 0xFFFFFFFF) ++
  be 4 e.life ++ padTo 12 e.serial ++ be 4 e.index ++ zeros 8

/-- The entry with its CRC-32. -/
def ConeEntry.bytes (e : ConeEntry) : Bytes := e.head ++ be 4 (crc32 e.head)

end Sys2Proof.Machine
end

