-- ==== Sys2Proof/Machine/Claims.lean ====
section
/-!
DEFINITION. Machine/Claims.lean: claiming the cartridges (R175 to R184, R189, R190, R413): the steps of a claim, the restore transaction, and
what a cartridge takes over at CLAIM_GO.
-/
namespace Sys2Proof.Machine

/-- A change of a controller's claim of one cartridge. -/
def State.modClaim (s : State) (c : Ctl) (k : Slot) (f : Claim → Claim) : State :=
  s.modCtl c fun x => { x with claims := modV x.claims k f }

/-- A change of a controller's view of one cartridge. -/
def State.modSeen (s : State) (c : Ctl) (k : Slot) (f : Seen → Seen) : State :=
  s.modCtl c fun x => { x with seen := modV x.seen k f }

/-- One above the highest claim epoch reported (R176). -/
def State.nextClaim (s : State) (c : Ctl) : Nat := ((s.ctl c).seen.toList.map (·.epoch)).foldl max 0 + 1

/-- CLAIM_REQ sent to a cartridge that is present and stays (R176, R899). -/
def State.sendClaim (s : State) (c : Ctl) (k : Slot) : State :=
  if s.present c k ∧ ¬(s.cart k).removing then
    let e := s.nextClaim c
    s.modClaim c k fun x => { x with st := .requested, epoch := e, at_ := s.now, retryAt := none, jsn := 0 }
  else s

/-- The stored claim epoch of a cartridge reset to 0, and CLAIM_EXHAUSTED cleared; holder, image and outputs stay (R966). -/
def State.resetEpoch (s : State) (c : Ctl) (k : Slot) : State :=
  let s := s.modCart k fun y => { y with epoch := 0 }
  let s := (s.modClaim c k fun y => { y with reset := false, exhausted := false }).modSeen c k fun y => { y with epoch := 0 }
  (s.alarm c 0x010E (k.val + 1) false (k.val + 1) 1 0 0 0 (s.cart k).serial).logEv c 0x0E04 0 (k.val + 1) (k.val + 1)
    (stdBody 0 0 0 0 0 (s.cart k).serial)

/-- A claim that failed (R189): a retry after 20 ms, CART_UNCLAIMED after the fifth failure in a row, and every 1 s from then on. -/
def State.failClaim (s : State) (c : Ctl) (k : Slot) : State :=
  let n := ((s.ctl c).claims[k]).fails + 1
  let was := ((s.ctl c).claims[k]).unclaimed
  let un := was || decide (5 ≤ n)
  let s := s.modClaim c k fun x => { x with
    st := .idle, fails := n, unclaimed := un, retryAt := some (s.now + if un then sec else 20 * msec) }
  let s := if un then s.alarm c 0x010D (k.val + 1) true (k.val + 1) 0 n 0 5 (s.cart k).serial else s
  if ((s.ctl c).claims[k]).reset then s.resetEpoch c k else s

/-- CLAIM_REQ (R176, R190, R192): the cartridge arms with an epoch above both its stored one and any it holds armed; else it refuses. -/
def execClaimReq (t : Instant) (c : Ctl) (k : Slot) (s : State) : Result :=
  run t (fun s =>
    let cl := (s.ctl c).claims[k]
    let x := s.cart k
    when ((s.ctl c).running && cl.st = .requested && x.armedBy.all (fun a => a.1 ≠ c ∨ a.2.1 ≠ cl.epoch)) (fun s =>
      let armed := (x.armedBy.map (·.2.1)).getD 0
      if x.powered ∧ x.epoch < cl.epoch ∧ armed < cl.epoch ∧ cl.epoch < 2 ^ 32 then
        s.modCart k fun y => { y with armedBy := some (c, cl.epoch, s.now) }
      else s.failClaim c k) s) s

/-! The restore transaction. -/

/-- The HOST level and settings that a claim gives a channel in limp-home (R180, R181, R413): those journaled for the pair where the partner
is claimed by the same controller, else by RESTORE, for both halves of a twin as for the lower one. -/
def State.restoreOf (s : State) (c : Ctl) (ch : Ch) : Level × PwmSet :=
  let m := (s.ctl c).mram
  let joins : Bool := m.items.val 0x0201 ((pairOf ch).val + 1) = 1 && s.holds c (slotOf (partner ch))
  if joins then ((m.hosts[partner ch]).level, (m.hosts[partner ch]).pwm)
  else
    let twin : Bool := m.items.val 0x0201 ((pairOf ch).val + 1) = 1
    let low := if twin then lowOf (pairOf ch) else ch
    let mode := m.items.val 0x011C (numOf low)
    let now := m.hosts[low]
    if mode = 0 then (now.level, now.pwm)
    else if mode = 1 then (.off, now.pwm)
    else
      let d := s.demands (if s.present c (slotOf low) then low else ch) .limp
      match d.1 with
      | .pwm => (.pwm, d.2)
      | .on => (.on, now.pwm)
      | _ => (.off, now.pwm)

/-- The restore transaction of one cartridge (R180): it sets HOST levels and settings only (R182). -/
def State.restoreTx (s : State) (c : Ctl) (k : Slot) : JSlot :=
  { kind := 2, changes := (chansOf k).flatMap fun ch =>
      let r := s.restoreOf c ch
      [.level ch r.1 false, .pwm ch r.2] }

/-- CLAIM_ACK (R176): a cartridge in limp-home has its restore transaction committed; one that holds its setpoints needs none (R184). -/
def execClaimAck (t : Instant) (c : Ctl) (k : Slot) (s : State) : Result :=
  run t (fun s =>
    let cl := (s.ctl c).claims[k]
    let x := s.cart k
    when ((s.ctl c).running && (s.ctl c).role = .active && cl.st = .requested && x.armedBy.any (fun a => a.1 = c ∧ a.2.1 = cl.epoch)) (fun s =>
      let limp := x.holder.isNone
      let n := (s.ctl c).mram.jsn
      let s := s.modClaim c k fun y => { y with st := .acked, limp := limp, digest := x.digest, jsn := if limp then n else 0, at_ := s.now }
      if limp then s.prepareTx c replyParams (s.restoreTx c k) else s) s) s

/-- The setpoints of a controller's image for one cartridge (R866). -/
def Ctlr.setsOf (x : Ctlr) (k : Slot) : List Setpoint := (chansOf k).map fun c => x.image[c]

/-- LIMIT_SHARE of a half (R391, R411): 0.5 while its partner is claimed by the same controller, stays, and conducts. -/
def State.shareOf (s : State) (c : Ctl) (ch : Ch) : Nat :=
  let p := (s.ctl c).seen[slotOf (partner ch)]
  if s.twinned (pairOf ch) ∧ p.holder = some c ∧ ¬p.removing ∧ s.conducts c (partner ch) then 1 else 2

/-- The pair's retry release (R406): some half is TRIPPED, and each such half has its attempt due. -/
def State.pairRelease (s : State) (p : Pair) : Bool :=
  let trip := fun (c : Ch) => (s.chan c).prot.trip = .tripped
  let ok := fun (c : Ch) => !trip c || s.retryDue c
  (trip (lowOf p) || trip (highOf p)) && ok (lowOf p) && ok (highOf p)

/-- The setpoint of one channel as the next frame carries it. -/
def State.setpointOf (s : State) (c : Ctl) (ch : Ch) : Setpoint :=
  let twin := s.twinned (pairOf ch)
  let w := s.twin (pairOf ch)
  { (s.ctl c).image[ch] with
    share := s.shareOf c ch
    trim := if twin ∧ s.bothRun c (pairOf ch) then (if isHigh ch then w.trimHigh else w.trimLow) else 0
    release := twin && s.pairRelease (pairOf ch) }

/-- What a claimed cartridge takes from its claimant (R177, R183, R185, R231): the token, the image, unit time, its items, and HOST governing
every channel by the handover policy; the insertion hold ends, and a twin half joins (R412, R413). -/
def State.takeToken (s : State) (c : Ctl) (k : Slot) (epoch : Nat) : State :=
  let x := s.ctl c
  let s := s.modCart k fun y => { y with
    holder := some c, epoch := epoch, armedBy := none, claimAt := s.now, holdAt := s.now, limpMoved := false, imgJsn := x.imgJsn
    timeOff := s.utime c - s.now, unset := x.time.st = .unset, hsTested := false }
  let s := overList (chansOf k) (fun ch s =>
    let sp := s.setpointOf c ch
    let s := s.modChan ch fun y => { y with set := sp, ctrl := { y.ctrl with insHold := none } }
    s.joinCheck ch) s
  let s := s.writeCart c k
  overList (chansOf k) (fun ch s => s.resource ch 6) s

/-- What the controller notes when its claim has succeeded (R158, R189, R434). -/
def State.claimed (s : State) (c : Ctl) (k : Slot) : State :=
  let x := s.cart k
  let s := s.modClaim c k fun y => { y with st := .held, fails := 0, unclaimed := false, retryAt := none }
  let s := s.modSeen c k fun y => { y with holder := some c, epoch := x.epoch, served := false }
  let s := s.alarm c 0x010D (k.val + 1) false (k.val + 1) 1 0 0 5 x.serial
  let all := allSlots.all fun j => !s.present c j || (s.cart j).removing || ((s.ctl c).claims[j]).st = .held
  let s := if all then s.modCtl c fun y => { y with miles := setV y.miles 3 (some ((y.miles[3]).getD s.now)) } else s
  let s := (s.coneCollect c k).noteMode
  if ((s.ctl c).claims[k]).reset then s.resetEpoch c k else s

/-- A cartridge that holds its setpoints is taken as it is (R176, R184, R880): the token, the holder's time and its items change, no output does. -/
def State.adoptHeld (s : State) (c : Ctl) (k : Slot) (epoch : Nat) : State :=
  let x := s.ctl c
  let s := s.modCart k fun z => { z with
    holder := some c, epoch := epoch, armedBy := none, claimAt := s.now, holdAt := s.now, limpMoved := false, imgJsn := x.imgJsn
    timeOff := s.utime c - s.now, unset := x.time.st = .unset, hsTested := false, latchAt := none }
  s.writeCart c k

/-- HOST level and settings as a cartridge holds them (R184, R882). -/
def HostSet.ofHeld (h : HostSet) (sp : Setpoint) : HostSet := { h with level := sp.level, pwm := sp.pwm, cmds := sp.cmds, sets := sp.sets }

/-- The claimant takes the levels and settings that the channels of a cartridge hold, into its journal state and its image (R184). -/
def State.takeHeld (s : State) (c : Ctl) (k : Slot) : State :=
  let put := fun (x : Ctlr) => { x with
    mram := { x.mram with hosts := Vector.ofFn fun ch => if slotOf ch = k then (x.mram.hosts[ch]).ofHeld (s.chan ch).set else x.mram.hosts[ch] }
    image := Vector.ofFn fun ch =>
      let sp := (s.chan ch).set
      if slotOf ch = k then { x.image[ch] with level := sp.level, pwm := sp.pwm, cmds := sp.cmds, sets := sp.sets } else x.image[ch] }
  let s := s.modCtl c put
  if s.paired then s.modCtl c.other put else s

/-- CLAIM_GO at one cartridge (R177, R184): a changed limp digest refuses it with LIMP_MOVED. One that held its setpoints at CLAIM_ACK and has entered
limp-home since has no restore transaction, and is claimed afresh: DESIGN CHOICE, log entry 66. -/
def State.goOne (s : State) (c : Ctl) (k : Slot) : State :=
  let cl := (s.ctl c).claims[k]
  let x := s.cart k
  if x.armedBy.any (fun a => a.1 = c ∧ a.2.1 = cl.epoch) then
    if x.digest ≠ cl.digest then (s.modCart k fun y => { y with armedBy := none, limpMoved := true }).failClaim c k
    else if x.holder.isSome then ((s.takeHeld c k).adoptHeld c k cl.epoch).claimed c k
    else if cl.limp then (s.takeToken c k cl.epoch).claimed c k
    else (s.modCart k fun y => { y with armedBy := none }).failClaim c k
  else s.failClaim c k

/-- The restore transaction of a claim, where it has one, is released (R177). -/
def State.restored (s : State) (c : Ctl) (k : Slot) : Bool :=
  ((s.ctl c).mram.slot ((s.ctl c).claims[k]).jsn).all (·.released)

/-- CLAIM_GO (R177, R178): sent once the restore transaction is released. Before command-ready it waits for every claim under way, and goes to all
cartridges in one frame slot. -/
def execClaimGo (t : Instant) (c : Ctl) (k : Slot) (s : State) : Result :=
  run t (fun s =>
    let x := s.ctl c
    let acked := fun (j : Slot) => (x.claims[j]).st = .acked
    let go := if x.ready then [k] else allSlots.filter fun j => acked j && (s.cart j).powered
    let wait := !x.ready && allSlots.any fun j => (x.claims[j]).st = .requested || (acked j && !s.restored c j)
    when (x.running && x.role = .active && acked k && s.restored c k && (s.cart k).powered && !wait)
      (fun s => overList go (fun j s => s.goOne c j) s) s) s

/-- CLAIM_ARM_TIMEOUT (R177): the cartridge disarms 20 ms after its CLAIM_ACK, and the claim has failed. -/
def execClaimArmTimeout (t : Instant) (k : Slot) (s : State) : Result :=
  run t (fun s =>
    match (s.cart k).armedBy with
    | none => s
    | some (c, e, at_) => when (decide (at_ + 20 * msec ≤ s.now)) (fun s =>
        let s := s.modCart k fun y => { y with armedBy := none }
        let cl := (s.ctl c).claims[k]
        if cl.epoch = e ∧ (cl.st = .requested ∨ cl.st = .acked) ∧ (s.ctl c).running then s.failClaim c k else s) s) s

/-- The controller holds a claim of a cartridge whose status frames have stopped for CART_HOLD: by then the cartridge has left it (R186). -/
def State.claimSilent (s : State) (c : Ctl) (k : Slot) : Bool :=
  ((s.ctl c).claims[k]).st = .held && s.held ((s.ctl c).seen[k]).at_ (ms (s.itemAt c 0x0701 (k.val + 1)))

/-- CLAIM_RETRY (R189): the retry of a failed claim; the time-out of one that no CLAIM_ACK has answered, which fails it; and a claim afresh where
silence has ended one (log entry 57). -/
def execClaimRetry (t : Instant) (c : Ctl) (k : Slot) (s : State) : Result :=
  run t (fun s =>
    let cl := (s.ctl c).claims[k]
    when ((s.ctl c).running && (s.ctl c).role = .active) (fun s =>
      match cl.retryAt with
      | some a => if a ≤ s.now then s.sendClaim c k else s
      | none =>
        if cl.st = .requested ∧ cl.at_ + 20 * msec ≤ s.now then s.failClaim c k
        else if s.claimSilent c k then (s.modClaim c k fun x => { x with st := .idle }).sendClaim c k
        else s) s) s

end Sys2Proof.Machine
end

