-- ==== Sys2Proof/Machine/Frames.lean ====
section
/-!
DEFINITION. Machine/Frames.lean: setpoint and status frames (R161, R866 to R870, R910), scheduled transactions at the cartridges (R554 to R557,
R604), and what the ACTIVE controller logs from status frames (R411, R801, R813).
-/
namespace Sys2Proof.Machine

/-! Setpoint frames. -/

/-- The unit time at which the frame slot after the present one starts (R910). -/
def State.nextSlot (s : State) (c : Ctl) : UnitTime := s.utime c / 10000 * 10000 + 10000

/-- The same on the running clock. -/
def State.nextSlotAt (s : State) (c : Ctl) : Instant := s.now + (s.nextSlot c - s.utime c).toNat

/-- The frame that a controller sends to a slot for the next frame slot (R910). -/
def State.frameTo (s : State) (c : Ctl) (k : Slot) : Frame :=
  let x := s.ctl c
  { ctl := c, image := (chansOf k).map fun ch => s.setpointOf c ch, imgJsn := x.imgJsn, time := s.nextSlot c, due := s.nextSlotAt c
    unset := x.time.st = .unset, voyAck := x.voyAck[k], acts := x.acts[k], latch := x.latchAt }

/-- Scheduled transactions whose T has come by the start of the next slot, in the order in which they were accepted (R557, R868). -/
def State.due (s : State) (c : Ctl) : List JSlot :=
  (s.ctl c).mram.slots.filter fun j => j.sched && j.released && !j.taken && maskAny j.mask && decide (j.time ≤ s.nextSlot c)

/-- The waiting changes of a scheduled transaction taken at every controller that holds it. -/
def State.takeBoth (s : State) (c : Ctl) (jsn : Nat) : State :=
  let s := s.takeTx c jsn
  if (s.ctl c.other).standby ∧ s.linkUp then s.takeMirror c.other jsn else s

/-- FRAME_SLOT (R866, R868, R910): at each whole multiple of 10 µs of its unit time, the ACTIVE controller sends every cartridge the frame of the next slot,
with the transactions released so far and the scheduled ones whose T will have come at its start. -/
def execFrameSlot (t : Instant) (c : Ctl) (s : State) : Result :=
  run t (fun s =>
    when ((s.ctl c).running && (s.ctl c).role = .active && !(s.ctl c).sup.failing && decide ((s.ctl c).slotDue ≤ s.now)) (fun s =>
      let s := overList (s.due c) (fun j s => s.takeBoth c j.jsn) s
      let due := s.nextSlotAt c
      let s := s.modCtl c fun x => { x with
        tx := Vector.ofFn fun k => (x.tx[k]).drop ((x.tx[k]).length - 1) ++ [s.frameTo c k]
        acts := Vector.replicate 4 [], voyAck := Vector.replicate 4 [], slotDue := due }
      let carried := fun (j : JSlot) =>
        if j.released ∧ maskAny j.mask ∧ j.frameAt.isNone ∧ (j.taken ∨ ¬j.sched) then { j with frameAt := some due } else j
      s.modMram c fun m => { m with slots := m.slots.map carried }) s) s

/-- Cause of a change of output by the HOST level (R224): 9 shed, 6 restore at claim, 1 command. -/
def State.hostCause (s : State) (c : Ctl) (ch : Ch) : Nat :=
  let h := (s.ctl c).mram.hosts[ch]
  if h.shed then 9 else if h.rest then 6 else 1

/-- A setpoint that has come for a channel (R866): a command of HOST acts as one (R838); another change of level or settings, and a SET_PWM that
repeats them (R304, R339), apply where HOST governs and no hold or soak keeps the present level (R837); under a force the settings reach the
generator beneath it (R325, R337). An equal one changes nothing, and never restarts a generator (R326, R342). -/
def State.putSetpoint (s : State) (c : Ctl) (ch : Ch) (sp : Setpoint) : State :=
  let x := s.chan ch
  let was := x.set
  let s := s.modChan ch fun y => { y with set := sp }
  if x.ctrl.source = .open ∨ x.ctrl.source = .glaze then s.modGen ch (·.load sp.pwm s.now)
  else if x.ctrl.source ≠ .host then s
  else if sp.cmds ≠ was.cmds then s.command ch (s.hostCause c ch)
  else if sp.level = was.level ∧ sp.pwm = was.pwm ∧ sp.sets = was.sets then s
  else if x.ctrl.hand = .none ∨ x.ctrl.hand = .ramp then s.command ch (s.hostCause c ch)
  else s

/-- What a frame commits beside its image: a trip or lockout, CLEAR_TRIP, CLEAR_GLAZE. CLEAR_TRIP ends STUCK_ON only where it has passed the test
of R271. -/
def State.act (s : State) (ch : Ch) (code : Nat) : State :=
  if code = 0xC0 then (if (s.chan ch).prot.tripCause = 0x14 then s else s.clearTrip ch)
  else if code = 0xC2 then s.clearTrip ch
  else if code = 0xC1 then s.clearGlaze ch else s.trip ch code

/-- A frame of the claim holder taken by its cartridge (R33, R186, R350, R355, R727, R808, R866): it comes over the link of the controller that
holds the claim, and no other. No steering within a frame slot moves unit time by
1 µs (R713), so that much is a step. -/
def State.takeFrame (s : State) (k : Slot) (f : Frame) : State :=
  let s := when (decide (1000 ≤ (f.time - (f.due + (s.cart k).timeOff)).natAbs)) (fun s => s.cutIntervals k) s
  let s := s.modCart k fun x => { x with
    holdAt := s.now, timeOff := f.time - f.due, unset := f.unset
    latchAt := f.latch
    voy := x.voy.filter fun e => !f.voyAck.contains e.seq }
  let s := f.acts.foldl (fun s a => s.act (chOf k ⟨a.1 % 4, Nat.mod_lt _ (by decide)⟩) a.2) s
  if notOlder f.imgJsn (s.cart k).imgJsn then
    let s := overList (List.finRange 4) (fun p s => s.putSetpoint f.ctl (chOf k p) (f.image.getD p.val {})) s
    s.modCart k fun x => { x with imgJsn := f.imgJsn }
  else s

/-- The insertion hold of a cartridge that finds its first frame within 5 ms of leaving DARK (R412): its twin halves that have not turned on. -/
def State.lateHold (s : State) (k : Slot) : State :=
  let x := s.cart k
  when (x.lastFrom.isNone && x.holder.isNone && decide (s.now ≤ x.darkEnd + 5 * msec)) (fun s =>
    overList (chansOf k) (fun c s => s.modCtrl c fun y =>
      if y.half ∧ y.insHold.isNone ∧ ¬(s.chan c).stage.output.conducts then { y with insHold := some (x.darkEnd + 500 * msec) } else y) s) s

/-- SETPOINT_FRAME (R186, R412, R866, R910, R918): the frame of a slot, applied at its start. One with a wrong CRC is discarded and counted; one of a
controller that is not the claim holder sets nothing. -/
def execSetpointFrame (t : Instant) (c : Ctl) (k : Slot) (ok : Bool) (s : State) : Result :=
  run t (fun s =>
    match (s.ctl c).tx[k] with
    | [] => s
    | f :: rest => when (decide (f.due ≤ s.now)) (fun s =>
      let s := s.modCtl c fun x => { x with tx := setV x.tx k rest }
      when (s.cart k).powered (fun s =>
        if ok then
          let s := (s.lateHold k).modCart k fun x => { x with lastFrom := some (c, s.now) }
          if (s.cart k).holder = some c then s.takeFrame k f else s
        else s.modCart k fun x => { x with linkErr := modV x.linkErr c.ix (satBump 16) }) s) s) s

/-! Scheduled transactions. -/

/-- What an armed entry carries of a transaction for one cartridge (R867): position, level and settings where it sets them. -/
def JSlot.armedFor (j : JSlot) (k : Slot) : Armed :=
  { jsn := j.jsn % 2 ^ 32, time := j.time
    sets := (List.finRange 4).filterMap fun p =>
      let c := chOf k p
      let lvl := j.later.findSome? fun ch => match ch with
        | .level d l _ => if d = c then some l else none
        | _ => none
      let pwm := j.later.findSome? fun ch => match ch with
        | .pwm d q => if d = c then some q else none
        | _ => none
      if lvl.isNone ∧ pwm.isNone then none else some (p.val, lvl, pwm) }

/-- An armed entry reaches its cartridge (R867): taken once, where a place is free and T has not passed. -/
def Cart.arm (x : Cart) (e : Armed) (now : UnitTime) : Cart :=
  if x.armed.length < 8 ∧ ¬x.applied.contains e.jsn ∧ (x.armed.all fun y => y.jsn ≠ e.jsn) ∧ now < e.time then
    { x with armed := x.armed ++ [e] }
  else x

/-- SCHEDULE_ARM (R554, R867): from 100 ms to 1 ms before T. -/
def execScheduleArm (t : Instant) (jsn : Nat) (s : State) : Result :=
  run t (fun s =>
    match s.active with
    | none => s
    | some c =>
      match (s.ctl c).mram.slot jsn with
      | none => s
      | some j =>
        let now := s.utime c
        when (j.sched && j.released && !j.taken && decide (j.time - (100 * msec : Nat) ≤ now) && decide (now ≤ j.time - (msec : Nat))) (fun s =>
          overList allSlots (fun k s =>
            if j.mask[k] ∧ s.holds c k ∧ (s.cart k).powered then s.modCart k fun x => x.arm (j.armedFor k) (s.cartTime k) else s) s) s) s

/-- The settings of one channel that an armed entry applies: a command of HOST where it sets a level (R838). -/
def State.putArmed (s : State) (c : Ch) (lvl : Option Level) (pwm : Option PwmSet) : State :=
  let was := (s.chan c).set
  let sp := { was with level := lvl.getD was.level, pwm := pwm.getD was.pwm, cmds := if lvl.isSome then was.cmds + 1 else was.cmds,
                        sets := if pwm.isSome then was.sets + 1 else was.sets }
  let s := s.modChan c fun y => { y with set := sp }
  if (s.chan c).ctrl.source = .host ∧ sp ≠ was then s.command c 1 else s

/-- One armed entry applied (R554, R867). -/
def State.applyArmed (s : State) (k : Slot) (e : Armed) : State :=
  let s := e.sets.foldl (fun s x => s.putArmed (chOf k ⟨x.1 % 4, Nat.mod_lt _ (by decide)⟩) x.2.1 x.2.2) s
  s.modCart k fun x => { x with
    armed := x.armed.filter fun y => y.jsn ≠ e.jsn, armJsn := e.jsn, applied := (x.applied ++ [e.jsn]).drop (x.applied.length + 1 - 32) }

/-- ARMED_APPLY (R554, R557, R867): every armed entry whose T has come, in the order in which they were accepted. -/
def execArmedApply (t : Instant) (k : Slot) (s : State) : Result :=
  run t (fun s =>
    let x := s.cart k
    when (x.powered && x.holder.isSome) (fun s =>
      (x.armed.filter fun e => e.time ≤ s.cartTime k).foldl (fun s e => s.applyArmed k e) s) s) s

/-- A cartridge holds a transaction armed, or has applied it so. -/
def State.armedAt (s : State) (k : Slot) (jsn : Nat) : Bool :=
  let n := jsn % 2 ^ 32
  (s.cart k).powered && ((s.cart k).armed.any (fun e => e.jsn = n) || (s.cart k).applied.contains n)

/-- SCHEDULE_UNARMED_APPLY (R555): a transaction that no cartridge holds at T − 1 ms goes out in the next image. -/
def execScheduleUnarmedApply (t : Instant) (jsn : Nat) (s : State) : Result :=
  run t (fun s =>
    match s.active with
    | none => s
    | some c =>
      match (s.ctl c).mram.slot jsn with
      | none => s
      | some j => when (j.sched && j.released && !j.taken && maskAny j.mask && decide (j.time - (msec : Nat) ≤ s.utime c) &&
          !allSlots.any fun k => j.mask[k] && s.armedAt k jsn) (fun s => s.takeBoth c jsn) s) s

/-- A slot freed at every controller that holds it (R865). -/
def State.freeBoth (s : State) (c : Ctl) (jsn : Nat) : State :=
  let s := s.modMram c fun m => m.freeSlot jsn
  if (s.ctl c.other).standby ∧ s.linkUp then s.modMram c.other fun m => m.freeSlot jsn else s

/-! Completion. -/

/-- A cartridge has reported a transaction applied (R869): its image is not older and came after the frame that carried it, or its latest armed
application is this one. -/
def State.appliedAt (s : State) (c : Ctl) (k : Slot) (j : JSlot) : Bool :=
  let x := (s.ctl c).seen[k]
  (j.sched && x.armJsn = j.jsn % 2 ^ 32) ||
  ((j.taken || !j.sched) && notOlder x.imgJsn j.jsn && j.frameAt.any fun f => f ≤ (s.cart k).holdAt)

/-- A transaction whose every cartridge has reported it is COMPLETE and its slot free (R550, R564, R865); a scheduled one that was armed has T as
its execution time, any other the frame slot that carried it (R554, R555, R565). -/
def State.finish (s : State) (c : Ctl) (j : JSlot) (byArm : Bool) : State :=
  if (List.finRange 4).all fun k => !j.mask[k] || j.done[k] then
    let time : UnitTime := if j.sched ∧ byArm then j.time else s.utime c - ((s.now - j.frameAt.getD s.now : Nat) : Int)
    let s := if j.sched then (if j.taken then s else s.takeBoth c j.jsn) else s
    let s := if j.replied ∧ ¬j.sched then s.closeEntry c j 0 0 0 time
      else if j.sched then s.closeEntry c j 0 0 0 time else s.completeTx c replyParams j.jsn time
    s.freeBoth c j.jsn
  else s

/-- What a status frame of a slot completes. -/
def State.complete (s : State) (c : Ctl) (k : Slot) : State :=
  let mine := (s.ctl c).mram.slots.filter fun j => j.released && j.mask[k] && !j.done[k] && s.appliedAt c k j
  overList mine (fun j s =>
    let byArm := j.sched && ((s.ctl c).seen[k]).armJsn = j.jsn % 2 ^ 32
    let s := s.modMram c fun m => m.modSlot j.jsn fun y => { y with done := setV y.done k true }
    match (s.ctl c).mram.slot j.jsn with
    | some j' => s.finish c j' byArm
    | none => s) s

/-- NOT_APPLIED (R604): 5 ms after the frame slot that carried it, a command that some cartridge has not reported is answered HW_FAULT; its
transaction stays committed. -/
def execNotApplied (t : Instant) (jsn : Nat) (s : State) : Result :=
  run t (fun s =>
    match s.active with
    | none => s
    | some c =>
      match (s.ctl c).mram.slot jsn with
      | none => s
      | some j => when (j.released && !j.sched && !j.replied && j.req.isSome && s.held j.frameAt (5 * msec)) (fun s =>
          let late := (allCh.find? fun ch => j.mask[slotOf ch] && !j.done[slotOf ch] && (j.changes.any fun x => x.chan = some ch)).map numOf
          (s.closeEntry c j 0x0501 18 (late.getD 0) (s.utime c)).answerTx c replyParams j) s) s

/-! Status frames. -/

/-- The status frame's contents as a controller takes them (R161, R856, R869). -/
def State.see (s : State) (c : Ctl) (k : Slot) : State :=
  let x := s.cart k
  let fresh : Bool := x.holder.isSome && decide (s.now < x.holdAt + 100 * usec)
  let words := (chansOf k).map fun ch => s.word ch
  s.modSeen c k fun y => { y with
    at_ := some s.now, holder := x.holder, epoch := x.epoch, imgJsn := x.imgJsn, armJsn := x.armJsn, digest := x.digest
    removing := x.removing, left := x.left, fresh := fresh, words := words
    moves := (y.moves.zip (y.words.zip words)).map fun n => if n.2.1 = n.2.2 then n.1 else n.1 + 1, serial := x.serial }

/-- A controller's energy counter of one channel after a status frame (R357, R358): the accumulator's increase in mWh with the remainder
carried; another cartridge, or an accumulator that stands lower after a restart, is a fresh baseline. -/
def Energy.read (e : Energy) (serial : Bytes) (acc : Nat) : Energy :=
  if e.serial ≠ serial ∨ acc < e.base then ({ e with serial := serial, base := acc } : Energy).save
  else
    let r := e.rem + (acc - e.base)
    { e with mwh := (e.mwh + r / 1000) % 2 ^ 64, rem := r % 1000, base := acc }

/-- Trip body (R801) of the trip in force. -/
def State.tripBody (s : State) (c : Ch) : Bytes :=
  let x := s.chan c
  let k := s.cart (slotOf c)
  be 4 (s.word c) ++ be 1 x.prot.tripCause ++ zeros 1 ++ be 2 x.prot.second ++
  beInt 4 (((x.meas.avg1ms.current).getD 0) / 1000) ++ beInt 4 k.busMv ++ beInt 2 x.prot.dieTemp ++ be 2 (satU 16 (x.prot.x / 2 ^ 46)) ++
  be 1 (satU 8 x.prot.n) ++ zeros 3 ++ k.serial ++ zeros 4

/-- The trips of the fault list of R927, which R933 reports as alarms too: SERIES_GATE, STUCK_ON and STUCK_OFF. -/
def hwTrip (cause : Nat) : Bool := cause = 0x0D || cause = 0x14 || cause = 0x15

/-- What the ACTIVE controller logs of a channel from a status frame (R801, R813): OUTPUT_CHANGE for an output that differs from the one last
logged, with flag [3] where it is found at a claim, TRIP for a trip not logged yet, and TRIP_CLEARED at its end, whether or not a higher state
hides the trip (R221). A trip of the fault list is an alarm (R933, R934). -/
def State.logChan (s : State) (c : Ctl) (ch : Ch) (found : Bool) : State :=
  let k := slotOf ch
  let now := s.word ch
  let was := (((s.ctl c).seen[k]).logged).getD (posOf ch).val 0
  let src := k.val + 1
  let ma := (((s.chan ch).meas.avg1ms.current).getD 0) / 1000
  let s := if bits was 8 3 ≠ bits now 8 3 ∨ (found ∧ was ≠ now) then
      s.logEv c 0x0201 (if found then 8 else 0) src (numOf ch) (stdBody was now ma 0 0 (s.serialOf ch)) else s
  let p := (s.chan ch).prot
  let stands := (s.ctl c).alarmed 0x0202 (numOf ch)
  let hw : Bool := p.trip ≠ .none && hwTrip p.tripCause && !stands
  if p.tripLog ∨ (found ∧ hw) then
    let s := (s.logEv c 0x0202 (b2n hw <<< 1 ||| (if p.tripLog then 0 else 8)) src (numOf ch) (s.tripBody ch)).modProt ch fun p => { p with tripLog := false }
    if hw then s.modCtl c fun x => x.setAlarm 0x0202 (numOf ch) true (s.utime c) else s
  else if p.trip = .none ∧ (((s.ctl c).seen[k]).trips[posOf ch] ∨ stands) then
    let onset := if stands then (s.ctl c).onsetOf 0x0202 (numOf ch) else 0
    (s.logEv c 0x0203 (b2n stands <<< 2) src (numOf ch) (stdBody was now ma 0 onset (s.serialOf ch))).modCtl c fun x =>
      if stands then x.setAlarm 0x0202 (numOf ch) false (s.utime c) else x
  else s

/-- A controller ran at a unit time: its present start lies before it (R809). -/
def State.ranAt (s : State) (c : Ctl) (u : UnitTime) : Bool := (s.ctl c).running && decide (s.utime c - (s.now - (s.ctl c).refAt : Nat) ≤ u)

/-- The voyage record of an entry (R809), as the controller that writes it forms it: its time is the cartridge's own where it was unclaimed, and counts as
unaligned (R799; DEDUCED, log entry 80). -/
def State.voyRecord (s : State) (c : Ctl) (k : Slot) (e : VoyEntry) (n : Nat) : LogRec :=
  let x := s.ctl c
  let ch := chOf k ⟨e.pos % 4, Nat.mod_lt _ (by decide)⟩
  let f := x.gnss.good.getD {}
  let age := match x.gnss.good with
    | some f => min 0xFFFFFFFE ((e.time - f.time) / 1000000).toNat
    | none => 0xFFFFFFFF
  let flags := b2n (f.iono && x.gnss.good.isSome) ||| (b2n x.time.gnss.ok <<< 1) |||
    (b2n (x.gnss.l1.cls ≠ .clear || x.gnss.l5.cls ≠ .clear) <<< 2) ||| (b2n (x.gnss.goodOld && x.gnss.good.isSome) <<< 3) |||
    (b2n (s.isTwin ch) <<< 4) ||| (b2n e.removing <<< 5)
  let ran := s.ranAt c e.time || s.ranAt c.other e.time
  let r := s.record c 0x1101 0 (k.val + 1) (numOf ch)
      (be 1 (numOf ch) ++ be 1 (b2n e.began) ++ be 1 e.cause ++ be 1 (if ran then x.gnss.fix.code else 0) ++ beInt 4 f.lat ++ beInt 4 f.lon ++
       be 4 age ++ be 2 (satU 16 f.unc) ++ be 1 (satU 8 f.sats) ++ be 1 flags ++ beInt 4 e.run ++ be 8 (x.mram.energy[ch]).mwh ++
       be 4 (satU 32 (s.estError c)) ++ be 4 n)
  { r with time := e.time, flags := r.flags / 2 * 2 ||| b2n (e.unclaimed || e.unset) }

/-- Voyage records written from the entries a cartridge keeps (R808): one for each pair of serial number and cartridge sequence, while the write
queue admits one. -/
def State.voyRecords (s : State) (c : Ctl) (k : Slot) : State :=
  let x := s.cart k
  x.voy.foldl (fun s e =>
    let l := (s.ctl c).mram.log
    if l.voySeen.contains (x.serial, e.seq) ∨ ¬admitted l.queue.length 0x1101 then s
    else
      (s.logAt c (s.voyRecord c k e l.voySeq)).modMram c fun m =>
        { m with log := { m.log with voySeq := (l.voySeq + 1) % 2 ^ 32, voySeen := l.voySeen ++ [(x.serial, e.seq)] } }) s

/-- The LOSS record of the entries that a cartridge could not store, at its claim (R815). It has counted them and kept no instants: DEDUCED, log entry 80. -/
def State.voyLoss (s : State) (c : Ctl) (k : Slot) : State :=
  let x := s.cart k
  if x.voyLost = 0 ∨ ¬admitted (s.ctl c).mram.log.queue.length 0x1201 then s
  else
    let r := s.record c 0x1201 0 (k.val + 1) 0 (be 4 x.voyLost ++ be 4 (s.ctl c).mram.log.losses ++ zeros 16 ++ be 1 1)
    (s.logAt c r).modCart k fun y => { y with voyLost := 0 }

/-- The words logged, at the ACTIVE controller and at the standby that mirrors its log. -/
def State.noteLogged (s : State) (c : Ctl) (k : Slot) : State :=
  let words := (chansOf k).map fun ch => s.word ch
  let trips : Vector Bool 4 := Vector.ofFn fun p => (s.chan (chOf k p)).prot.trip ≠ .none
  let s := s.modSeen c k fun y => { y with logged := words, trips := trips }
  if (s.ctl c.other).standby ∧ s.linkUp then s.modSeen c.other k fun y => { y with logged := words, trips := trips } else s

/-- SLOT_LEAVE of a cartridge that reports REMOVING, and its clearing (R411). -/
def State.noteLeave (s : State) (c : Ctl) (k : Slot) : State :=
  let y := (s.ctl c).seen[k]
  if y.removing = y.leaveLog then s
  else
    let s := s.alarm c 0x0301 (k.val + 1) y.removing (k.val + 1) (b2n y.leaveLog) (b2n y.removing) 0 0 y.serial
    s.modSeen c k fun z => { z with leaveLog := y.removing }

end Sys2Proof.Machine
end

