-- ==== Sys2Proof/Machine/Loops.lean ====
section
/-!
DEFINITION. Machine/Loops.lean: the loop outputs and the speed inputs (chapter 11).
-/
namespace Sys2Proof.Machine

/-! Loop outputs. -/

/-- A change of one stage of a loop output. -/
def State.modLStage (s : State) (c : Ctl) (q : Quad) (f : LoopStage → LoopStage) : State :=
  s.modLoop q fun l => { l with stages := modV l.stages c.ix f }

/-- The 100 ms average current of a channel, µA; none in accuracy class NONE (R367, R461). -/
def State.avgUa (s : State) (c : Ch) : Option Int :=
  let k := s.cart (slotOf c)
  if k.powered ∧ (s.chan c).meas.cls s.now k.proofBad k.proofAt ≠ 5 then (s.chan c).meas.avg100ms.current else none

/-- The sum of some channels' averages, µA; none where one of them is in class NONE. -/
def State.sumUa (s : State) (cs : List Ch) : Option Int :=
  cs.foldl (fun acc c => acc.bind fun a => (s.avgUa c).map (a + ·)) (some 0)

/-- A pair by its number. -/
def pairNum (n : Nat) : Pair := ⟨(n - 1) % 8, Nat.mod_lt _ (by decide)⟩

/-- A loop output or speed input by its number. -/
def quadOf (n : Nat) : Quad := ⟨(n - 1) % 4, Nat.mod_lt _ (by decide)⟩

/-- A channel by its number. -/
def chanNum (n : Nat) : Ch := ⟨(n - 1) % 16, Nat.mod_lt _ (by decide)⟩

/-- Speed of an input in 0.1 rpm (R472). -/
def State.speed (s : State) (c : Ctl) (q : Quad) : Nat := (s.tach q).freq * 3 / (5 * s.itemAt c 0x0402 (q.val + 1))

/-- The value of a source that is scaled (R461), in thousandths of its unit; none where it is invalid. -/
def State.loopValue (s : State) (c : Ctl) (src ix : Nat) : Option Int :=
  match src with
  | 1 => s.avgUa (chanNum ix)
  | 2 => s.sumUa [lowOf (pairNum ix), highOf (pairNum ix)]
  | 3 => s.feedCart.map fun _ => s.cool.feedMa[if ix = 1 then (0 : Fin 2) else 1] * 1000
  | 4 => s.sumUa allCh
  | 5 => if s.holds c (slotOf (chanNum ix)) then some (s.chan (chanNum ix)).meas.avg100ms.volt else none
  | 6 => if (s.tach (quadOf ix)).st = .running then some ((s.speed c (quadOf ix) * 1000 : Nat) : Int) else none
  | 7 => if s.cool.inletOk[0] || s.cool.inletOk[1] then some (s.cool.inletNow * 1000) else none
  | _ => none

/-- Signed item value of four bytes. -/
def State.itemInt (s : State) (c : Ctl) (id ix : Nat) : Int := toSigned 32 (s.itemAt c id ix)

/-- The commanded current of a valid value, µA (R462). -/
def scaleUa (v lo hi : Int) : Nat := (max 3800 (min 20500 (4000 + 16000 * (v - lo * 1000) / ((hi - lo) * 1000)))).toNat

/-- The failure level, µA (R462, R465). -/
def State.failUa (s : State) (c : Ctl) (q : Quad) : Nat := if s.itemAt c 0x0306 (q.val + 1) = 1 then 21500 else 3500

/-- The commanded current of a loop output, µA, 0 for OFF (R461, R462). -/
def State.loopUa (s : State) (c : Ctl) (q : Quad) : Nat :=
  let n := q.val + 1
  let src := s.itemAt c 0x0301 n
  let ix := s.itemAt c 0x0302 n
  if src = 0 then 0
  else if src = 8 then
    let w := (s.ctl c).wordOf (chanNum ix)
    let st := bits w 0 4
    let out := bits w 8 3
    if st = 4 ∨ st = 5 ∨ st = 9 then s.failUa c q else if 1 ≤ out ∧ out ≤ 3 then 20000 else 4000
  else if src = 9 then
    if (s.loop q).hostOld then s.failUa c q else (((s.ctl c).mram.loops[q]).getD (s.failUa c q))
  else match s.loopValue c src ix with
    | some v => scaleUa v (s.itemInt c 0x0303 n) (s.itemInt c 0x0304 n)
    | none => s.failUa c q

/-- The stage's policy is FAIL_LOW (R460). -/
def State.failLow (s : State) (c : Ctl) (q : Quad) : Bool := s.itemAt c 0x0305 (q.val + 1) = 1

/-- A stage told a command (R463, R467, R482, R483): FAIL_LOW under COMPLIANCE sinks 3.5 mA, a faulty stage nothing. The stage settles, and
measures what it sinks unless COMPLIANCE stands. -/
def LoopStage.command (x : LoopStage) (now : Instant) (ua : Nat) (low : Bool) : LoopStage :=
  let sink := if x.fault ∨ ua = 0 then 0 else if x.compl ≠ .none ∧ low then 3500 else ua
  { x with cmd := ua, sink := sink, updAt := now, meas := if x.compl = .none then sink else x.meas
           ramp := x.ramp.filter fun r => now < r.1 + 5 * msec }

/-- LOOP_UPDATE (R463): the ACTIVE controller, from command-ready on; a stage that had lost its updates follows them again. -/
def execLoopUpdate (t : Instant) (q : Quad) (s : State) : Result :=
  run t (fun s =>
    match s.active with
    | none => s
    | some c =>
      when ((s.ctl c).running && (s.ctl c).take && !(s.ctl c).sup.failing) (fun s =>
        s.modLStage c q fun x => { x with live := true, ramp := x.ramp.filter (·.2) }.command s.now (s.loopUa c q) (s.failLow c q)) s) s

/-- A scheduled SET_LOOP at its instant (R556): applied by the controller that holds the loop stages, which commands the stage at once, or withdrawn where
LOOP_SRC is no longer HOST. -/
def State.applyLoop (s : State) (c : Ctl) (j : JSlot) (time : UnitTime) : State :=
  let host := j.later.all fun ch => match ch with
    | .loop q _ => s.itemAt c 0x0301 (q.val + 1) = 9
    | _ => true
  if host then
    let s := s.takeBoth c j.jsn
    let s := j.later.foldl (fun s ch => match ch with
      | .loop q _ => s.modLStage c q fun x => if x.live then x.command s.now (s.loopUa c q) (s.failLow c q) else x
      | _ => s) s
    let s := s.closeEntry c j 0 0 0 time
    s.freeBoth c j.jsn
  else
    let f := fun (m : Mram) => m.withdraw j.jsn 1 (s.utime c)
    let s := s.modMram c f
    if (s.ctl c.other).standby ∧ s.linkUp then s.modMram c.other f else s

/-- SCHEDULED_SET_LOOP (R556): at T; a controller that became ACTIVE after T applies it when it has taken the loop stages, at that instant. -/
def execScheduledSetLoop (t : Instant) (jsn : Nat) (s : State) : Result :=
  run t (fun s =>
    match s.active with
    | none => s
    | some c =>
      match (s.ctl c).mram.slot jsn with
      | none => s
      | some j =>
        let late := decide (j.time < s.utime c - (s.since (s.ctl c).roleIn : Nat))
        when (j.sched && j.released && !j.taken && !maskAny j.mask && decide (j.time ≤ s.utime c) && (!late || (s.ctl c).take)) (fun s =>
          s.applyLoop c j (if late then s.utime c else j.time)) s) s

/-- LOOP_STAGE_FAULT of a stage changes (R483). -/
def State.stageFault (s : State) (c : Ctl) (q : Quad) (on : Bool) (ua : Nat) : State :=
  let x := (s.loop q).stages[c.ix]
  if x.fault = on then s
  else (s.modLStage c q fun x => { x with fault := on, sink := if on then 0 else x.sink, faultSince := none }).alarm
    c 0x0702 (q.val + 1) on c.code (b2n x.fault) (b2n on) ua x.cmd

/-- COMPLIANCE of a stage changes (R466). -/
def State.setCompl (s : State) (c : Ctl) (q : Quad) (v : Compl) (ua : Nat) : State :=
  let x := (s.loop q).stages[c.ix]
  let code := fun (v : Compl) => match v with
    | .none => 0 | .loopOpen => 1 | .lowSupply => 2
  if x.compl = v then s
  else (s.modLStage c q fun x =>
      ({ x with compl := v, probes := 0, probeAt := s.now + sec, shortSince := none } : LoopStage).command s.now x.cmd (s.failLow c q)).alarm
    c 0x0701 (q.val + 1) (v ≠ .none) c.code (code x.compl) (code v) ua x.cmd

/-- A stage without its controller's updates, or under the other's TAKE, ramps to no current (R468, R470). -/
def LoopStage.release (x : LoopStage) (now : Instant) : LoopStage :=
  { x with live := false, from_ := x.sinkAt now, sink := 0, ramp := some (now, false), compl := .none, shortSince := none, probes := 0 }

/-- The stages of a controller follow TAKE (R468, R469, R482): its own ramp up to the present command, the other's to no current; COMPLIANCE
goes over with its policy's level and starts its timers afresh, and a stage fault ends. -/
def State.takeLoop (s : State) (c : Ctl) (q : Quad) : State :=
  let old := (s.loop q).stages[c.other.ix]
  let s := s.stageFault c.other q false 0
  let s := s.modLStage c q fun x =>
    ({ x with live := true, ramp := some (s.now, true), shortSince := none, probes := 0, probeAt := s.now + sec, fault := false, faultSince := none
              compl := if old.live then old.compl else x.compl } : LoopStage).command s.now (s.loopUa c q) (s.failLow c q)
  s.modLStage c.other q fun x =>
    if x.live then x.release s.now else x

/-- TAKE (R468, R469, R484): driven by a controller that has become ACTIVE, after a start at command-ready. -/
def execTake (t : Instant) (c : Ctl) (s : State) : Result :=
  run t (fun s =>
    when ((s.ctl c).running && (s.ctl c).role = .active && (s.ctl c).ready && !(s.ctl c).take) (fun s =>
      overList allQuads (fun q s => s.takeLoop c q) (s.modCtl c fun x => { x with take := true })) s) s

/-- LOOP_STAGE_TIMEOUT (R470, R486): 10 ms without an update and without TAKE ramp the stage to no current. -/
def execLoopStageTimeout (t : Instant) (c : Ctl) (q : Quad) (s : State) : Result :=
  run t (fun s =>
    let x := (s.loop q).stages[c.ix]
    when (x.live && decide (x.updAt + 10 * msec ≤ s.now)) (fun s => s.modLStage c q (·.release s.now)) s) s

/-- COMPLIANCE (R466, R467, R483): what the stage measures of its sink current and terminal voltage. -/
def execCompliance (t : Instant) (c : Ctl) (q : Quad) (ua : Nat) (mv : MilliVolt) (s : State) : Result :=
  run t (fun s =>
    let x := (s.loop q).stages[c.ix]
    when (x.live && (s.ctl c).running && x.ramp.all (fun r => r.1 + 5 * msec ≤ s.now)) (fun s =>
      let low := s.failLow c q
      let goal := if x.compl ≠ .none ∧ low then 3500 else x.cmd
      let short : Bool := decide (ua + 50 < goal)
      let off : Bool := decide (8500 < mv) && (decide (ua + 500 < goal) || decide (goal + 500 < ua)) && !x.fault
      let offSince := s.track off x.faultSince
      let since := if x.compl = .none then s.track short x.shortSince else s.track (!short) x.shortSince
      let s := s.modLStage c q fun x => { x with meas := ua, shortSince := since, faultSince := offSince }
      let s := if x.compl = .none then
          if s.held since (50 * msec) then s.setCompl c q (if mv < 1000 then .loopOpen else .lowSupply) ua else s
        else if ¬low ∧ s.held since sec then s.setCompl c q .none ua else s
      if s.held offSince (100 * msec) then s.stageFault c q true ua else s) s) s

/-- Terminal voltage that a current would leave, mV, from the voltages at 3.5 mA and 3.6 mA (R467). -/
def predictMv (mv35 mv36 : MilliVolt) (ua : Nat) : Int := mv35 + 35 * (mv35 - mv36) - 10 * (mv35 - mv36) * ua / 1000

/-- LOOP_PROBE (R467, every 1 s): ten predictions of 8.5 V or more in a row end COMPLIANCE under FAIL_LOW. -/
def execLoopProbe (t : Instant) (q : Quad) (mv35 mv36 : MilliVolt) (s : State) : Result :=
  run t (fun s =>
    match s.active with
    | none => s
    | some c =>
      let x := (s.loop q).stages[c.ix]
      when (x.live && x.compl ≠ .none && s.failLow c q && decide (x.probeAt ≤ s.now)) (fun s =>
        let n := if 8500 ≤ predictMv mv35 mv36 x.cmd then x.probes + 1 else 0
        if 10 ≤ n then s.setCompl c q .none 3500 else s.modLStage c q fun x => { x with probes := n, probeAt := s.now + sec }) s) s

/-- LOOP_HOST_TMO (R461). -/
def execLoopHostTmo (t : Instant) (q : Quad) (s : State) : Result :=
  run t (fun s =>
    let tmo := s.item 0x0307 (q.val + 1)
    when (s.active.isSome && s.item 0x0301 (q.val + 1) = 9 && tmo ≠ 0 && decide ((s.loop q).hostAt + tmo * sec ≤ s.now)) (fun s =>
      s.modLoop q fun l => { l with hostOld := true }) s) s

/-! Speed inputs. -/

/-- The channels of an input: the bound one, or both halves of its twin (R473). -/
def State.tachChans (s : State) (q : Quad) : List Ch :=
  match chNum (s.item 0x0401 (q.val + 1)) with
  | some c => s.bothHalves c
  | none => []

/-- The bound channel is on: its output ON or PWM, and neither FROZEN nor OPENED (R474, R482). A twin is on with either half. -/
def State.tachOn (s : State) (q : Quad) : Bool :=
  let cs := s.tachChans q
  (s.unitMode = .dual || s.unitMode = .solo) &&
  cs.any (fun c => (s.chan c).stage.output = .on || (s.chan c).stage.output = .pwm) &&
  cs.all fun c => !(s.cart (slotOf c)).frozen && (s.chan c).ctrl.source ≠ .open

/-- Instant of the latest START of the bound channel (R474). -/
def State.tachStart (s : State) (q : Quad) : Instant :=
  ((s.tachChans q).map fun c => if (s.chan c).stage.phase = .idle then 0 else (s.chan c).stage.startAt).foldl max 0

/-- Codes of R653. -/
def TachState.code : TachState → Nat
  | .idle => 0 | .spinup => 1 | .running => 2 | .stalled => 3 | .stopped => 4 | .lost => 5

/-- A state of R474 that raises an alarm. -/
def TachState.bad : TachState → Bool
  | .stalled => true | .stopped => true | .lost => true | _ => false

/-- The frequency of R472, mHz, from the rising edges of the last second, newest first. -/
def tachFreq (now : Instant) (edges : List Instant) : Nat :=
  let l := edges.filter fun e => now ≤ e + sec
  let recent := l.filter fun e => now ≤ e + 100 * msec
  let used := if 2 ≤ recent.length then recent else l.take 2
  match used.head?, used.getLast? with
  | some b, some a => if 2 ≤ used.length then (used.length - 1) * 1000000000000 / (b - a) else 0
  | _, _ => 0

/-- The input enters a state (R474, R478, R483): the alarm stands in a bad state, through IDLE after TACH_LOST, and while the channel is
tripped for TACH_STALL; a further change while it stands is logged. -/
def State.tachTo (s : State) (q : Quad) (st : TachState) : State :=
  let x := s.tach q
  let stalled : Bool := st = .idle && (s.tachChans q).any fun c => (s.chan c).prot.trip ≠ .none && (s.chan c).prot.tripCause = 0x16
  let lost : Bool := x.lostAlarm || st = .lost
  let s := s.modTach q fun y => { y with
    st := st, lostAlarm := lost, lowSince := none, sigSum := 0, sigCnt := 0
    goodSince := if st = .running then some s.now else none }
  let was := (s.ctl s.lead).alarmed 0x0703 (q.val + 1)
  let on := st.bad || lost || stalled
  if on ≠ was then s.alarmUnit 0x0703 (q.val + 1) on s.lead.code x.st.code st.code x.freq (s.item 0x0403 (q.val + 1) * 1000)
  else if on ∧ st.bad ∧ st ≠ x.st then
    s.logUnit 0x0703 0 s.lead.code (q.val + 1) (stdBody x.st.code st.code x.freq (s.item 0x0403 (q.val + 1) * 1000))
  else s

/-- Classification by the current signature, mA (R474). -/
def State.classify (s : State) (q : Quad) (ma : Int) : TachState :=
  let stall := s.item 0x0405 (q.val + 1)
  if stall ≠ 0 ∧ (stall * 100 : Nat) ≤ ma then .stalled
  else if ma < (s.item 0x0406 (q.val + 1) * 10 : Nat) then .stopped else .lost

/-- The input classified by the averages gathered; with none, by a free value (log entry 6). -/
def State.tachClassify (s : State) (q : Quad) : State :=
  let x := s.tach q
  let (ma, s) : Int × State := if x.sigCnt = 0 then let d := s.draw; ((d.1 : Int), d.2) else (x.sigSum / x.sigCnt, s)
  s.tachTo q (s.classify q ma)

/-- TACH_EDGE (R472): a rising edge, timestamped by the 100 MHz timebase. -/
def execTachEdge (t : Instant) (q : Quad) (s : State) : Result :=
  run t (fun s =>
    when (s.ctlA.running || s.ctlB.running) (fun s =>
      let e := s.now / 10 * 10
      s.modTach q fun x => { x with edges := e :: x.edges.filter fun y => s.now ≤ y + sec }) s) s

/-- The frequency counts as at or above TACH_MIN_F (R474, R480). -/
def State.tachGood (s : State) (q : Quad) : Bool := !(s.tach q).above && decide (s.item 0x0403 (q.val + 1) * 1000 ≤ (s.tach q).freq)

/-- The averages of a signature: the present one added while its window runs. -/
def State.tachSign (s : State) (q : Quad) (open_ : Bool) : State :=
  if open_ then
    match s.sumUa (s.tachChans q) with
    | some ua => s.modTach q fun x => { x with sigSum := x.sigSum + ua / 1000, sigCnt := x.sigCnt + 1 }
    | none => s
  else s.modTach q fun x => { x with sigSum := 0, sigCnt := 0 }

/-- One evaluation of an input whose channel is on (R474 to R478). -/
def State.tachStep (s : State) (q : Quad) : State :=
  let x := s.tach q
  let good := s.tachGood q
  if x.spinAt < s.tachStart q then
    let at_ := s.tachStart q
    let s := (s.tachTo q .spinup).modTach q fun y => { y with spinAt := at_ }
    if good then s.tachTo q .running else s
  else match x.st with
    | .idle => s.tachTo q (if good then .running else .idle)
    | .spinup =>
      if good then s.tachTo q .running
      else s.tachSign q (decide (x.spinAt + s.item 0x0404 (q.val + 1) * 100 * msec ≤ s.now + sec))
    | .running =>
      if good then
        let s := (s.tachSign q false).modTach q fun y => { y with lowSince := none }
        if x.lostAlarm ∧ s.held x.goodSince (10 * sec) then
          (s.modTach q fun y => { y with lostAlarm := false }).alarmUnit 0x0703 (q.val + 1) false s.lead.code 5 2 x.freq 0
        else s
      else
        let since := x.lowSince.getD s.now
        let s := (s.modTach q fun y => { y with lowSince := some since }).tachSign q (decide (since + sec < s.now))
        if since + 2 * sec ≤ s.now then s.tachClassify q else s
    | .lost =>
      if good then
        let since := x.goodSince.getD s.now
        let s := (s.tachSign q false).modTach q fun y => { y with goodSince := some since }
        if since + 10 * sec ≤ s.now then s.tachTo q .running else s
      else
        let s := (s.modTach q fun y => { y with goodSince := none }).tachSign q true
        if 10 ≤ (s.tach q).sigCnt then
          let st := s.classify q ((s.tach q).sigSum / (s.tach q).sigCnt)
          if st = .lost then s.tachSign q false else s.tachTo q st
        else s
    | .stalled => if good then s.tachTo q .running else s
    | .stopped => if good then s.tachTo q .running else s

/-- TACH_EVALUATION (R472 to R478, R481): every 100 ms. -/
def execTachEvaluation (t : Instant) (q : Quad) (s : State) : Result :=
  run t (fun s =>
    when (s.ctlA.running || s.ctlB.running) (fun s =>
      let s := s.modTach q fun x => { x with freq := tachFreq s.now x.edges }
      if s.tachOn q then s.tachStep q
      else
        let s := s.tachTo q .idle
        s.modTach q fun x => { x with spinAt := s.now }) s) s

/-- TACH_SPINUP_END (R475). -/
def execTachSpinupEnd (t : Instant) (q : Quad) (s : State) : Result :=
  run t (fun s =>
    let x := s.tach q
    when (s.tachOn q && x.st = .spinup && decide (x.spinAt + s.item 0x0404 (q.val + 1) * 100 * msec ≤ s.now)) (fun s => s.tachClassify q) s) s

/-- TACH_STALL (R477): the trip of the bound channel, or of both halves. -/
def execTachStall (t : Instant) (q : Quad) (s : State) : Result :=
  run t (fun s =>
    match s.active with
    | none => s
    | some c =>
      let cs := s.tachChans q
      let on := cs.any fun d => (s.chan d).prot.trip = .none
      let due := (s.ctl c).mram.slots.any fun j => j.changes.any fun ch => match ch with
        | .act d 0x16 => cs.contains d
        | _ => false
      when ((s.tach q).st = .stalled && s.item 0x0407 (q.val + 1) = 0 && on && !due) (fun s =>
        s.ownTx c { kind := 5, changes := cs.map fun d => .act d 0x16, mask := s.heldMask c cs }) s) s

/-- TACH_OVERRANGE (R480, R483): the signal above 2000 Hz or with phases below 100 µs, and its end after 10 s within range. -/
def execTachOverrange (t : Instant) (q : Quad) (above : Bool) (s : State) : Result :=
  run t (fun s =>
    when (s.ctlA.running || s.ctlB.running) (fun s =>
      let x := s.tach q
      let since := if above then none else some (x.rangeSince.getD s.now)
      let is := above || (x.above && !s.held since (10 * sec))
      let s := s.modTach q fun y => { y with above := is, rangeSince := since }
      if is = x.above then s
      else s.alarmUnit 0x0704 (q.val + 1) is s.lead.code (b2n x.above) (b2n is) x.freq 2000000) s) s

/-- The inputs of a controller that has become ACTIVE or command-ready (R482, R485): from the channel's phase, the window counted from now. -/
def State.tachAfresh (s : State) (takeover : Bool) : State :=
  overList allQuads (fun q s =>
    let st : TachState :=
      if ¬s.tachOn q then .idle
      else if takeover ∧ (s.tachChans q).any (fun c => 2 ≤ (s.chan c).stage.phase.code) then .running else .spinup
    s.modTach q fun x => { x with st := st, spinAt := s.now, lowSince := none, goodSince := if st = .running then some s.now else none, sigSum := 0, sigCnt := 0 }) s

end Sys2Proof.Machine
end

