-- ==== Sys2Proof/Machine/Transport.lean ====
section
/-!
DEFINITION. Machine/Transport.lean: the bus ports (chapter 12): liveness and port states, PLCA, ARP, ICMP echo, and the counting of silent drops.
-/
namespace Sys2Proof.Machine

/-- The PHY is configured and listens (R508, R520). -/
def State.listens (s : State) (c : Ctl) (p : Bus) : Bool := (s.ctl c).running && ((s.ctl c).phy p).run && !(s.ctl c).sup.failing

/-- An alarm of a port, which stands while either controller's PHY has its condition. -/
def State.portAlarm (s : State) (c : Ctl) (p : Bus) (code : Nat) (has : Phy → Bool) (old new : Int) (meas limit : Int := 0) : State :=
  s.alarm c code p.code (has (s.ctlA.phy p) || has (s.ctlB.phy p)) c.code old new meas limit

/-- Liveness evidence (R507): a QUIET port is UP at once; a DOWN port counts from the first of an unbroken run. -/
def Phy.evidence (x : Phy) (now : Instant) : Phy :=
  let gap : Bool := match x.seenAt with
    | some a => decide (a + sec < now)
    | none => true
  { x with seenAt := some now, st := if x.st = .quiet then .up else x.st
           upSince := if x.st ≠ .down then none else if gap then some now else some (x.upSince.getD now) }

/-- A frame with a correct FCS from another node (R507, R514). -/
def State.heard (s : State) (c : Ctl) (p : Bus) : State :=
  s.modPhy c p fun x => { x.evidence s.now with cnt := { x.cnt with rxOk := wrap32 x.cnt.rxOk } }

/-- A frame with a correct FCS: one that one of the unit's own PHYs sent is no evidence of the port's life (R507). -/
def State.heardFrom (s : State) (c : Ctl) (p : Bus) (mac : Nat) : State :=
  if mac = s.unitMac c ∨ mac = s.phyMac .a p ∨ mac = s.phyMac .b p then
    s.modPhy c p fun x => { x with cnt := { x.cnt with rxOk := wrap32 x.cnt.rxOk } }
  else s.heard c p

/-- A change of a PHY's counters. -/
def State.count (s : State) (c : Ctl) (p : Bus) (f : PortCounts → PortCounts) : State := s.modPhy c p fun x => { x with cnt := f x.cnt }

/-! Port state. -/

/-- How a PHY takes its turn on the segment (R488, R491). -/
inductive Access where
  | csma | coordinator | node
deriving DecidableEq, Repr

/-- The configuration of a PHY as the committed items have it (R489, R491): CSMA/CD by PLCA_EN, or for a node while no beacon is heard; the
coordinator has node ID 0. -/
def State.access (s : State) (c : Ctl) (p : Bus) : Access :=
  if s.itemAt c 0x0501 p.code ≠ 1 then .csma
  else if s.itemAt c (match c with | .a => 0x0502 | .b => 0x0503) p.code = 0 then .coordinator
  else if ((s.ctl c).phy p).beacon then .node
  else .csma

/-- PLCA_BEACON (R491, R507, R508, R513): one heard from another node is evidence; the coordinator sends its own with PLCA_COUNT, in each port state. -/
def execPlcaBeacon (t : Instant) (c : Ctl) (p : Bus) (heard : Bool) (s : State) : Result :=
  run t (fun s => when (s.listens c p) (fun s =>
    if heard then s.modPhy c p fun x => { x.evidence s.now with beacon := true }
    else if s.access c p = .coordinator then s.emit (.beacon c p (s.itemAt c 0x0504 p.code))
    else s) s) s

/-- BEACON_LOSS (R491, R514, R519): counted, and the node falls back to CSMA/CD; three losses in 10 s with PLCA_EN ON raise PLCA_DEGRADED. -/
def execBeaconLoss (t : Instant) (c : Ctl) (p : Bus) (s : State) : Result :=
  run t (fun s =>
    when (s.listens c p && ((s.ctl c).phy p).beacon) (fun s =>
      let plca : Bool := s.itemAt c 0x0501 p.code = 1
      let was := ((s.ctl c).phy p).degraded
      let l := (if plca then [s.now] else []) ++ ((s.ctl c).phy p).losses.filter fun a => s.now ≤ a + 60 * sec
      let bad := was || (plca && decide (3 ≤ (l.filter fun a => s.now ≤ a + 10 * sec).length))
      let s := s.modPhy c p fun x => { x with
        beacon := false, losses := l, degraded := bad, cnt := { x.cnt with beacon := wrap32 x.cnt.beacon } }
      if bad ∧ ¬was then s.portAlarm c p 0x0802 (·.degraded) 0 1 (l.length : Nat) 3 else s) s) s

/-- PLCA_DEGRADED_CLEAR (R519): no loss for 60 s. -/
def execPlcaDegradedClear (t : Instant) (c : Ctl) (p : Bus) (s : State) : Result :=
  run t (fun s =>
    let x := (s.ctl c).phy p
    when (s.listens c p && x.degraded && x.losses.all fun a => decide (a + 60 * sec ≤ s.now)) (fun s =>
      (s.modPhy c p fun x => { x with degraded := false, losses := [] }).portAlarm c p 0x0802 (·.degraded) 1 0) s) s

/-- BUS_COLLISIONS (R514, R519): `rate` collisions in the last second, seen while transmitting under CSMA/CD; above 100 for 10 s raises it, below 10 for 60 s clears it. -/
def execBusCollisions (t : Instant) (c : Ctl) (p : Bus) (rate : Nat) (s : State) : Result :=
  run t (fun s =>
    when (s.listens c p) (fun s =>
      let x := (s.ctl c).phy p
      let rate := if s.access c p = .csma then rate else 0
      let (is, since) := hysteresis s.now x.collBad x.collSince (decide (100 < rate)) (decide (rate < 10)) (10 * sec) (60 * sec)
      let s := s.modPhy c p fun x => { x with collBad := is, collSince := since, cnt := { x.cnt with coll := (x.cnt.coll + rate) % 2 ^ 32 } }
      if is = x.collBad then s else s.portAlarm c p 0x0803 (·.collBad) (b2n x.collBad) (b2n is) rate 100) s) s

/-- RX_FCS (R514). -/
def execRxFcs (t : Instant) (c : Ctl) (p : Bus) (s : State) : Result :=
  run t (fun s => when (s.listens c p) (fun s => s.count c p fun n => { n with rxFcs := wrap32 n.rxFcs }) s) s

/-- PORT_QUIET (R507): 750 ms without evidence; an ARP request goes to PORT_WATCH where it is set. -/
def execPortQuiet (t : Instant) (c : Ctl) (p : Bus) (s : State) : Result :=
  run t (fun s =>
    let x := (s.ctl c).phy p
    when (s.listens c p && x.st = .up && s.held x.seenAt (750 * msec)) (fun s =>
      let s := s.modPhy c p fun x => { x with st := .quiet }
      let watch := s.itemAt c 0x0505 p.code
      if watch = 0 then s else s.putFrame c p 0 (.arpRequest c p watch)) s) s

/-- BUS_PORT_LOST of a bus, which is that of the ACTIVE controller's port (R508). -/
def State.portLost (s : State) (c : Ctl) (p : Bus) : State :=
  if (s.ctl c).role = .active then
    let on : Bool := ((s.ctl c).phy p).st = .down
    let s := s.modPhy c p fun x => { x with lost := on }
    s.alarm c 0x0801 p.code on c.code (b2n (!on)) (b2n on)
  else s

/-- PORT_DOWN (R507, R508): 1 s without evidence, or a short, an open or jabber found by the PHY. -/
def execPortDown (t : Instant) (c : Ctl) (p : Bus) (diag : Bool) (s : State) : Result :=
  run t (fun s =>
    let x := (s.ctl c).phy p
    when (s.listens c p && x.st ≠ .down && (diag || s.held x.seenAt sec)) (fun s =>
      let s := s.modPhy c p fun x => { x with
        st := .down, upSince := none, txq := [], cnt := { x.cnt with down := wrap32 x.cnt.down } }
      s.portLost c p) s) s

/-- PORT_UP (R507): 5 s of evidence with an arrival in each second. -/
def execPortUp (t : Instant) (c : Ctl) (p : Bus) (s : State) : Result :=
  run t (fun s =>
    let x := (s.ctl c).phy p
    when (s.listens c p && x.st = .down && s.held x.upSince (5 * sec) && x.seenAt.any fun a => decide (s.now ≤ a + sec)) (fun s =>
      (s.modPhy c p fun x => { x with st := .up, upSince := none }).portLost c p) s) s

/-! ARP and ICMP. -/

/-- The addresses that a controller answers by ARP and ICMP (R495). -/
def State.answersAt (s : State) (c : Ctl) (p : Bus) (ip : Nat) : Bool :=
  match (s.ctl c).addr p with
  | none => false
  | some a =>
    let x := s.ctl c
    x.running && (ip = a.own c || (ip = a.unit && x.role = .active))

/-- The MAC address that goes with an address of the controller. -/
def State.macAt (s : State) (c : Ctl) (p : Bus) (ip : Nat) : Nat :=
  match (s.ctl c).addr p with
  | some a => if ip = a.unit then s.unitMac c else s.phyMac c p
  | none => s.phyMac c p

/-- Another MAC answers for an address of the unit (R519): the unit keeps and defends it. -/
def State.conflict (s : State) (c : Ctl) (p : Bus) : State :=
  let was := ((s.ctl c).phy p).conflict
  let s := s.modPhy c p fun x => { x with conflict := some s.now }
  if was.isSome then s
  else
    let s := s.portAlarm c p 0x0804 (·.conflict.isSome) 0 1
    if (s.ctl c).role = .active then
      (s.sendGratuitous c p).modPhy c p fun x => { x with garp := x.garp ++ [s.now + 10 * sec] }
    else s

/-- ARP_FRAME (R495, R499, R519): a request to an own address is learned and answered, a reply is learned. -/
def execArpFrame (t : Instant) (c : Ctl) (p : Bus) (op mac ip target : Nat) (s : State) : Result :=
  run t (fun s =>
    when (s.listens c p) (fun s =>
      let s := s.heardFrom c p mac
      match (s.ctl c).addr p with
      | none => s
      | some a =>
        let ours : Bool := (ip = a.unit && mac ≠ s.unitMac c) || (ip = a.ctrlA && mac ≠ s.phyMac .a p) || (ip = a.ctrlB && mac ≠ s.phyMac .b p)
        if ours then s.conflict c p
        else if op = 1 ∧ s.answersAt c p target then
          let s := s.learn c p ip mac
          if ((s.ctl c).phy p).st = .down then s else s.putFrame c p 0 (.arpReply c p target (s.macAt c p target) mac)
        else if op = 2 then s.learn c p ip mac
        else s) s) s

/-- ARP_RETRY (R499): 100 ms and 200 ms after the first request; after the third has failed too, the waiting datagram is dropped. -/
def execArpRetry (t : Instant) (c : Ctl) (p : Bus) (ip : Nat) (s : State) : Result :=
  run t (fun s =>
    match ((s.ctl c).phy p).waits.find? fun w => w.ip = ip with
    | none => s
    | some w => when (s.listens c p && decide (w.at_ + 100 * msec ≤ s.now)) (fun s =>
        if w.tries < 3 then
          let s := s.modPhy c p fun x => { x with waits := x.waits.map fun y => if y.ip = ip then { y with tries := y.tries + 1, at_ := s.now } else y }
          if ((s.ctl c).phy p).st = .down then s else s.putFrame c p 0 (.arpRequest c p ip)
        else s.modPhy c p fun x => { x with
          waits := x.waits.filter fun y => y.ip ≠ ip, cnt := { x.cnt with arp := wrap32 x.cnt.arp } }) s) s

/-- ARP_ENTRY_EXPIRY (R499). -/
def execArpEntryExpiry (t : Instant) (c : Ctl) (p : Bus) (s : State) : Result :=
  run t (fun s => s.modPhy c p fun x => { x with arp := x.arp.filter fun e => s.now < e.at_ + 300 * sec }) s

/-- GRATUITOUS_ARP (R496, R513): those that are due, and again 10 s later while ADDR_CONFLICT stands. -/
def execGratuitousArp (t : Instant) (c : Ctl) (p : Bus) (s : State) : Result :=
  run t (fun s =>
    let x := (s.ctl c).phy p
    when (s.listens c p && (s.ctl c).role = .active && x.garp.any (· ≤ s.now)) (fun s =>
      let later := x.garp.filter fun a => s.now < a
      let again := if x.conflict.isSome ∧ later.isEmpty then [s.now + 10 * sec] else []
      (s.modPhy c p fun y => { y with garp := later ++ again }).sendGratuitous c p) s) s

/-- ADDR_CONFLICT_CLEARED (R519): no conflicting ARP for 60 s. -/
def execAddrConflictCleared (t : Instant) (c : Ctl) (p : Bus) (s : State) : Result :=
  run t (fun s =>
    when (s.listens c p && s.held ((s.ctl c).phy p).conflict (60 * sec)) (fun s =>
      (s.modPhy c p fun x => { x with conflict := none }).portAlarm c p 0x0804 (·.conflict.isSome) 1 0) s) s

/-- Source that the unit takes a datagram from (R497): one outside the subnet only with a GATEWAY. -/
def State.takes (s : State) (c : Ctl) (p : Bus) (src : Nat) : Bool :=
  ((s.ctl c).addr p).any fun a => a.near src a.unit || decide (a.gateway ≠ 0)

/-- A datagram that is not for the unit (R497, R501, R515). -/
def State.notFor (s : State) (c : Ctl) (p : Bus) : State := s.count c p fun n => { n with notFor := wrap32 n.notFor }

/-- An echo request (R497, R500, R515): one to an address the controller answers, at most 10 replies in a second. -/
def State.echo (s : State) (c : Ctl) (p : Bus) (ip dst id : Nat) (data : Bytes) : State :=
  let l := ((s.ctl c).phy p).echoes.filter fun a => s.now < a + sec
  if ¬s.answersAt c p dst ∨ ¬s.takes c p ip ∨ 1472 < data.length then s.notFor c p
  else if 10 ≤ l.length then s.count c p fun n => { n with echo := wrap32 n.echo }
  else (s.modPhy c p fun x => { x with echoes := l ++ [s.now] }).sendOn c p ip data.length (.echo c p dst ip id data)

/-- ICMP_ECHO_REQUEST (R500). -/
def execIcmpEchoRequest (t : Instant) (c : Ctl) (p : Bus) (ip dst id : Nat) (data : Bytes) (s : State) : Result :=
  run t (fun s => when (s.listens c p) (fun s => (s.heard c p).echo c p ip dst id data) s) s

/-- ADDRESS_CHANGE_EFFECT (R493): new addresses, 1 s after the reply. -/
def execAddressChangeEffect (t : Instant) (c : Ctl) (s : State) : Result :=
  run t (fun s =>
    when (s.ctl c).running (fun s =>
      let due := (s.ctl c).addrDue.filter fun d => d.2.2 ≤ s.now
      s.modCtl c fun x => { x with
        addrDue := x.addrDue.filter fun d => s.now < d.2.2
        addrs := due.foldl (fun acc d => acc.map fun a => match d.1 with
          | .a => (d.2.1, a.2)
          | .b => (a.1, d.2.1)) x.addrs }) s) s

/-! Silent drops. -/

/-- The checks of R509 whose drops a PHY keeps by source (R511). -/
inductive DropKind where
  | unknown | budget | tagFail | window
deriving DecidableEq, Repr

/-- A drop added to a source entry. -/
def SrcEntry.add (e : SrcEntry) (k : DropKind) (now : UnitTime) : SrcEntry :=
  match k with
  | .unknown => { e with unknown := wrap32 e.unknown, last := now }
  | .budget => { e with budget := wrap32 e.budget, last := now }
  | .tagFail => { e with tagFail := wrap32 e.tagFail, last := now }
  | .window => { e with window := wrap32 e.window, last := now }

/-- A drop added to the port counters (R514). -/
def PortCounts.add (n : PortCounts) : DropKind → PortCounts
  | .unknown => { n with unknown := wrap32 n.unknown }
  | .budget => { n with budget := wrap32 n.budget }
  | .tagFail => { n with tagFail := wrap32 n.tagFail }
  | .window => { n with window := wrap32 n.window }

/-- The counts of an entry added to another (R511). -/
def SrcEntry.merge (e o : SrcEntry) : SrcEntry :=
  { e with unknown := (e.unknown + o.unknown) % 2 ^ 32, budget := (e.budget + o.budget) % 2 ^ 32
           tagFail := (e.tagFail + o.tagFail) % 2 ^ 32, window := (e.window + o.window) % 2 ^ 32, last := max e.last o.last }

/-- A drop in the source table (R511): the 65th address takes the place of the one with the oldest last drop. -/
def Phy.drop (x : Phy) (ip : Nat) (k : DropKind) (now : Instant) (time : UnitTime) : Phy :=
  let x := { x with cnt := x.cnt.add k, drops := now :: x.drops.filter fun a => now < a + 60 * sec }
  if x.srcs.any fun e => e.ip = ip then
    { x with srcs := x.srcs.map fun e => if e.ip = ip then e.add k time else e }
  else
    let new := ({ ip := ip } : SrcEntry).add k time
    if x.srcs.length < 64 then { x with srcs := x.srcs ++ [new] }
    else
      let oldest := x.srcs.foldl (fun m e => match m with
        | none => some e
        | some b => if e.last < b.last then some e else some b) none
      match oldest with
      | some o => { x with srcs := (x.srcs.filter fun e => e.ip ≠ o.ip) ++ [new], other := x.other.merge o }
      | none => x

/-- The counts of an entry since its last STRANGER record, 16 bytes (R801). -/
def SrcEntry.news (e : SrcEntry) : Bytes :=
  let d := fun (a b : Nat) => be 4 ((a + 2 ^ 32 - b) % 2 ^ 32)
  d e.unknown e.logged.1 ++ d e.budget e.logged.2.1 ++ d e.tagFail e.logged.2.2.1 ++ d e.window e.logged.2.2.2

/-- The STRANGER record of a source (R512, R801), at most once per 60 s; for the sources whose drops make the port's traffic strange. -/
def State.stranger (s : State) (c : Ctl) (p : Bus) (ip : Nat) : State :=
  match ((s.ctl c).phy p).srcs.find? fun e => e.ip = ip with
  | none => s
  | some e =>
    let due : Bool := match e.logAt with
      | some a => decide (a + 60 * sec ≤ s.now)
      | none => true
    if ((s.ctl c).phy p).stranger ∧ due then
      let body := be 4 ip ++ be 1 p.code ++ zeros 3 ++ e.news
      let s := s.logEv c 0x0806 0 c.code p.code body
      s.modPhy c p fun x => { x with srcs := x.srcs.map fun y =>
        if y.ip = ip then { y with logAt := some s.now, logged := (y.unknown, y.budget, y.tagFail, y.window) } else y }
    else s

/-- A silent drop under checks 3 to 6 of R509 (R511, R512). -/
def State.dropAt (s : State) (c : Ctl) (p : Bus) (ip : Nat) (k : DropKind) : State :=
  let s := s.modPhy c p fun x => x.drop ip k s.now (s.utime c)
  let x := (s.ctl c).phy p
  let n := (x.drops.filter fun a => s.now < a + 10 * sec).length
  let s := if ¬x.stranger ∧ 100 < n then
      (s.modPhy c p fun y => { y with stranger := true }).portAlarm c p 0x0805 (·.stranger) 0 1 n 100
    else s
  s.stranger c p ip

/-- STRANGER_TRAFFIC_CLEAR (R512): fewer than 10 drops in the last 60 s. -/
def execStrangerTrafficClear (t : Instant) (c : Ctl) (p : Bus) (s : State) : Result :=
  run t (fun s =>
    let x := (s.ctl c).phy p
    let l := x.drops.filter fun a => s.now < a + 60 * sec
    when (s.listens c p && x.stranger && decide (l.length < 10)) (fun s =>
      (s.modPhy c p fun y => { y with stranger := false, drops := l }).portAlarm c p 0x0805 (·.stranger) 1 0 l.length 10) s) s

/-- DUP_ENTRY_EXPIRY (R504). -/
def execDupEntryExpiry (t : Instant) (c : Ctl) (s : State) : Result :=
  run t (fun s => s.modCtl c fun x => { x with dups := x.dups.filter fun d => s.now < d.at_ + sec }) s

end Sys2Proof.Machine
end

