-- ==== Sys2Proof/Machine/Time.lean ====
section
/-!
DEFINITION. Machine/Time.lean: unit time and its sources, PTP, PPS_OUT and TIME_REPORT (chapter 17).
-/
namespace Sys2Proof.Machine

/-- Limit of the steering increment: 500 fs, in 2^−32 ns per tick (R713). -/
def steerMax : Int := 2147483

/-- A new increment (R712, R713): what the old one added is kept, and a change within 10 ms of the last is not made. -/
def TimeSt.setSteer (x : TimeSt) (now : Instant) (v : Int) : TimeSt :=
  let soon : Bool := match x.steerAt with
    | some a => decide (now < a + 10 * msec)
    | none => false
  let v := max (-steerMax) (min steerMax v)
  if soon ∨ v = x.steer then x
  else
    let n := x.run now
    { x with off := x.off + n / (2 ^ 32 : Nat), frac := (n % (2 ^ 32 : Nat)).toNat, steer := v, steerAt := some now
             runAt := now - (now - x.runAt) % 10 }

/-- Unit time moved by a step. -/
def TimeSt.jump (x : TimeSt) (d : Int) : TimeSt := { x with off := x.off + d }

/-- The frame slot in which a step of unit time falls (R917): it ends at the first whole multiple of 10 µs of the new unit time, `u` now, that lies at least
5 µs after the step. -/
def Ctlr.realign (x : Ctlr) (now : Instant) (u : UnitTime) : Ctlr := { x with slotDue := now + ((u + 14999) / 10000 * 10000 - u).toNat }

/-- An increment in units of 2^−32 ns per tick, of a rate in 10^−6 of it. -/
def unitPerNs : Int := 42949672

/-! Sources. -/

/-- The GNSS condition of R718: a dual-frequency fix, both bands below 160, the check passed, on a running baseband. -/
def State.gnssOk (s : State) (c : Ctl) : Bool :=
  let x := s.ctl c
  let g := x.gnss
  s.ant.card && g.run && !g.cardBad && g.fix.code = 2 && g.fix.iono && decide (g.l1.jam < 160) && decide (g.l5.jam < 160) && !g.checkBad &&
  decide (x.time.gnss.offset.natAbs ≤ 2 ^ 62)

/-- The offset measurements of the last 10 s. -/
def Ptp.recent (p : Ptp) (now : Instant) : List Int := (p.offs.filter fun o => decide (now < o.1 + 10 * sec)).map (·.2)

/-- Spread of some measurements. -/
def spreadOf (l : List Int) : Int :=
  match l with
  | [] => 0
  | a :: t => t.foldl max a - t.foldl min a

/-- The PTP condition of R718. -/
def State.ptpOk (s : State) (c : Ctl) : Bool :=
  let x := s.ctl c
  let p := x.time.ptpc
  let l := p.recent s.now
  s.itemAt c 0x0804 0 = 1 && p.master.isSome && p.ptpScale && decide (6 ≤ p.cls) && decide (p.cls ≤ 127) && p.utcOk &&
  decide (8 ≤ l.length) && decide (spreadOf l < 2000) && decide (x.time.ptp.offset.natAbs ≤ 2 ^ 62)

/-- A source after its condition has been looked at (R718): disqualified at once where it fails. -/
def Src.judge (x : Src) (ok : Bool) (now : Instant) : Src :=
  if ok then { x with since := some (x.since.getD now) } else { x with ok := false, since := none }

/-- TIME_SOURCE_RANGE (R739). -/
def State.rangeAlarm (s : State) (c : Ctl) : State :=
  let x := (s.ctl c).time
  let is : Bool := decide (2 ^ 62 < x.gnss.offset.natAbs) || decide (2 ^ 62 < x.ptp.offset.natAbs)
  if is = x.rangeBad then s
  else (s.modTime c fun y => { y with rangeBad := is }).alarm c 0x0B07 c.code is c.code (b2n x.rangeBad) (b2n is)

/-- Both sources looked at. -/
def State.judge (s : State) (c : Ctl) : State :=
  (s.modTime c fun x => { x with gnss := x.gnss.judge (s.gnssOk c) s.now, ptp := x.ptp.judge (s.ptpOk c) s.now }).rangeAlarm c

/-- The measured source a code names. -/
def TimeSt.source (x : TimeSt) (code : Nat) : Src := if code = 2 then x.ptp else x.gnss

/-- A source qualifies and is not SUSPECT (R723). -/
def Src.usable (x : Src) : Bool := x.ok && x.suspect.isNone

/-- SOURCE_QUALIFIED (R718, R739): the condition has held for 10 s; one that is more than 1 ms off while another source governs is SUSPECT for
10 min. -/
def execSourceQualified (t : Instant) (c : Ctl) (ptp : Bool) (s : State) : Result :=
  run t (fun s =>
    let code := if ptp then 2 else 1
    let x := (s.ctl c).time
    let src := x.source code
    let holds := if ptp then s.ptpOk c else s.gnssOk c
    when ((s.ctl c).running && !src.ok && holds && s.held src.since (10 * sec)) (fun s =>
      let far : Bool := decide (1000000 < src.offset.natAbs) && x.st = .locked && x.src ≠ code
      let new := { src with ok := true, suspect := if far then some (s.now + 600 * sec) else src.suspect }
      s.modTime c fun y => if ptp then { y with ptp := new } else { y with gnss := new }) s) s

/-- SUSPECT_EXPIRY (R739, R741): the source is evaluated afresh from then on. -/
def execSuspectExpiry (t : Instant) (c : Ctl) (ptp : Bool) (s : State) : Result :=
  run t (fun s =>
    let clear := fun (x : Src) => { x with suspect := x.suspect.filter fun a => s.now < a }
    s.modTime c fun y => if ptp then { y with ptp := clear y.ptp } else { y with gnss := clear y.gnss }) s

/-! The governing source. -/

/-- TIME_ORDER, first choice first (R722). -/
def State.timeOrder (s : State) (c : Ctl) : List Nat :=
  let v := s.itemAt c 0x0803 0
  [bits v 12 4, bits v 8 4, bits v 4 4, bits v 0 4].filter (· ≠ 0)

/-- A source of R718 qualifies. -/
def State.qualifies (s : State) (c : Ctl) (code : Nat) : Bool :=
  let x := (s.ctl c).time
  match code with
  | 1 => x.gnss.usable
  | 2 => x.ptp.usable
  | 3 => x.lockedAt.any fun a => decide (s.now < a + 14400 * sec)
  | 4 => x.set
  | _ => false

/-- The governing source (R723): its code, 0 for none. -/
def State.governing (s : State) (c : Ctl) : Nat :=
  match (s.timeOrder c).find? fun n => s.qualifies c n with
  | some n => n
  | none => if (s.ctl c).time.set then 4 else 0

/-- The time state that goes with a governing source (R717). -/
def stateOfSrc (code : Nat) : TimeState := if code = 1 ∨ code = 2 then .locked else if code = 3 then .holdover else if code = 4 then .rtc else .unset

/-- The controller's time state and governing source become these (R717, R724, R726, R730): a change is logged with the offset, and a step
falls due at the first LOCKED state and at a change of governing source. -/
def State.timeTo (s : State) (c : Ctl) (code : Nat) : State :=
  let x := (s.ctl c).time
  let st := stateOfSrc code
  let off := if st = .locked then (x.source code).offset else 0
  let s' := s.modTime c fun y => { y with
    lockedAt := if st = .locked then some s.now else if st = .rtc then none else y.lockedAt
    set := y.set || st = .locked }
  if st = x.st ∧ code = x.src then s'
  else
    let first : Bool := (x.st = .unset || x.st = .rtc) && decide (1000 < off.natAbs)
    let moved : Bool := x.src ≠ code && decide (1000000 < off.natAbs)
    let est := s.estError c
    let s := s'.modTime c fun y => { y with
      st := st, src := code, errBase := est, errAt := s.now
      holdAt := if st = .holdover then some (y.holdAt.getD s.now) else none
      stepDue := if st = .locked ∧ (first || moved) then some (off, x.src) else none }
    s.logEv c 0x0B01 0 c.code 0 (stdBody (x.st.code * 256 + x.src : Nat) (st.code * 256 + code : Nat) (satS 32 off))

/-! Steering. -/

/-- One step of the second-order loop toward a source (R725): time constant 100 s for GNSS, 300 s for PTP. -/
def TimeSt.follow (x : TimeSt) (now : Instant) (off : Int) (tau : Nat) : TimeSt :=
  let integ := x.integ + off * unitPerNs / (tau * tau : Nat)
  let lim := steerMax * 1000000
  let integ := max (-lim) (min lim integ)
  { x with integ := integ }.setSteer now ((off * unitPerNs * (2 * Config.loopDamping : Nat) / (1000 * tau : Nat) + integ) / 1000000)

/-- Bin of 0.5 K from −40 °C (R728). -/
def tcxoBin (t : DeciDeg) : Nat := (max 0 (min 260 ((t + 400) / 5))).toNat

/-- An increment as a frequency in 10^−12, and back. -/
def pptOf (steer : Int) : Int := steer * 1000000000000 / (10 * 2 ^ 32 : Nat)
def steerOf (ppt : Int) : Int := ppt * (10 * 2 ^ 32 : Nat) / 1000000000000

/-- TCXO_DEV (R653, R728): the present deviation of the TCXO, 0.001 ppb. -/
def TimeSt.tcxoDev (x : TimeSt) : Int := -pptOf x.steer

/-- What LOCKED teaches of the TCXO (R728): the increment at this temperature, and an ageing rate whose derivation the spec leaves open. -/
def State.learnTcxo (s : State) (c : Ctl) : State :=
  let b := tcxoBin (s.ctl c).sup.ctrlBoard
  let (v, s) := s.draw
  s.modTime c fun x => { x with
    tcxoBins := (x.tcxoBins.filter fun e => e.1 ≠ b) ++ [(b, pptOf x.steer)]
    tcxoAge := if v % 2 = 0 then ((v / 2 : Nat) : Int) else -((v / 2 : Nat) : Int) }

/-- The increment in HOLDOVER and RTC (R729): the table's at this temperature with ageing; where the table has none, the present one. -/
def TimeSt.coast (x : TimeSt) (now : Instant) (temp : DeciDeg) : TimeSt :=
  match x.tcxoBins.find? fun e => e.1 = tcxoBin temp with
  | none => x
  | some e =>
    let days : Nat := (now - (x.lockedAt.getD now)) / (86400 * sec)
    x.setSteer now (steerOf (e.2 + x.tcxoAge * days))

/-! TAI−UTC. -/

/-- TAI−UTC as stored in MRAM and in the backup domain (R715). -/
def State.storeTai (s : State) (c : Ctl) : State :=
  let x := (s.ctl c).time
  let v := some (x.tai, x.taiAt, x.taiNext)
  (s.modMram c fun m => { m with tai := v }).modSup c fun y => { y with keptTai := v }

/-- TAI−UTC taken from the governing source (R715, R716). An offset learned with no change announced counts as in effect from the instant at which it is
learned, and one that is the same keeps its instant (DESIGN CHOICE, log entry 69: R13 asks for the instant, and no rule gives it). -/
def State.takeTai (s : State) (c : Ctl) (code : Nat) : State :=
  let x := (s.ctl c).time
  let src := x.source code
  match src.tai with
  | none => s
  | some v =>
    if v = x.tai ∧ src.next = x.taiNext ∧ (s.ctl c).mram.tai.isSome then s
    else
      let now := s.utime c
      (s.modTime c fun y => { y with tai := v, taiAt := if v = y.tai then y.taiAt else now, taiNext := src.next }).storeTai c

/-- TAI_UTC_CHANGE (R715): an announced change takes effect. -/
def execTaiUtcChange (t : Instant) (c : Ctl) (s : State) : Result :=
  run t (fun s =>
    match (s.ctl c).time.taiNext with
    | none => s
    | some (v, at_) => when ((s.ctl c).running && decide (at_ ≤ s.utime c)) (fun s =>
        (s.modTime c fun x => { x with
          tai := v, taiAt := at_, taiNext := none
          gnss := { x.gnss with tai := x.gnss.tai.map fun _ => v, next := none }
          ptp := { x.ptp with tai := x.ptp.tai.map fun _ => v, next := none } }).storeTai c) s) s

/-- TAI_UTC_DISAGREE (R716, R743). -/
def State.taiCheck (s : State) (c : Ctl) : State :=
  let x := (s.ctl c).time
  let both : Bool := x.gnss.ok && x.ptp.ok && x.gnss.tai.isSome && x.ptp.tai.isSome
  let differ : Bool := both && (x.gnss.tai ≠ x.ptp.tai || x.gnss.next ≠ x.ptp.next)
  let (is, since) := debounce s.now x.taiBad x.taiSince differ (60 * sec) (60 * sec)
  let s := s.modTime c fun y => { y with taiBad := is, taiSince := since }
  if is = x.taiBad then s
  else s.alarm c 0x0B04 c.code is c.code (b2n x.taiBad) (b2n is) (x.gnss.tai.getD 0) (x.ptp.tai.getD 0)

/-! The evaluation of every second. -/

/-- GNSS and PTP both govern-able and more than 10 µs apart (R741). -/
def TimeSt.disagree (x : TimeSt) : Bool := x.gnss.usable && x.ptp.usable && decide (10000 < (x.gnss.offset - x.ptp.offset).natAbs)

/-- TIME_EVALUATION at the ACTIVE controller (R723 to R725, R728, R729, R741). -/
def State.evalTime (s : State) (c : Ctl) : State :=
  let x := (s.ctl c).time
  let both : Bool := x.gnss.usable && x.ptp.usable
  let apart := x.disagree
  let pending : Bool := both && x.arbAt.isSome
  let n := if apart then x.apart + 1 else 0
  let s := s.modTime c fun y => { y with
    apart := if pending then y.apart else n
    arbAt := if pending then y.arbAt else if apart ∧ 3 ≤ n then some (s.now + 10 * sec) else none
    gnss := if both ∧ ¬apart then { y.gnss with agreed := y.gnss.offset } else y.gnss
    ptp := if both ∧ ¬apart then { y.ptp with agreed := y.ptp.offset } else y.ptp }
  let code := if apart || pending then 3 else s.governing c
  let s := s.timeTo c code
  let s := s.taiCheck c
  if code = 1 ∨ code = 2 then
    let off := ((s.ctl c).time.source code).offset
    let s := s.takeTai c code
    let s := if (s.ctl c).time.stepDue.isSome then s
      else s.modTime c fun y => y.follow s.now off (if code = 1 then 100 else 300)
    s.learnTcxo c
  else if code = 0 then s
  else s.modTime c fun y => y.coast s.now (s.ctl c).sup.ctrlBoard

/-- Every tracker released, no fix, and GNSS disqualified (R793): the card is absent or failed, or the baseband stops. -/
def State.gnssOff (s : State) (c : Ctl) : State :=
  (s.modGnss c fun g => { g with trk := Vector.replicate 32 {}, fix := {}, clock := none, passSince := none }).judge c

/-- GNSS_CARD_FAULT changes (R793). -/
def State.cardFault (s : State) (c : Ctl) (is : Bool) (why : Nat) : State :=
  let was := (s.ctl c).gnss.cardBad
  if is = was then s
  else
    let s := s.modGnss c fun g => { g with cardBad := is, cardSince := none }
    let s := if is then s.gnssOff c else s
    s.alarm c 0x0C06 c.code is 0x10 (b2n was) (b2n is) why

/-- The baseband's own look at silence (R793): no valid frame for 100 ms with the card present, and no satellite tracked for 60 s with the
antenna current normal. -/
def State.gnssIdle (s : State) (c : Ctl) : State :=
  let g := (s.ctl c).gnss
  let silent : Bool := g.run && s.ant.card && (match g.frameAt with
    | some a => decide (a + 100 * msec ≤ s.now)
    | none => false)
  let s := if silent then s.cardFault c true 1 else s
  let tracked : Bool := (s.ctl c).gnss.trk.toList.any fun k => k.l1.lock || k.l5.lock
  let normal : Bool := s.ant.bias ≠ 0 && !s.ant.open_ && !s.ant.short
  let since := s.track (g.run && !tracked && normal) g.idleSince
  let is : Bool := if g.noSignal then !tracked else s.held since (60 * sec)
  let s := s.modGnss c fun y => { y with idleSince := since, noSignal := is }
  if is = g.noSignal then s else s.alarm c 0x0C08 c.code is c.code (b2n g.noSignal) (b2n is)

/-- TIME_EVALUATION (R724, R738): a standby measures its sources and does not steer to them. -/
def execTimeEvaluation (t : Instant) (c : Ctl) (s : State) : Result :=
  run t (fun s =>
    when (s.ctl c).running (fun s =>
      let s := (s.gnssIdle c).judge c
      if (s.ctl c).role = .active then s.evalTime c else s) s) s

/-- HOLDOVER_EXPIRY (R718, R730): 4 h after entry. -/
def execHoldoverExpiry (t : Instant) (c : Ctl) (s : State) : Result :=
  run t (fun s =>
    let x := (s.ctl c).time
    when ((s.ctl c).running && (s.ctl c).role = .active && x.st = .holdover && s.held x.holdAt (14400 * sec)) (fun s =>
      (s.modTime c fun y => { y with lockedAt := none, arbAt := none }).timeTo c 4) s) s

/-- TIME_STEP (R726, R727, R739): in the window from 10 ms to 190 ms after an edge instant, counted before the step. -/
def execTimeStep (t : Instant) (c : Ctl) (s : State) : Result :=
  run t (fun s =>
    match (s.ctl c).time.stepDue with
    | none => s
    | some (d, old) =>
      let before := s.utime c
      let ph := before % 1000000000
      when ((s.ctl c).running && (s.ctl c).role = .active && decide (10000000 ≤ ph) && decide (ph ≤ 190000000)) (fun s =>
        let new := (s.ctl c).time.src
        let s := s.modCtl c (·.realign s.now (s.utime c + d))
        let s := s.modTime c fun x => { x.jump d with
          stepDue := none, stepAt := some (before + d), stepped := true
          gnss := { x.gnss with offset := x.gnss.offset - d, agreed := x.gnss.agreed - d }
          ptp := { x.ptp with offset := x.ptp.offset - d, agreed := x.ptp.agreed - d }
          ptpc := { x.ptpc with offs := x.ptpc.offs.map (fun o => (o.1, o.2 - d)) } }
        let s := s.modGnss c fun g => { g with clock := g.clock.map (· - d) }
        s.logEv c 0x0B02 0 c.code 0 (beInt 8 before ++ beInt 8 (before + d) ++ be 1 old ++ be 1 new)) s) s

/-- The rule that decides an arbitration and its winner (R741). -/
def State.arbitrate (s : State) (c : Ctl) (oneBand : Bool) : Nat × Nat :=
  let x := (s.ctl c).time
  let g := (s.ctl c).gnss
  let moved := fun (y : Src) => (y.offset - y.agreed).natAbs
  let changed : Bool := x.ptpc.changeAt.any fun a => decide (s.now < a + 10 * sec)
  if 80 ≤ g.l1.jam ∨ 80 ≤ g.l5.jam ∨ oneBand then (1, 2)
  else if 7 ≤ x.ptpc.cls ∨ changed then (2, 1)
  else
    let a := moved x.gnss
    let b := moved x.ptp
    if s.estError c < max a b - min a b then (3, if a < b then 1 else 2)
    else (4, ((s.timeOrder c).find? fun n => n = 1 ∨ n = 2).getD 1)

/-- TIME_ARBITRATION (R741): 10 s after the third evaluation; the loser is SUSPECT for 10 min. -/
def execTimeArbitration (t : Instant) (c : Ctl) (oneBand : Bool) (s : State) : Result :=
  run t (fun s =>
    match (s.ctl c).time.arbAt with
    | none => s
    | some a =>
      let x := (s.ctl c).time
      when ((s.ctl c).running && (s.ctl c).role = .active && decide (a ≤ s.now) && x.gnss.usable && x.ptp.usable) (fun s =>
        let (rule, win) := s.arbitrate c oneBand
        let g := (s.ctl c).gnss
        let age := (s.now - x.holdAt.getD s.now) / sec
        let body := beInt 4 (satS 32 x.gnss.offset) ++ beInt 4 (satS 32 x.ptp.offset) ++ be 1 g.l1.jam ++ be 1 g.l5.jam ++ be 1 x.ptpc.cls ++
          be 1 rule ++ be 4 age ++ be 1 win
        let until_ := some (s.now + 600 * sec)
        let s := s.modTime c fun y => { y with
          arbAt := none, apart := 0
          gnss := if win = 2 then { y.gnss with suspect := until_ } else y.gnss
          ptp := if win = 1 then { y.ptp with suspect := until_ } else y.ptp }
        let s := s.logEv c 0x0B03 0 c.code 0 body
        s.timeTo c (s.governing c)) s) s

/-- TIME_PAIR_DIFF (R738). -/
def execTimePairDiff (t : Instant) (s : State) : Result :=
  run t (fun s =>
    match s.active with
    | none => s
    | some c =>
      when (s.linkUp && (s.ctl c.other).standby) (fun s =>
        let d := s.utime c.other - s.utime c
        let x := (s.ctl c).time
        let (is, since) := hysteresis s.now x.pairBad x.pairSince (decide (1000 < d.natAbs)) (decide (d.natAbs < 500)) sec (10 * sec)
        let s := s.modTime c fun y => { y with pairDiff := some d, pairBad := is, pairSince := since }
        if is = x.pairBad then s else s.alarm c 0x0B05 0 is c.code (b2n x.pairBad) (b2n is) (satS 32 d) 1000) s) s

/-! PTP. -/

/-- 946684800 s: PTP time less unit time (R714). -/
def ptpShift : Int := 946684800000000000

/-- A message of the selected master in the unit's domain (R719, R720). -/
def State.fromMaster (s : State) (c : Ctl) (p : Bus) (master domain : Nat) : Bool :=
  let x := (s.ctl c).time.ptpc
  s.listens c p && s.itemAt c 0x0804 0 = 1 && domain = s.itemAt c 0x0805 0 && x.master = some master && x.bus = p

/-- An offset measurement (R721): master less unit time. -/
def State.ptpMeasure (s : State) (c : Ctl) (t21 : Int) : State :=
  let s := s.modTime c fun x => { x with ptpc := { x.ptpc with t21 := some t21 } }
  match (s.ctl c).time.ptpc.delay with
  | none => s
  | some d =>
    (s.modTime c fun x => { x with
      ptp := { x.ptp with offset := d - t21 }
      ptpc := { x.ptpc with offs := (s.now, d - t21) :: x.ptpc.offs.filter fun o => decide (s.now < o.1 + 10 * sec) } }).judge c

/-- PTP_SYNC (R719, R721): timestamped by the timebase to 10 ns. -/
def execPtpSync (t : Instant) (c : Ctl) (p : Bus) (master domain seq : Nat) (twoStep : Bool) (origin : Int) (s : State) : Result :=
  run t (fun s =>
    let s := if s.listens c p then s.heard c p else s
    when (s.fromMaster c p master domain) (fun s =>
      let rx := s.utime c / 10 * 10
      if twoStep then s.modTime c fun x => { x with ptpc := { x.ptpc with sync := some (seq, rx) } }
      else s.ptpMeasure c (rx - (origin - ptpShift))) s) s

/-- PTP_FOLLOW_UP (R719). -/
def execPtpFollowUp (t : Instant) (c : Ctl) (p : Bus) (master domain seq : Nat) (origin : Int) (s : State) : Result :=
  run t (fun s =>
    let s := if s.listens c p then s.heard c p else s
    match (s.ctl c).time.ptpc.sync with
    | none => s
    | some (n, rx) => when (s.fromMaster c p master domain && n = seq) (fun s =>
        (s.modTime c fun x => { x with ptpc := { x.ptpc with sync := none } }).ptpMeasure c (rx - (origin - ptpShift))) s) s

/-- DELAY_REQ (R720): at the master's interval, never more often than 16 in a second. -/
def execDelayReq (t : Instant) (c : Ctl) (s : State) : Result :=
  run t (fun s =>
    let x := (s.ctl c).time.ptpc
    let gap := max x.delayNs 62500000
    let due : Bool := match x.reqAt with
      | some a => decide (a + gap ≤ s.now)
      | none => true
    when (s.listens c x.bus && s.itemAt c 0x0804 0 = 1 && x.master.isSome && due && ((s.ctl c).phy x.bus).st ≠ .down) (fun s =>
      let tx := s.utime c / 10 * 10
      let s := s.modTime c fun y => { y with ptpc := { y.ptpc with
        req := some (y.ptpc.reqSeq, tx), reqAt := some s.now, reqSeq := (y.ptpc.reqSeq + 1) % 2 ^ 16 } }
      s.putFrame c x.bus 44 (.delayReq c x.bus x.reqSeq)) s) s

/-- PTP_DELAY_RESP (R721): the path delay is half the measured round trip. -/
def execPtpDelayResp (t : Instant) (c : Ctl) (p : Bus) (master domain seq : Nat) (rx : Int) (s : State) : Result :=
  run t (fun s =>
    let s := if s.listens c p then s.heard c p else s
    match (s.ctl c).time.ptpc.req with
    | none => s
    | some (n, tx) => when (s.fromMaster c p master domain && n = seq) (fun s =>
        s.modTime c fun x => { x with ptpc := { x.ptpc with
          req := none, delay := x.ptpc.t21.map fun a => (a + (rx - ptpShift - tx)) / 2 } }) s) s

/-- The data set of an Announce, in the order of comparison (R720). -/
def announceSet (a : Announce) : List Nat := [a.pri1, a.cls, a.accNs, a.var, a.pri2, a.gm, a.steps, a.master]

/-- One data set is better than another: the first difference decides, the lower value wins. -/
def better : List Nat → List Nat → Bool
  | a :: as, b :: bs => decide (a < b) || (a = b && better as bs)
  | _, _ => false

/-- Two to a signed power, in ns of a second (R720). -/
def logSec (e : Int) : Nat := if 0 ≤ e then sec * 2 ^ e.toNat else sec / 2 ^ (-e).toNat

/-- The instant at which the present UTC day ends with the new TAI−UTC, in unit time (R715): the day is a second longer with leap61, and a second
shorter with leap59. -/
def utcDayEnd (now : UnitTime) (new : Int) : UnitTime :=
  let day : Int := 86400000000000
  ((now - new * 1000000000) / day + 1) * day + new * 1000000000

/-- What an Announce of the selected master says (R715, R718, R720). -/
def TimeSt.announce (x : TimeSt) (a : Announce) (p : Bus) (now : Instant) (ut : UnitTime) : TimeSt :=
  let same : Bool := x.ptpc.master = some a.master && x.ptpc.bus = p
  let next := if a.leap61 then some (a.utc + 1, utcDayEnd ut (a.utc + 1)) else if a.leap59 then some (a.utc - 1, utcDayEnd ut (a.utc - 1)) else none
  { x with
    ptp := { x.ptp with tai := if a.utcOk then some a.utc else none, next := if a.utcOk then next else none }
    ptpc := { x.ptpc with
      master := some a.master, bus := p, cls := a.cls, dataset := announceSet a, accNs := a.accNs, ptpScale := a.ptp, utcOk := a.utcOk
      annNs := logSec a.logAnn, delayNs := logSec a.logDelay, annAt := some now
      changeAt := if same then x.ptpc.changeAt else some now
      sync := if same then x.ptpc.sync else none, req := if same then x.ptpc.req else none
      t21 := if same then x.ptpc.t21 else none, delay := if same then x.ptpc.delay else none, offs := if same then x.ptpc.offs else [] } }

/-- PTP_ANNOUNCE (R719, R720): the best master of both ports carries the measurements. -/
def execPtpAnnounce (t : Instant) (c : Ctl) (p : Bus) (a : Announce) (s : State) : Result :=
  run t (fun s =>
    let s := if s.listens c p then s.heard c p else s
    let x := (s.ctl c).time.ptpc
    let fits : Bool := decide (-4 ≤ a.logSync) && decide (a.logSync ≤ 1) && decide (0 ≤ a.logAnn) && decide (a.logAnn ≤ 3)
    when (s.listens c p && s.itemAt c 0x0804 0 = 1 && a.domain = s.itemAt c 0x0805 0 && fits) (fun s =>
      let mine : Bool := x.master = some a.master && x.bus = p
      if mine || x.master.isNone || better (announceSet a) x.dataset then
        (s.modTime c fun y => y.announce a p s.now (s.utime c)).judge c
      else s) s) s

/-- PTP_MASTER_LOST (R720): three announce intervals without an Announce. -/
def execPtpMasterLost (t : Instant) (c : Ctl) (s : State) : Result :=
  run t (fun s =>
    let x := (s.ctl c).time.ptpc
    when ((s.ctl c).running && x.master.isSome && s.held x.annAt (3 * x.annNs)) (fun s =>
      (s.modTime c fun y => { y with
        ptp := { y.ptp with tai := none, next := none }, ptpc := { reqSeq := y.ptpc.reqSeq, changeAt := some s.now } }).judge c) s) s

/-! PPS_OUT and TIME_REPORT. -/

/-- The first whole second after an instant. -/
def nextEdge (u : UnitTime) : UnitTime := (u / 1000000000 + 1) * 1000000000

/-- Tap, carry and residual of an edge `f` ps after its tick (R732, R733). The residual is counted from the tick the edge is placed at. -/
def placeEdge (f n : Nat) (fault : Bool) : Nat × Bool × Int :=
  if fault then
    if 5000 ≤ f then (0, true, 10000 - f) else (0, false, -f)
  else
    let tap := (2 * f * n + 10000) / 20000
    if tap = n then (0, true, 10000 - f)
    else (tap, false, ((2 * tap * 10000 + n) / (2 * n) : Nat) - f)

/-- TAI−UTC at an instant, and the change announced beyond it (R25, R715): a change takes effect at its own unit time. -/
def TimeSt.taiOn (x : TimeSt) (u : UnitTime) : Int × Option (Int × UnitTime) :=
  match x.taiNext with
  | some (v, at_) => if at_ ≤ u then (v, none) else (x.tai, x.taiNext)
  | none => (x.tai, none)

/-- The content of a TIME_REPORT (R735). -/
def State.reportBytes (s : State) (c : Ctl) (edge : UnitTime) (resid : Int) (emit : Bool) : Bytes :=
  let x := (s.ctl c).time
  let (tai, ahead) := x.taiOn edge
  let flags := b2n emit ||| (b2n x.dlyFault <<< 1) ||| (b2n ahead.isSome <<< 2) ||| (b2n x.stepped <<< 3) |||
    (b2n (x.gnss.suspect.isSome || x.ptp.suspect.isSome) <<< 4)
  let next := (ahead.map (·.1)).getD tai
  beInt 8 edge ++ beInt 4 resid ++ be 1 x.st.code ++ be 1 x.src ++ beInt 2 tai ++ be 4 (satU 32 (s.estError c)) ++ be 1 flags ++ zeros 1 ++
  beInt 2 next ++ beInt 8 ((ahead.map (·.2)).getD 0)

/-- TIME_REPORT (R733, R735, R736): from 200 ms to 800 ms after the edge before, once for each edge; `f` is the part of the edge instant below
its tick, ps. -/
def execTimeReport (t : Instant) (c : Ctl) (f : Nat) (s : State) : Result :=
  run t (fun s =>
    let x := (s.ctl c).time
    let u := s.utime c
    let ph := u % 1000000000
    let edge := nextEdge u
    let once : Bool := match x.report with
      | some r => r.edge ≠ edge
      | none => true
    when ((s.ctl c).running && (s.ctl c).role = .active && decide (200000000 ≤ ph) && decide (ph ≤ 800000000) && once) (fun s =>
      let emit : Bool := (x.st = .locked || x.st = .holdover) &&
        (x.stepAt.all fun a => decide (a + 1000000000 ≤ edge)) && (x.lastPps.all fun a => decide (a < edge))
      let (tap, carry, resid) := placeEdge f x.nCal x.dlyFault
      let content := s.reportBytes c edge resid emit
      s.modTime c fun y => { y with
        stepped := false, report := some { edge := edge, tap := tap, carry := carry, resid := resid, emit := emit, content := content } }) s) s

/-- PPS_EDGE (R731, R735, R740): the rising edge at a whole second, by the controller that sent its report, in LOCKED and HOLDOVER. -/
def execPpsEdge (t : Instant) (c : Ctl) (s : State) : Result :=
  run t (fun s =>
    let x := (s.ctl c).time
    let u := s.utime c
    let edge := u / 1000000000 * 1000000000
    when ((s.ctl c).running && (s.ctl c).role = .active && decide (u < edge + 1000000)) (fun s =>
      let s := s.modTime c fun y => { y with edgeAt := some edge }
      match x.report with
      | some r =>
        if r.edge = edge ∧ r.emit ∧ (x.st = .locked ∨ x.st = .holdover) ∧ x.lastPps ≠ some edge then
          (s.modTime c fun y => { y with lastPps := some edge, ppsHigh := true, ppsAt := s.now, resid := r.resid }).emit (.pps c)
        else s
      | none => s) s) s

/-- PPS_PULSE_END (R731): 100 ms after the edge. -/
def execPpsPulseEnd (t : Instant) (c : Ctl) (s : State) : Result :=
  run t (fun s =>
    let x := (s.ctl c).time
    when (x.ppsHigh && decide (x.ppsAt + 100 * msec ≤ s.now)) (fun s => s.modTime c fun y => { y with ppsHigh := false }) s) s

/-- PPS_DELAY_CALIBRATION (R732): valid from 80 to 120; two invalid results in a row set DLY_FAULT, ten valid ones clear it. -/
def execPpsDelayCalibration (t : Instant) (c : Ctl) (n : Nat) (s : State) : Result :=
  run t (fun s =>
    when (s.ctl c).running (fun s =>
      let x := (s.ctl c).time
      let ok : Bool := decide (80 ≤ n) && decide (n ≤ 120)
      let bad := if ok then 0 else x.calBad + 1
      let good := if ok then x.calGood + 1 else 0
      let is : Bool := if x.dlyFault then decide (good < 10) else decide (2 ≤ bad)
      let s := s.modTime c fun y => { y with
        nCal := if ok then n else y.nCal, calBad := min 2 bad, calGood := min 10 good, dlyFault := is }
      if is = x.dlyFault then s else s.alarm c 0x0B08 c.code is c.code (b2n x.dlyFault) (b2n is) n 80) s) s

end Sys2Proof.Machine
end

