-- ==== Sys2Proof/Machine/Tracking.lean ====
section
/-!
DEFINITION. Machine/Tracking.lean: the tracking loops of the baseband (R756 to R758, R761, R763) and its acquisition (R752 to R755). Code phases
are held in 2^−32 chips, carrier phases in 2^−32 cycles, frequencies in µHz.
-/
namespace Sys2Proof.Machine

/-! Signals. -/

/-- The Galileo flag of a satellite code (R762). -/
def isGal (sat : Nat) : Bool := bit sat 6

/-- Carrier frequency of a band, Hz (R748). -/
def carrierHz : Band → Nat
  | .l1 => 1575420000
  | .l5 => 1176450000

/-- Chip rate of a band, chips per second (R751). -/
def chipRate : Band → Nat
  | .l1 => 1023000
  | .l5 => 10230000

/-- Length of the primary code that is tracked, chips (R751). -/
def codeLen (sat : Nat) : Band → Nat
  | .l1 => if isGal sat then 4092 else 1023
  | .l5 => 10230

/-- The band a satellite is acquired on (R752). -/
def firstBand (sat : Nat) : Band := if isGal sat then .l5 else .l1

def Trk.band (k : Trk) : Band → TrkBand
  | .l1 => k.l1
  | .l5 => k.l5

def Trk.modBand (k : Trk) (b : Band) (f : TrkBand → TrkBand) : Trk :=
  match b with
  | .l1 => { k with l1 := f k.l1 }
  | .l5 => { k with l5 := f k.l5 }

def State.modTrk (s : State) (c : Ctl) (k : Tracker) (f : Trk → Trk) : State := s.modGnss c fun g => { g with trk := modV g.trk k f }

/-! The numerically controlled oscillators. -/

/-- Code phase gained in a time, ns, at the tracked rates: the code is aided by the carrier (R757, R761). -/
def codeGain (b : Band) (freq dt : Int) : Int :=
  (chipRate b : Nat) * dt * (2 ^ 32 : Nat) / 1000000000 + (chipRate b : Nat) * dt * freq * (2 ^ 32 : Nat) / (1000000000000000 * carrierHz b : Nat)

/-- Carrier phase gained in a time: the negative of the integrated Doppler (R763). -/
def phaseGain (freq dt : Int) : Int := -(freq * dt * (2 ^ 32 : Nat) / 1000000000000000)

/-- A band's phases moved by a time, ns, along the tracked code and carrier rates (R761). -/
def TrkBand.move (z : TrkBand) (b : Band) (dt : Int) : TrkBand :=
  { z with code := z.code + codeGain b z.freq dt, phase := z.phase + phaseGain z.freq dt }

/-- A band carried to an instant; the code phase is counted within the primary code. -/
def TrkBand.carry (z : TrkBand) (sat : Nat) (b : Band) (now : Instant) : TrkBand :=
  let z := { z.move b ((now : Int) - z.at_) with at_ := now }
  { z with code := z.code % (codeLen sat b * 2 ^ 32 : Nat) }

/-! Discriminators. -/

/-- Angles of 2^−i as parts of a turn, in 2^−32. -/
def turnTable : List Nat :=
  [536870912, 316933406, 167458907, 85004756, 42667331, 21354465, 10679838, 5340245, 2670163, 1335087, 667544, 333772, 166886, 83443, 41722, 20861,
   10430, 5215, 2608, 1304]

/-- Rotations toward the axis, the angle turned summed up. -/
def turnSteps : List Nat → Nat → Int → Int → Int → Int
  | [], _, _, _, z => z
  | a :: l, i, x, y, z =>
    if 0 ≤ y then turnSteps l (i + 1) (x + y / (2 ^ i : Nat)) (y - x / (2 ^ i : Nat)) (z + a)
    else turnSteps l (i + 1) (x - y / (2 ^ i : Nat)) (y + x / (2 ^ i : Nat)) (z - a)

/-- The arctangent of q over i with i ≥ 0, as a part of a turn in 2^−32. -/
def turnOf (i q : Int) : Int := if i = 0 ∧ q = 0 then 0 else turnSteps turnTable 0 (i * 65536) (q * 65536) 0

/-- Costas, arctangent: blind to the sign of a data bit (R757). -/
def costas (p : Int × Int) : Int := if p.1 < 0 then turnOf (-p.1) (-p.2) else turnOf p.1 p.2

/-- Four-quadrant arctangent (R757). -/
def quadrant (p : Int × Int) : Int :=
  if 0 ≤ p.1 then turnOf p.1 p.2
  else if 0 ≤ p.2 then turnOf (-p.1) (-p.2) + 2147483648 else turnOf (-p.1) (-p.2) - 2147483648

/-- Power of a correlator. -/
def power2 (p : Int × Int) : Int := p.1 * p.1 + p.2 * p.2

/-- Cross-product of two prompts `ms` apart, as a frequency error in µHz (R757). -/
def crossHz (old new : Int × Int) (ms : Nat) : Int :=
  if power2 new = 0 then 0 else (old.1 * new.2 - old.2 * new.1) * 159154943 / (power2 new * (ms : Int))

/-- Normalised early-minus-late power, as a code error in µchips (R757). -/
def earlyLate (e l : Int × Int) : Int :=
  if power2 e + power2 l = 0 then 0 else (power2 e - power2 l) * 500000 / (power2 e + power2 l)

/-! Loops. -/

/-- Coherent integration, ms: 1, or 4 for E1-C, and 20 after bit or secondary-code synchronisation (R757). -/
def TrkBand.integMs (z : TrkBand) (sat : Nat) (b : Band) : Nat := if z.sync then 20 else if isGal sat ∧ b = .l1 then 4 else 1

/-- The FLL aids the PLL in the 500 ms from the lock of a band (R757). -/
def TrkBand.pullIn (z : TrkBand) (now : Instant) : Bool := decide (now < z.lockAt + 500 * msec)

/-- The loops of a band after one integration (R757): the third-order PLL with its discriminator, the second-order FLL while it aids, and the first-order
DLL of 0.5 Hz, whose gain is 4 times its noise bandwidth. -/
def TrkBand.integrate (z : TrkBand) (sat : Nat) (b : Band) (now : Instant) (d : Dump) : TrkBand :=
  let z := z.carry sat b now
  let ms : Int := (z.integMs sat b : Nat)
  let turn := if b = .l1 ∧ ¬isGal sat then costas d.p else quadrant d.p
  let ep := turn * 1000000 / (2 ^ 32 : Nat)
  let ef := if z.pullIn now then (z.prompt.map fun o => crossHz o d.p (z.integMs sat b)).getD 0 else 0
  let acc := z.acc + (Config.loopGain 0 * ep + Config.loopGain 3 * ef) * ms / 1000000
  let vel := z.vel + (acc + (Config.loopGain 1 * ep + Config.loopGain 4 * ef) / 1000) * ms / 1000
  { z with
    acc := acc, vel := vel, freq := vel + Config.loopGain 2 * ep / 1000, prompt := some d.p, sync := z.sync || d.sync
    code := z.code + 2 * earlyLate d.e d.l * ms * (2 ^ 32 : Nat) / 1000000000 }

/-- What the correlators of a frame give to the loops of its trackers. -/
def State.correlate (s : State) (c : Ctl) (dumps : List Dump) : State :=
  overList dumps (fun d s => s.modTrk c d.trk fun k => match k.sat with
    | some sat => if (k.band d.band).lock then k.modBand d.band fun z => z.integrate sat d.band s.now d else k
    | none => k) s

/-! Acquisition. -/

/-- GNSS_SYS admits the satellite (R751, R787). -/
def State.sysOn (s : State) (c : Ctl) (sat : Nat) : Bool := bit (s.itemAt c 0x0812 0) (b2n (isGal sat))

/-- An ephemeris set is in its use period and its satellite healthy (R766, R768). -/
def Eph.good (e : Eph) (now : UnitTime) : Bool := e.healthy && decide (now ≤ e.ref + 14400000000000)

/-- A satellite's Doppler and elevation can be predicted (R753): from ephemeris or almanac, the last good fix, and the card clock as the sample link
gives it. -/
def Gnss.predicts (g : Gnss) (now : UnitTime) (sat : Nat) : Bool :=
  (g.alm || g.eph.any fun e => e.sat = sat && e.good now) && g.good.isSome && g.frameAt.isSome

/-- The centre of the Doppler window, µHz (R753): the predicted one, else 0. -/
def Gnss.centre (g : Gnss) (now : UnitTime) (sat : Nat) (b : Band) : Int :=
  match g.good with
  | some f => if g.predicts now sat then Config.predictDoppler sat b f.lat f.lon f.height g.ppm now else 0
  | none => 0

/-- The elevation predicted for a satellite, 0.1 ° (R754). -/
def Gnss.elev (g : Gnss) (now : UnitTime) (sat : Nat) : Option Int :=
  match g.good with
  | some f => if g.predicts now sat then some (Config.predictElev sat f.lat f.lon f.height now) else none
  | none => none

/-- The satellites that the unit serves, GPS 1 to 32 and then Galileo 1 to 36 (R754). -/
def allSats : List Nat := (List.range 32).map (· + 1) ++ (List.range 36).map (· + 65)

/-- A satellite put among others in falling order of a measure, after those of the same. -/
def putFalling (f : Nat → Int) (x : Nat) : List Nat → List Nat
  | [] => [x]
  | y :: l => if f y < f x then x :: y :: l else y :: putFalling f x l

/-- The candidates for a free tracker, the next one first (R754, R788): those not tracked, by predicted elevation and then in number order; the ones whose
search has failed come after every other, the earliest first. -/
def State.candidates (s : State) (c : Ctl) : List Nat :=
  let g := (s.ctl c).gnss
  let now := s.utime c
  let on := allSats.filter fun n => s.sysOn c n && !g.trk.toList.any fun k => k.sat = some n
  let fresh := on.filter fun n => !g.failed.contains n
  let known := fresh.filter fun n => (g.elev now n).isSome
  let ranked := known.foldl (fun l n => putFalling (fun m => (g.elev now m).getD 0) n l) []
  ranked ++ fresh.filter (fun n => (g.elev now n).isNone) ++ g.failed.filter on.contains

/-- A band locks, its replica at this code phase and Doppler. -/
def TrkBand.acquire (b : TrkBand) (now : Instant) (code freq : Int) (cn0 : Nat) : TrkBand :=
  { b with lock := true, code := code, freq := freq, vel := freq, acc := 0, phase := 0, prompt := none, sync := false, at_ := now, cn0 := cn0
           lockAt := now, weak := none, loose := none, lostAt := none, sideSince := none, smoothN := 0, shapeSince := none }

/-- The peak is found (R754): 15 dB above the mean of all cells, and 3 dB above the next. -/
def peakOk (peak next : Nat) : Bool := decide (150 ≤ peak) && decide (next + 30 ≤ peak)

/-- On-chip processing of a capture runs, so that searches pause (R790). -/
def Gnss.searching (g : Gnss) : Bool := g.run && !g.cardBad && !(g.snapRun.any fun r => r.stored)

/-- The Doppler of a bin, µHz: 500 Hz apart, 20 on either side of the centre (R753). -/
def binFreq (centre : Int) (bin : Fin 41) : Int := centre + ((bin.val : Int) - 20) * 500000000

/-- ACQUISITION_SEARCH (R752 to R755, R758): a free tracker searches the next candidate; one whose first band is lost, around its last Doppler for 10 s.
`code` is the code phase of the peak and `bin` its Doppler bin. -/
def execAcquisitionSearch (t : Instant) (c : Ctl) (k : Tracker) (peak next code : Nat) (bin : Fin 41) (s : State) : Result :=
  run t (fun s =>
    let g := (s.ctl c).gnss
    let x := g.trk[k]
    let found := fun (s : State) (sat : Nat) (freq : Int) =>
      let b := firstBand sat
      s.modTrk c k fun y => ({ y with sat := some sat, handAt := if (y.band b.other).lock then none else some s.now, handRetry := none } : Trk).modBand b
        fun z => z.acquire s.now ((code % (codeLen sat b * 2 ^ 32) : Nat) : Int) freq 0
    when ((s.ctl c).running && g.searching) (fun s =>
      match x.sat with
      | some sat =>
        let z := x.band (firstBand sat)
        when (s.sysOn c sat && !z.lock && (z.lostAt.any fun a => decide (s.now < a + 10 * sec)) && peakOk peak next)
          (fun s => found s sat (binFreq z.freq bin)) s
      | none =>
        match (s.candidates c).head? with
        | none => s
        | some sat =>
          let failed := g.failed.filter (· ≠ sat)
          let s := s.modGnss c fun y => { y with blocks := if g.failed.contains sat then 16 else 4 }
          if peakOk peak next then
            (found s sat (binFreq (g.centre (s.utime c) sat (firstBand sat)) bin)).modGnss c fun g => { g with failed := failed }
          else s.modGnss c fun g => { g with failed := failed ++ [sat] }) s) s

/-- Doppler scaled to the other band (R755). -/
def scaleFreq (from_ : Band) (f : Int) : Int :=
  match from_ with
  | .l1 => f * 115 / 154
  | .l5 => f * 154 / 115

/-- The code phase carried across to the other band (R755): the codes of both start together, and from E5a to E1 the candidate says which 1 ms of the 4 ms
code runs. -/
def carryCode (sat : Nat) (from_ : Band) (code : Int) (cand : Fin 4) : Int :=
  match from_ with
  | .l1 => code * 10 % (10230 * 2 ^ 32 : Nat)
  | .l5 => (code / 10 + (cand.val * 1023 * 2 ^ 32 : Nat)) % (codeLen sat .l1 * 2 ^ 32 : Nat)

/-- HAND_OVER (R755): within 500 ms the other band locks, on the candidate that has been tested; else it is abandoned, and tried again 10 s later. -/
def execHandOver (t : Instant) (c : Ctl) (k : Tracker) (locked : Bool) (cand : Fin 4) (cn0 : Nat) (s : State) : Result :=
  run t (fun s =>
    let g := (s.ctl c).gnss
    let x := g.trk[k]
    match x.sat with
    | none => s
    | some sat =>
      let b := firstBand sat
      let due : Option Instant := x.handAt.orElse fun _ => x.handRetry.filter fun a => decide (a ≤ s.now)
      match due with
      | none => s
      | some a => when ((s.ctl c).running && g.run && (x.band b).lock && !(x.band b.other).lock) (fun s =>
          if locked ∧ (s.now ≤ a + 500 * msec ∨ x.handAt.isNone) then
            s.modTrk c k fun y =>
              let z := (y.band b).carry sat b s.now
              ({ y with handAt := none, handRetry := none, ionoHist := [] } : Trk).modBand b.other fun o =>
                o.acquire s.now (carryCode sat b z.code cand) (scaleFreq b z.freq) cn0
          else if x.handAt.isNone then s.modTrk c k fun y => { y with handAt := some s.now, handRetry := none }
          else if a + 500 * msec ≤ s.now then s.modTrk c k fun y => { y with handAt := none, handRetry := some (s.now + 10 * sec) }
          else s) s) s

/-! Loss of lock. -/

/-- LOSS_OF_LOCK (R758): C/N0 below 22 dB-Hz or the phase-lock indicator below 0.6 for 1 s; 10 s later a tracker with both bands lost is free. -/
def execLossOfLock (t : Instant) (c : Ctl) (k : Tracker) (b : Band) (cn0 pli : Nat) (s : State) : Result :=
  run t (fun s =>
    let x := (s.ctl c).gnss.trk[k]
    when ((s.ctl c).running && x.sat.isSome) (fun s =>
      if (x.band b).lock then
        let weak := s.track (decide (cn0 < 2200)) (x.band b).weak
        let loose := s.track (decide (pli < 600)) (x.band b).loose
        if s.held weak sec ∨ s.held loose sec then
          s.modTrk c k fun y => ({ y with ionoHist := [] } : Trk).modBand b fun z =>
            { z with lock := false, lostAt := some s.now, weak := none, loose := none, slip := true, cn0 := cn0, smoothN := 0 }
        else s.modTrk c k fun y => y.modBand b fun z => { z with weak := weak, loose := loose, cn0 := cn0 }
      else
        let gone := fun (z : TrkBand) => !z.lock && (match z.lostAt with
          | some a => decide (a + 10 * sec ≤ s.now)
          | none => true)
        if gone x.l1 ∧ gone x.l5 then s.modTrk c k fun _ => {} else s) s) s

/-- SIDE_PEAK_SHIFT (R758): on E1-C, VE or VL above prompt for 100 ms shifts the replica by one chip toward that correlator and sets the slip flag. -/
def execSidePeakShift (t : Instant) (c : Ctl) (k : Tracker) (late : Bool) (side prompt : Nat) (s : State) : Result :=
  run t (fun s =>
    let x := (s.ctl c).gnss.trk[k]
    when ((s.ctl c).running && (x.sat.any isGal) && x.l1.lock) (fun s =>
      let since := s.track (decide (prompt < side)) x.l1.sideSince
      if s.held since (100 * msec) then
        s.modTrk c k fun y => ({ y with ionoHist := [] } : Trk).modBand .l1 fun z => { z with
          sideSince := none, slip := true, smoothN := 0, code := (z.code + if late then -4294967296 else 4294967296) % (4092 * 2 ^ 32 : Nat) }
      else s.modTrk c k fun y => y.modBand .l1 fun z => { z with sideSince := since }) s) s

end Sys2Proof.Machine
end

