-- ==== Sys2Proof/Machine/Solution.lean ====
section
/-!
DEFINITION. Machine/Solution.lean: measurement epochs, the solution of position and time, and the consistency checks (R760 to R773, R778, R779).
-/
namespace Sys2Proof.Machine

/-! Records. -/

/-- Signal code of R762. -/
def signalOf (sat : Nat) (b : Band) : Nat := (if isGal sat then 2 else 0) + match b with
  | .l1 => 0
  | .l5 => 1

/-- A band has been acquired or handed over since its tracker took the satellite (R764). -/
def TrkBand.begun (z : TrkBand) : Bool := z.lock || z.lostAt.isSome

/-- Code phase since the start of the transmit second, with the second, from the phase within the primary code: the card's group delay is removed
(R750, R763). -/
def transmitted (sat : Nat) (b : Band) (second periods : Nat) (code : Int) : Nat × Nat :=
  let whole : Int := (chipRate b * 2 ^ 32 : Nat)
  let n := code + (periods * codeLen sat b * 2 ^ 32 : Nat) + whole * Config.cardDelay b / 1000000000000
  ((((second : Int) + n / whole) % 604800).toNat, (n % whole).toNat)

/-- The measurement record of R762, of a band whose phases stand at the epoch. -/
def trkRecord (k : Tracker) (b : Band) (sat : Nat) (z : TrkBand) (o : Option TrkObs) (unset : Bool) (now : Instant) : Bytes :=
  let known := (o.bind (·.second)).isSome
  let tx := transmitted sat b ((o.bind (·.second)).getD 0) ((o.map (·.periods)).getD 0) z.code
  let flags := b2n (z.lock && known) ||| (b2n z.lock <<< 1) ||| (b2n (z.lock && !z.pullIn now) <<< 2) ||| (b2n (o.any (·.half)) <<< 3) |||
    (b2n z.slip <<< 4) ||| (b2n (o.any (·.decoded)) <<< 5) ||| (b2n unset <<< 6)
  be 1 k.val ++ be 1 (sat % 128) ++ be 1 flags ++ be 1 (signalOf sat b) ++ be 4 tx.1 ++ be 8 tx.2 ++ beInt 8 z.phase ++
  beInt 4 (z.freq / 1000) ++ be 2 ((o.map (·.cn0)).getD z.cn0) ++ be 2 (if z.lock then satU 16 ((now - z.lockAt) / (100 * msec)) else 0)

/-! Pseudoranges. -/

/-- The speed of light, mm/s. -/
def lightMm : Nat := 299792458000

/-- Source time of week of an instant of unit time, ns (R714): 2000-01-01 was the seventh day of its week. -/
def weekNs (u : UnitTime) : Int := (u - 19000000000 + 518400000000000) % 604800000000000

/-- The pseudorange of a signal received at an epoch, mm: the time since its transmission, by unit time, at the speed of light. -/
def pseudorange (b : Band) (epoch : UnitTime) (tx : Nat × Nat) : Int :=
  let q : Int := (chipRate b * 2 ^ 32 : Nat)
  let week : Int := 604800 * q * 1000000000
  let d := (weekNs epoch * q - ((tx.1 : Int) * q + tx.2) * 1000000000) % week
  let d := if week < 2 * d then d - week else d
  d * lightMm / (q * 1000000000)

/-- A carrier phase as a length, mm. -/
def phaseMm (b : Band) (p : Int) : Int := p * lightMm / (carrierHz b * 2 ^ 32 : Nat)

/-- The pseudorange of a band smoothed by its carrier over at most `n` epochs, which is 100 s (R769). -/
def TrkBand.smoothed (z : TrkBand) (b : Band) (range : Int) (n : Nat) : TrkBand :=
  let m := min (max 1 n) (z.smoothN + 1)
  let carried := z.smooth + phaseMm b (z.phase - z.epPhase)
  { z with smoothN := m, smooth := (range + (m - 1 : Nat) * carried) / (m : Int), range := range, epPhase := z.phase }

/-- Ionospheric delay on L1/E1, mm, from lengths measured on the two bands (R769, R778). -/
def ionoOf (l1 l5 : Int) : Int := 12606 * (l5 - l1) / 10000

/-- One band of a tracker at an epoch (R761, R764): its phases moved to the epoch instant, its record, and its pseudorange where the transmit second is known. -/
def TrkBand.epoch (z : TrkBand) (k : Tracker) (b : Band) (sat : Nat) (o : Option TrkObs) (epoch : UnitTime) (late : Int) (rate : Nat) (unset : Bool)
    (now : Instant) : TrkBand :=
  if z.begun then
    let at_ := z.move b (-late)
    let y := { z with record := some (trkRecord k b sat at_ o unset now), slip := false, cn0 := (o.map (·.cn0)).getD z.cn0
                      shapeSince := if o.any (fun x => 200 < x.shape) then some (z.shapeSince.getD now) else none }
    match o.bind fun x => x.second.map fun n => transmitted sat b n x.periods at_.code with
    | some tx => if z.lock then { (({ y with phase := at_.phase }).smoothed b (pseudorange b epoch tx) (100 * rate)) with phase := y.phase } else y
    | none => { y with smoothN := 0 }
  else { z with record := none }

/-- The ionosphere as both bands of a tracker show it, kept for 60 s (R778). -/
def Trk.ionoStep (x : Trk) (now : Instant) : Trk :=
  if x.l1.lock ∧ x.l5.lock ∧ x.l1.smoothN ≠ 0 ∧ x.l5.smoothN ≠ 0 then
    { x with ionoHist := (now, ionoOf x.l1.range x.l5.range, ionoOf (phaseMm .l5 x.l5.epPhase) (phaseMm .l1 x.l1.epPhase)) ::
        x.ionoHist.filter fun e => decide (now ≤ e.1 + 60 * sec) }
  else x

/-- All trackers latched together at an epoch (R761, R764, R765). -/
def State.latchTrk (s : State) (c : Ctl) (obs : List TrkObs) (epoch : UnitTime) (unset : Bool) : State :=
  let late := s.utime c - epoch
  s.modGnss c fun g => { g with trk := Vector.ofFn fun k =>
    let x := g.trk[k]
    match x.sat with
    | none => x
    | some sat =>
      let one := fun (x : Trk) (b : Band) => x.modBand b fun z =>
        (z.carry sat b s.now).epoch k b sat (obs.find? fun o => o.trk = k ∧ o.band = b) epoch late g.rate unset s.now
      (one (one x .l1) .l5).ionoStep s.now }

/-! Satellites of a solution. -/

/-- The observation of a tracker on a band, where the satellite can be used on it (R768). -/
def State.usable (s : State) (c : Ctl) (obs : List TrkObs) (k : Tracker) (b : Band) : Option TrkObs :=
  let g := (s.ctl c).gnss
  let now := s.utime c
  match (g.trk[k]).sat with
  | none => none
  | some sat => (obs.find? fun o => o.trk = k ∧ o.band = b).filter fun o =>
      ((g.trk[k]).band b).lock && ((g.trk[k]).band b).smoothN ≠ 0 && decide (100 ≤ o.elev) && g.eph.any fun e => e.sat = sat && e.good now

/-- A tracker's satellite as the solution takes it: the ionosphere-free combination of both bands, or L1/E1 (R769). -/
def State.satObs (s : State) (c : Ctl) (obs : List TrkObs) (iono : Bool) (k : Tracker) : Option SatObs :=
  let x := (s.ctl c).gnss.trk[k]
  match x.sat, s.usable c obs k .l1 with
  | some sat, some o => some
    { sat := sat, rate := x.l1.freq, elev := o.elev, cn0 := o.cn0
      range := if iono then (22606 * x.l1.smooth - 12606 * x.l5.smooth) / 10000 else x.l1.smooth }
  | _, _ => none

/-- The dual-band test of R778: the delay outside −5 m to +80 m, or a change within 60 s that differs by more than 2 m from that of the carriers. -/
def Trk.ionoFails (x : Trk) : Bool :=
  match x.ionoHist with
  | [] => false
  | (_, i, p) :: l => decide (i < -5000) || decide (80000 < i) || l.any fun e => decide (2000 < ((i - e.2.1) - (p - e.2.2)).natAbs)

/-- The correlation-shape test of R778, for 10 s on a band. -/
def State.shapeFails (s : State) (x : Trk) (dual : Bool) : Bool := s.held x.l1.shapeSince (10 * sec) || (dual && s.held x.l5.shapeSince (10 * sec))

/-- The chi-square bound for a false-alarm rate of 10^−5 at n degrees of freedom, thousandths (R778). -/
def chiBound (n : Nat) : Nat :=
  [19511, 23026, 25902, 28473, 30856, 33107, 35259, 37332, 39341, 41296, 43206, 45076, 46912, 48716, 50493, 52245, 53974, 55683, 57373, 59045, 60700,
   62341, 63968, 65581, 67182, 68771, 70349, 71917].getD (n - 1) 71917

/-- Both systems are among the satellites. -/
def bothSystems (l : List SatObs) : Bool := (l.any fun o => isGal o.sat) && l.any fun o => !isGal o.sat

/-- The time offset between the systems is solved: both are used, with at least 5 satellites (R769). -/
def solvesOffset (l : List SatObs) : Bool := bothSystems l && decide (5 ≤ l.length)

/-- Degrees of freedom of a solution. -/
def freedom (l : List SatObs) : Nat := l.length - (if solvesOffset l then 5 else 4)

/-- The solution of a set of satellites: its source time is GPS time where a GPS satellite is used (R769, R771). -/
def solveOf (l : List SatObs) (iono : Bool) (epoch : UnitTime) : Solution :=
  Config.solver l iono (solvesOffset l) (l.all fun o => isGal o.sat) epoch

/-- The normalised sum of squared residuals, thousandths. -/
def residSum (x : Solution) : Nat := (x.resid.map (·.2)).sum

/-- The satellite that the residual test of R778 names. It does not run with 4 satellites. -/
def worstSat (x : Solution) (l : List SatObs) : Option Nat :=
  if 5 ≤ l.length ∧ freedom l ≠ 0 ∧ chiBound (freedom l) < residSum x then
    (x.resid.foldl (fun best e => match best with
      | some b => if b.2 < e.2 then some e else best
      | none => some e) none).map (·.1)
  else none

/-- Exclusions one after another, solving again after each (R778): one that would leave fewer than 4 is not made and fails the check, and so do 3. The
result is the trackers left, those excluded, and whether the check fails. -/
def State.excludeSats (s : State) (c : Ctl) (obs : List TrkObs) (iono : Bool) (epoch : UnitTime) :
    Nat → List Tracker → List Tracker → List Tracker × List Tracker × Bool
  | 0, ks, out => (ks, out, true)
  | n + 1, ks, out =>
    let trk := fun (k : Tracker) => (s.ctl c).gnss.trk[k]
    let l := ks.filterMap (s.satObs c obs iono)
    let named := (ks.find? fun k => (iono && (trk k).ionoFails) || s.shapeFails (trk k) iono).orElse fun _ =>
      (worstSat (solveOf l iono epoch) l).bind fun sat => ks.find? fun k => (trk k).sat = some sat
    match named with
    | none => (ks, out, false)
    | some k => if ks.length < 5 then (ks, out, true) else s.excludeSats c obs iono epoch n (ks.filter (· ≠ k)) (k :: out)

/-- The power test of R778. -/
def powerFails (l : List Nat) : Bool :=
  let n := l.length
  decide (4 < (l.filter fun x => decide (5500 < x)).length) ||
  (decide (6 ≤ n) && decide (n * (l.map fun x => x * x).sum - l.sum * l.sum < n * n * 10000))

/-! The 95 % radius. -/

/-- Square root, rounded down: each round settles one bit from the top. -/
def rootStep (x : Nat) : Nat → Nat → Nat
  | 0, r => r
  | n + 1, r => let y := r + 2 ^ n; rootStep x n (if y * y ≤ x then y else r)

def root (x : Nat) : Nat := rootStep x 40 0

/-- The 95 % radius of a horizontal error, 0.1 m (R773), from the variances and the covariance in mm²: the larger axis of the ellipse times a factor from
1.96 to 2.45 by the ratio of the axes. The factor's polynomial is PRESUMED, log entry 73. -/
def radius95 (varN varE : Nat) (cov : Int) : Nat :=
  let half := (varN + varE) / 2
  let d : Int := ((varN : Int) - varE) / 2
  let r := root (d * d + cov * cov).toNat
  let a := root (half + r)
  let c := if a = 0 then 0 else min 1000 (root (half - r) * 1000 / a)
  let k := 1960790 + 4071 * c / 1000 + 114276 * c * c / 1000000 + 371625 * c * c * c / 1000000000
  (a * k / 1000000 + 50) / 100

/-- The uncertainty of a solution (R773): its covariance scaled by the larger of 1 and the sum of squared residuals over the degrees of freedom. -/
def uncertaintyOf (x : Solution) (l : List SatObs) : Nat :=
  let scale := max 1000 (residSum x / max 1 (freedom l))
  radius95 (x.varN * scale / 1000) (x.varE * scale / 1000) (x.cov * scale / 1000)

/-! The fix. -/

/-- The epoch instant at or before an instant (R760). -/
def epochOf (u : UnitTime) (rate : Nat) : UnitTime :=
  let step : Int := ((1000000000 / max 1 rate : Nat) : Int)
  u / step * step

/-- GNSS_INCONSISTENT after an epoch (R779). -/
def State.consistency (s : State) (c : Ctl) (ran failed : Bool) : State :=
  let g := (s.ctl c).gnss
  let since := if failed then none else if ran then some (g.passSince.getD s.now) else g.passSince
  let is : Bool := failed || (g.incons && !s.held since (60 * sec))
  let s := s.modGnss c fun y => { y with checkBad := if ran then failed else y.checkBad, passSince := since, incons := is }
  if is = g.incons then s else s.alarm c 0x0C05 c.code is c.code (b2n g.incons) (b2n is)

/-- A vector's length squared. -/
def norm2 (v : Vector Int 3) : Int := v[0] * v[0] + v[1] * v[1] + v[2] * v[2]

/-- A fix's position carried forward by its velocity (R770, R778). -/
def Fix.ahead (f : Fix) (epoch : UnitTime) : Fix :=
  let d := epoch - f.time
  { f with lat := f.lat + f.dLat * d / 1000000000000, lon := f.lon + f.dLon * d / 1000000000000, height := f.height + f.up * d / 1000000000
           pos := Vector.ofFn fun i => f.pos[i] + f.vel[i] * d / 1000000000 }

/-- The motion test of R778: above 25 m/s, vertically above 5 m/s, or more than 50 m from the last good fix carried forward. -/
def motionFails (x : Solution) (good : Option Fix) (epoch : UnitTime) : Bool :=
  decide (25000 * 25000 < norm2 x.vel) || decide (5000 < x.up.natAbs) ||
  good.any fun f => decide (50000 * 50000 < norm2 (Vector.ofFn fun i => x.pos[i] - (f.ahead epoch).pos[i]))

/-- The fix of a solution (R770, R773). -/
def fixOf (x : Solution) (l : List SatObs) (iono : Bool) (epoch : UnitTime) : Fix :=
  { code := 2, lat := x.lat, lon := x.lon, height := x.height, time := epoch, unc := uncertaintyOf x l, sats := l.length, iono := iono
    dLat := x.dLat, dLon := x.dLon, up := x.up, pos := x.pos, vel := x.vel }

/-- The solution of an epoch (R769 to R773, R778). -/
def State.solve (s : State) (c : Ctl) (obs : List TrkObs) (epoch : UnitTime) : State :=
  let on := fun (b : Band) (k : Tracker) => (s.usable c obs k b).isSome
  let cand := (List.finRange 32).filter (on .l1)
  let duals := cand.filter (on .l5)
  let run := fun (iono : Bool) (ks : List Tracker) =>
    if 4 ≤ ks.length then s.excludeSats c obs iono epoch 3 ks [] else (ks, [], false)
  let first := run true duals
  let iono : Bool := decide (4 ≤ first.1.length)
  let (used, _, short) := if iono then first else run false (cand.filter fun k => !first.2.1.contains k)
  let l := used.filterMap (s.satObs c obs iono)
  let n := l.length
  let g := (s.ctl c).gnss
  let x := (s.ctl c).time
  let recent := g.good.filter fun f => decide (epoch ≤ f.time + 10000000000)
  let ran : Bool := decide (4 ≤ n)
  let r := solveOf l iono epoch
  let coasts : Bool := x.st = .holdover || (x.st = .locked && x.src ≠ 1)
  let clock : Bool := coasts && g.clock.any fun a => decide (1000 < (r.clock - a).natAbs)
  let failed : Bool := ran && (short || powerFails (l.map (·.cn0)) || motionFails r g.good epoch || clock)
  let pass : Bool := ran && !failed
  let fix : Fix := if ran then fixOf r l iono epoch else match recent with
    | some f => if n = 0 then { time := epoch } else { f.ahead epoch with code := 1, time := epoch, sats := n, iono := iono }
    | none => { time := epoch }
  let s := s.modGnss c fun y => { y with
    fix := fix, clock := if ran then some r.clock else none
    good := if pass then some fix else y.good, goodOld := y.goodOld && !pass }
  let s := s.consistency c ran failed
  if pass then s.modTime c fun y => { y with gnss := { y.gnss with offset := r.clock } } else s

/-- MEASUREMENT_EPOCH (R760 to R773, R778, R779, R787, R792): an epoch not later than the last one latched is skipped. -/
def execMeasurementEpoch (t : Instant) (c : Ctl) (obs : List TrkObs) (s : State) : Result :=
  run t (fun s =>
    let g := (s.ctl c).gnss
    let epoch := epochOf (s.utime c) g.rate
    when ((s.ctl c).running && g.run && s.ant.card && !g.cardBad && (g.epochAt.all fun a => decide (a < epoch))) (fun s =>
      let unset : Bool := (s.ctl c).time.st = .unset
      let rate := if epoch % 1000000000 = 0 then s.itemAt c 0x0811 0 else g.rate
      let drop := fun (x : Trk) => if x.sat.any fun n => !s.sysOn c n then ({} : Trk) else x
      let s := s.modGnss c fun y => { y with epochAt := some epoch, rate := rate, trk := y.trk.map drop }
      ((s.latchTrk c obs epoch unset).solve c obs epoch).judge c) s) s

end Sys2Proof.Machine
end

