-- ==== Sys2Proof/Machine/Gnss.lean ====
section
/-!
DEFINITION. Machine/Gnss.lean: the GNSS baseband (chapter 18) and the antenna (R100, R101). Ratios come in 0.1 dB, C/N0 in 0.01 dB-Hz, the
phase-lock indicator in thousandths, the card clock in 0.001 ppm.
-/
namespace Sys2Proof.Machine

/-! Start. -/

/-- The baseband starts, at firmware running or with a card that is inserted (R776, R794, R795). -/
def State.gnssStart (s : State) (c : Ctl) : State :=
  let x := s.ctl c
  let now := s.utime c
  let warm : Bool := x.sup.clockOk && decide (4 ≤ (x.gnss.eph.filter (·.good now)).length) && x.gnss.good.isSome
  let floor := fun (b : Band) => match x.gnss.floors with
    | some f => match b with
      | .l1 => f.1
      | .l5 => f.2
    | none => Config.cardFloor b
  let band := fun (b : Band) (en : Bool) => ({ en := en, floor := floor b, dayFloor := floor b, dayAt := s.now } : BandSt)
  s.modGnss c fun g => { g with
    run := s.ant.card && !g.fault, warm := warm, trk := Vector.replicate 32 {}, failed := [], fix := {}, clock := none, frameAt := some s.now
    l1 := band .l1 g.l1.en, l5 := band .l5 g.l5.en, secAt := s.now, secFrames := 0, secErased := 0 }

/-- The alarms of what the baseband finds at a start (R793): the almanac store, the ephemeris in the retention SRAM, and the FFT engine's test (R938). -/
def State.gnssStores (s : State) (c : Ctl) : State :=
  let lost := !(s.ctl c).gnss.alm
  let eph := !(s.ctl c).sup.clockOk
  let s := s.modGnss c fun g => { g with almLost := lost, ephLost := eph }
  let bad := (s.ctl c).gnss.fault
  ((s.alarm c 0x0C0A c.code lost c.code 0 1).alarm c 0x0C0B c.code eph c.code 0 1).alarm c 0x0C09 c.code bad c.code (b2n (!bad)) (b2n bad)

/-! Samples. -/

/-- GNSS_LINK_DEGRADED at the end of a second of frames (R793). -/
def State.linkSecond (s : State) (c : Ctl) : State :=
  let g := (s.ctl c).gnss
  if s.now < g.secAt + sec then s
  else
    let n := g.secFrames
    let e := g.secErased
    let clean : Bool := decide (e * 10000 < n)
    let since := s.track clean g.linkSince
    let is : Bool := if g.linkBad then !s.held since (60 * sec) else decide (n < e * 100)
    let s := s.modGnss c fun y => { y with secAt := s.now, secFrames := 0, secErased := 0, linkSince := since, linkBad := is }
    if is = g.linkBad then s else s.alarm c 0x0C07 c.code is c.code (b2n g.linkBad) (b2n is) e n

/-- Bytes 28 to 39 of a capture's header as they stand now: card clock, estimated error, gains and indicators (R782). -/
def State.snapHead (s : State) (c : Ctl) : Bytes :=
  let g := (s.ctl c).gnss
  beInt 4 (satS 32 g.ppm) ++ be 4 (satU 32 (s.estError c)) ++ be 1 g.l1.agc ++ be 1 g.l5.agc ++ be 1 g.l1.jam ++ be 1 g.l5.jam

/-- The running capture takes its header at its first frame (R782). -/
def State.snapBegin (s : State) (c : Ctl) : State :=
  match (s.ctl c).gnss.snapRun with
  | some r => if r.at_ = [] ∧ r.start ≤ s.utime c then s.modGnss c fun g => { g with snapRun := some { r with at_ := s.snapHead c } } else s
  | none => s

/-- SAMPLE_FRAME (R749, R757, R793, R795): a frame that fails its check is erased; `dumps` are the correlators whose integration ends with the frame. The
faults of the card and of the link are found from the frames. -/
def execSampleFrame (t : Instant) (c : Ctl) (ok agcLimit : Bool) (magPct : Nat) (ppm : Int) (agc1 agc5 : Nat) (dumps : List Dump) (s : State) : Result :=
  run t (fun s =>
    when ((s.ctl c).running && (s.ctl c).gnss.run && s.ant.card) (fun s =>
      let g := (s.ctl c).gnss
      let gap : Bool := g.frameAt.any fun a => decide (a + 100 * msec ≤ s.now)
      let s := s.modGnss c fun y => { y with secFrames := y.secFrames + 1 }
      let s :=
        if ok then s.modGnss c fun y => { y with
          frameAt := some s.now, l1 := { y.l1 with agc := agc1 }, l5 := { y.l5 with agc := agc5 }, ppm := ppm
          agcSince := s.track agcLimit y.agcSince, magSince := s.track (decide (magPct < 15) || decide (50 < magPct)) y.magSince
          ppmSince := s.track (decide (50000 < ppm.natAbs)) y.ppmSince }
        else
          let now := s.utime c
          let mark := fun (r : Snap) => if r.start ≤ now ∧ now < r.start + (r.len * msec : Nat) then { r with erased := true } else r
          s.modGnss c fun y => { y with sampleErr := satBump 32 y.sampleErr, secErased := y.secErased + 1, snapRun := y.snapRun.map mark }
      let s := ((s.correlate c dumps).snapBegin c).linkSecond c
      let g := (s.ctl c).gnss
      let bad := gap || s.held g.agcSince sec || s.held g.magSince sec || s.held g.ppmSince sec
      let clear := ok && !gap && g.agcSince.isNone && g.magSince.isNone && g.ppmSince.isNone
      let since := s.track clear g.cardSince
      let s := s.modGnss c fun y => { y with cardSince := since }
      if bad then s.cardFault c true (if gap then 1 else if s.held g.agcSince sec then 2 else if s.held g.magSince sec then 3 else 4)
      else if g.cardBad ∧ s.held since (10 * sec) then s.cardFault c false 0 else s) s) s

/-! Notches and jamming. -/

def Gnss.band (g : Gnss) : Band → BandSt
  | .l1 => g.l1
  | .l5 => g.l5

def State.modBand (s : State) (c : Ctl) (b : Band) (f : BandSt → BandSt) : State :=
  s.modGnss c fun g => match b with
    | .l1 => { g with l1 := f g.l1 }
    | .l5 => { g with l5 := f g.l5 }

/-- An engaged notch after a spectrum (R774): released when its line has stayed below 6 dB for 10 s; a strongest line within a cell of it is its
own, and it follows. -/
def Notch.step (n : Notch) (now : Instant) (track : Nat) (khz : Int) : Notch :=
  if ¬n.on then n
  else
    let since := if track < 60 then some (n.lowSince.getD now) else none
    let n := { n with lowSince := since, khz := if (khz - n.khz).natAbs ≤ 10 then khz else n.khz }
    if since.any fun a => decide (a + 10 * sec ≤ now) then {} else n

/-- A free notch engaged on the strongest line that stood out in three spectra (R774). Its depth is at least 35 dB; the spec gives no more. -/
def BandSt.notch (x : BandSt) (now : Instant) (khz : Int) (above track0 track1 depth : Nat) : BandSt :=
  if ¬x.en then { x with n0 := {}, n1 := {}, count := 0 }
  else
    let x := { x with n0 := x.n0.step now track0 khz, n1 := x.n1.step now track1 khz }
    let mine : Bool := (x.n0.on && x.n0.khz = khz) || (x.n1.on && x.n1.khz = khz)
    let n := if 120 ≤ above ∧ ¬mine then x.count + 1 else 0
    let new : Notch := { on := true, khz := khz, depth := depth }
    if 3 ≤ n ∧ ¬x.n0.on then { x with n0 := new, count := 0 }
    else if 3 ≤ n ∧ ¬x.n1.on then { x with n1 := new, count := 0 }
    else { x with count := min 3 n }

/-- The lowest of some values. -/
def lowest (l : List Int) : Option Int :=
  match l with
  | [] => none
  | a :: t => some (t.foldl min a)

/-- The noise floor (R776): the lowest 10 s mean of seven days, which rises by at most 0.5 dB in a day. -/
def BandSt.noise (x : BandSt) (now : Instant) (power : Int) : BandSt :=
  let x := if x.dayAt + 86400 * sec ≤ now then
      { x with dayAt := now, dayFloor := x.floor, dayMin := none, days := (x.dayMin.toList ++ x.days).take 6 }
    else x
  if x.cnt + 1 < 100 then { x with sum := x.sum + power, cnt := x.cnt + 1 }
  else
    let mean := (x.sum + power) / 100
    let day := some (match x.dayMin with
      | some a => min a mean
      | none => mean)
    let goal := (lowest (day.toList ++ x.days)).getD x.floor
    { x with sum := 0, cnt := 0, dayMin := day, floor := min goal (x.dayFloor + 5) }

/-- The class of R777 after an indicator. -/
def Jam.next (cls : Jam) (jam : Nat) (low10 : Bool) : Jam :=
  let plain : Jam := if 160 ≤ jam then .jamming else if 80 ≤ jam then .interference else .clear
  match cls with
  | .clear => plain
  | .interference => if 160 ≤ jam then .jamming else if low10 then .clear else .interference
  | .jamming => if low10 then plain else .jamming

/-- The jamming indicator and its class (R776, R777). -/
def BandSt.jammed (x : BandSt) (now : Instant) (power : Int) : BandSt :=
  let jam := (max 0 (min 255 (power - x.floor))).toNat
  let low : Bool := match x.cls with
    | .clear => false
    | .interference => decide (jam < 70)
    | .jamming => decide (jam < 150)
  let since := if low then some (x.lowSince.getD now) else none
  let cls := x.cls.next jam (since.any fun a => decide (a + 10 * sec ≤ now))
  { x with jam := jam, cls := cls, lowSince := if cls = x.cls then since else none }

/-- GNSS_INTERFERENCE and GNSS_JAMMING, which stand while either band is in the class (R777, R793). -/
def State.jamAlarms (s : State) (c : Ctl) : State :=
  let g := (s.ctl c).gnss
  let any := fun (j : Jam) => g.l1.cls = j || g.l5.cls = j
  (s.alarm c 0x0C03 c.code (any .interference) c.code 0 0 g.l1.jam g.l5.jam).alarm c 0x0C04 c.code (any .jamming) c.code 0 0 g.l1.jam g.l5.jam

/-- SPECTRAL_MONITOR (R774 to R777): every 100 ms. `power` is the in-band power after the notches. -/
def execSpectralMonitor (t : Instant) (c : Ctl) (b : Band) (khz : Int) (above : Nat) (track0 track1 : Nat) (power : Int) (s : State) : Result :=
  run t (fun s =>
    when ((s.ctl c).running && (s.ctl c).gnss.run) (fun s =>
      let (v, s) := s.draw
      let s := s.modBand c b fun x => ((x.notch s.now khz above track0 track1 (35 + v % 221)).noise s.now power).jammed s.now power
      (s.jamAlarms c).judge c) s) s

/-- DIRECT_WRITE of a controller (R682): SCRUB_CTRL or GNSS_CTRL differs from its reset value. -/
def Ctlr.directWrite (x : Ctlr) : Bool := !x.scrubEn || !x.gnss.l1.en || !x.gnss.l5.en

/-- SCRUB_CTRL of a controller (R653, R672, R678, R930): a pass stands still while SCRUB_EN is 0, and SCRUB_NOW starts one from the first address. -/
def Ctlr.setScrub (x : Ctlr) (now : Instant) (en start : Bool) : Ctlr :=
  let run := if start then 0 else if x.scrubEn then now - x.scrubIn else x.scrubRun
  { x with scrubEn := en, scrubRun := run, scrubIn := now - run }

/-- The alarm DIRECT_WRITE, which the ACTIVE controller raises for itself (R682). -/
def State.directAlarm (s : State) (c : Ctl) : State :=
  let is := (s.ctl c).directWrite && (s.ctl c).role = .active
  let was := (s.ctl c).directAl
  if is = was then s
  else (s.modCtl c fun x => { x with directAl := is }).alarm c 0x000C c.code is c.code (b2n was) (b2n is)

/-- A band's notch enable written (R673, R775). -/
def State.setNotch (s : State) (c : Ctl) (b : Band) (on : Bool) : State :=
  (s.modBand c b fun x => if on then { x with en := true } else { x with en := false, n0 := {}, n1 := {}, count := 0 }).directAlarm c

/-- NOTCH_ENABLE (R667, R673, R775): GNSS_CTRL of the ACTIVE controller. -/
def execNotchEnable (t : Instant) (c : Ctl) (b : Band) (on : Bool) (s : State) : Result :=
  run t (fun s => when ((s.ctl c).running && (s.ctl c).role = .active) (fun s => s.setNotch c b on) s) s

/-! Navigation data. -/

/-- EPHEMERIS_DECODED (R766): a set that fails its check is not used. -/
def execEphemerisDecoded (t : Instant) (c : Ctl) (sat : Nat) (ref : UnitTime) (healthy ok : Bool) (s : State) : Result :=
  run t (fun s =>
    when ((s.ctl c).running && (s.ctl c).gnss.run && ok) (fun s =>
      let was := (s.ctl c).gnss.ephLost
      let e : Eph := { sat := sat, at_ := s.utime c, ref := ref, healthy := healthy }
      let s := s.modGnss c fun g => { g with eph := (g.eph.filter fun y => y.sat ≠ sat) ++ [e], ephLost := false }
      if was then s.alarm c 0x0C0B c.code false c.code 1 0 else s) s) s

/-- ALMANAC_WRITE (R715, R767): at most once per 10 min; `tai` is TAI−UTC of the UTC parameters, with an announced change. -/
def execAlmanacWrite (t : Instant) (c : Ctl) (tai : Option (Int × Option (Int × UnitTime))) (s : State) : Result :=
  run t (fun s =>
    let g := (s.ctl c).gnss
    let soon : Bool := g.almAt.any fun a => decide (s.now < a + 600 * sec)
    when ((s.ctl c).running && g.run && !soon) (fun s =>
      let s := s.modGnss c fun y => { y with alm := true, almAt := some s.now, almLost := false, floors := some (y.l1.floor, y.l5.floor) }
      let s := match tai with
        | some v => s.modTime c fun x => { x with gnss := { x.gnss with tai := some v.1, next := v.2 } }
        | none => s
      if g.almLost then s.alarm c 0x0C0A c.code false c.code 1 0 else s) s) s

/-! Snapshots. -/

/-- Samples of a capture, bytes (R783). -/
def Snap.bytes (r : Snap) : Nat := 10230 * r.len * (b2n r.b1 + b2n r.b5)

/-- Size of the file that will be held (R786). -/
def Snap.size (r : Snap) : Nat := if r.proc = 1 then 64 + r.bytes else 624

/-- The file of a capture with its content (R782). -/
def Snap.build (r : Snap) (content : Bytes) : Bytes :=
  let results : Bool := r.proc ≠ 1
  let head := be 4 0x4356534E ++ be 2 1 ++ be 2 r.id ++ beInt 8 r.start ++ be 4 20460000 ++ be 1 r.len ++
    be 1 (b2n r.b1 ||| (b2n r.b5 <<< 1)) ++ be 1 (b2n results) ++
    be 1 (b2n r.erased ||| (b2n r.unset <<< 1) ||| (b2n r.sched <<< 2) ||| (b2n results <<< 3)) ++
    be 4 (20460 * r.len) ++ padTo 12 r.at_ ++ zeros 16 ++ be 4 (crc32 content)
  head ++ be 4 (crc32 head) ++ content

/-- A capture accepted (R780, R786). -/
def State.capture (s : State) (c : Ctl) (len proc : Nat) (b1 b5 : Bool) (start : UnitTime) (sched : Bool) (req : Option Request) : State :=
  s.modGnss c fun g => { g with
    snapRun := some { id := g.snapId, len := len, b1 := b1, b5 := b5, proc := proc, start := start, sched := sched, req := req
                      unset := (s.ctl c).time.st = .unset }
    snapId := if g.snapId ≥ 65535 then 1 else g.snapId + 1 }

/-- A capture whose file is complete is held in place of the one before (R636, R780); a scheduled one is logged (R781). -/
def State.hold (s : State) (c : Ctl) (r : Snap) (file : Bytes) : State :=
  let s := s.modGnss c fun g => { g with snapRun := none, snapHeld := some { r with file := file, stored := true, req := none } }
  if r.sched then s.logEv c 0x0C0C 0 c.code 0 (stdBody 0 r.id) else s

/-- SNAP_STORED (R620, R780, R782): the samples are stored, and the request is answered. A capture that saw no frame has the header of this instant. -/
def execSnapStored (t : Instant) (c : Ctl) (data : Bytes) (s : State) : Result :=
  run t (fun s =>
    let g := (s.ctl c).gnss
    match g.snapRun with
    | none => s
    | some r => when ((s.ctl c).running && !r.stored && decide (r.start + (r.len * msec : Nat) ≤ s.utime c)) (fun s =>
        let r := { r with at_ := if r.at_ = [] then s.snapHead c else r.at_, erased := r.erased || !s.ant.card }
        let s := match r.req with
          | some q => s.answerLater c q 0x0404 0 (s.utime c) (be 2 r.id ++ zeros 2 ++ be 4 r.size ++ beInt 8 r.start)
          | none => s
        if r.proc = 1 then s.hold c r (r.build (padTo r.bytes data))
        else s.modGnss c fun y => { y with snapRun := some { r with stored := true, req := none } }) s) s

/-- The coarse-time position that a capture's satellites allow (R784): at least 5 with valid ephemeris, and unit time known to 2 s. -/
def State.coarseFix (s : State) (c : Ctl) (l : List SnapSat) (start : UnitTime) : Option Solution :=
  let good := l.filter fun x => (s.ctl c).gnss.eph.any fun e => e.sat = x.sat && e.good start
  if 5 ≤ good.length ∧ s.estError c ≤ 2000000000 ∧ (s.ctl c).time.st ≠ .unset then some (Config.coarse good start) else none

/-- The result section of R785, 560 bytes: of a capture without L5/E5a, GPS alone (R784). -/
def State.snapResult (s : State) (c : Ctl) (r : Snap) (found : List SnapSat) : Bytes :=
  let l := (found.filter fun x => if isGal x.sat then r.b5 else r.b1).take 32
  let entry := fun (x : SnapSat) => be 1 (x.sat % 128) ++ be 1 (if isGal x.sat then 3 else 0) ++ be 2 x.peak ++ be 4 x.code ++ beInt 4 x.doppler ++ zeros 4
  let head := fun (fix : Nat) => be 1 l.length ++ be 1 fix ++ zeros 14 ++ padTo 512 (l.flatMap entry)
  match s.coarseFix c l r.start with
  | some x => head 1 ++ beInt 4 x.lat ++ beInt 4 x.lon ++ beInt 4 x.height ++ be 2 (satU 16 (radius95 x.varN x.varE x.cov)) ++ be 1 l.length ++ zeros 1 ++
      beInt 8 r.start ++ zeros 8
  | none => head 0 ++ zeros 32

/-- SNAP_PROCESSED (R784, R785): the search of the capture has found these satellites, and the results file is held. -/
def execSnapProcessed (t : Instant) (c : Ctl) (found : List SnapSat) (s : State) : Result :=
  run t (fun s =>
    match (s.ctl c).gnss.snapRun with
    | none => s
    | some r => when ((s.ctl c).running && r.stored) (fun s => s.hold c r (r.build (s.snapResult c r found))) s) s

/-- Satellites that on-chip processing of a capture searches: those predicted above 5°, and all of the enabled systems where none is predicted (R784). -/
def State.snapSats (s : State) (c : Ctl) (b5 : Bool) : Nat :=
  let g := (s.ctl c).gnss
  let on := allSats.filter fun n => s.sysOn c n && (b5 || !isGal n)
  (on.filter fun n => match g.elev (s.utime c) n with
    | some e => decide (50 < e)
    | none => true).length

/-- The forecast end of a running capture (R789): its length, 1 ms for each 10 kB stored, and with processing on-chip 8.5 ms times its length for each
satellite to be searched. -/
def State.snapEnd (s : State) (c : Ctl) (r : Snap) : UnitTime :=
  r.start + (r.len * msec + (r.bytes + 9999) / 10000 * msec + if r.proc = 1 then 0 else 8500 * usec * r.len * s.snapSats c r.b5 : Nat)

/-- SCHEDULED_CAPTURE (R781, R797): of both bands, at a whole multiple of SNAP_INTERVAL; skipped while one runs or unit time is UNSET. -/
def execScheduledCapture (t : Instant) (c : Ctl) (s : State) : Result :=
  run t (fun s =>
    let n := s.itemAt c 0x0814 0
    let x := s.ctl c
    when (x.running && x.role = .active && x.gnss.run && n ≠ 0) (fun s =>
      let step : Int := ((n * sec : Nat) : Int)
      let start := s.utime c / step * step
      if x.gnss.schedAt = some start then s
      else
        let s := s.modGnss c fun g => { g with schedAt := some start }
        if x.gnss.snapRun.isSome ∨ x.time.st = .unset then s.logEv c 0x0C0D 0 c.code 0 (stdBody 0 0)
        else s.capture c (s.itemAt c 0x0813 0) (s.itemAt c 0x0815 0) true true start true none) s) s

/-! Faults. -/

/-- FFT_SELF_TEST (R793, R938): at each start, before firmware running, and every 24 h; a failure stops this controller's baseband until its reset. -/
def execFftSelfTest (t : Instant) (c : Ctl) (pass : Bool) (s : State) : Result :=
  run t (fun s =>
    let g := (s.ctl c).gnss
    when ((s.ctl c).fitted && (s.ctl c).powered && !g.fault && dayDue g.fftAt s.now) (fun s =>
      let s := s.modGnss c fun y => { y with fftAt := some s.now, fault := !pass, run := y.run && pass }
      if (s.ctl c).running then
        let s := if pass then s else s.gnssOff c
        s.alarm c 0x0C09 c.code (!pass) c.code (b2n pass) (b2n (!pass))
      else s) s) s

/-- GNSS_CARD_PRESENCE (R662, R793, R795, R796, R953, R970). -/
def execGnssCardPresence (t : Instant) (present : Bool) (s : State) : Result :=
  run t (fun s =>
    if present = s.ant.card then s
    else if present then
      let s := (s.modAnt fun a => { a with card := true }).setBias
      [Ctl.a, Ctl.b].foldl (fun s c => if (s.ctl c).running then (s.gnssStart c).cardFault c false 0 else s) s
    else
      let s := s.modAnt fun _ => { card := false }
      [Ctl.a, Ctl.b].foldl (fun s c =>
        if (s.ctl c).running then
          let s := s.modGnss c fun g => { g with
            run := false, l1 := { en := g.l1.en }, l5 := { en := g.l5.en }, snapRun := g.snapRun.map fun r => { r with erased := true } }
          (s.cardFault c true 5).gnssOff c
        else s) s) s

/-! The antenna. -/

/-- An alarm of the antenna, found on the GNSS card. -/
def State.antAlarm (s : State) (code : Nat) (on : Bool) (ma : Nat) (limit : Int) : State :=
  s.alarmUnit code 0 on 0x10 (b2n (!on)) (b2n on) ma limit

/-- ANT_OPEN (R100): below 3 mA for 1 s with bias on. -/
def execAntOpen (t : Instant) (ma : Nat) (s : State) : Result :=
  run t (fun s =>
    when (s.ant.card && s.ant.bias ≠ 0 && !s.ant.open_) (fun s =>
      let since := s.track (decide (ma < 3)) s.ant.openSince
      let is := s.held since sec
      let s := s.modAnt fun a => { a with ma := ma, open_ := is, openSince := if is then none else since }
      if is then s.antAlarm 0x0C01 true ma 3 else s) s) s

/-- ANT_OPEN_CLEARED (R100): above 5 mA for 1 s. -/
def execAntOpenCleared (t : Instant) (ma : Nat) (s : State) : Result :=
  run t (fun s =>
    when (s.ant.card && s.ant.open_) (fun s =>
      let since := s.track (decide (5 < ma)) s.ant.openSince
      let clear := s.held since sec
      let s := s.modAnt fun a => { a with ma := ma, open_ := !clear, openSince := if clear then none else since }
      if clear then s.antAlarm 0x0C01 false ma 5 else s) s) s

/-- ANT_SHORT (R100): at the 60 mA limit for 100 ms; the bias is off for 10 s. Each reach of the limit ends the second that clears the alarm. -/
def execAntShort (t : Instant) (ma : Nat) (s : State) : Result :=
  run t (fun s =>
    when (s.ant.card && s.ant.bias ≠ 0) (fun s =>
      let since := s.track (decide (60 ≤ ma)) s.ant.shortSince
      let hit : Bool := s.held since (100 * msec)
      let was := s.ant.short
      let s := s.modAnt fun a =>
        if hit then { a with ma := 0, short := true, bias := 0, shortSince := none, belowSince := none, openSince := none, reapply := some (s.now + 10 * sec) }
        else { a with ma := ma, shortSince := since, belowSince := s.track (decide (ma < 60)) a.belowSince }
      if hit ∧ ¬was then s.antAlarm 0x0C02 true ma 60 else s) s) s

/-- ANT_BIAS_REAPPLY (R100). -/
def execAntBiasReapply (t : Instant) (s : State) : Result :=
  run t (fun s =>
    when (s.ant.card && s.ant.reapply.any fun a => decide (a ≤ s.now)) (fun s =>
      (s.modAnt fun a => { a with reapply := none }).setBias) s) s

/-- ANT_SHORT_CLEARED (R100): bias reapplied for 1 s without reaching the limit. -/
def execAntShortCleared (t : Instant) (ma : Nat) (s : State) : Result :=
  run t (fun s =>
    when (s.ant.card && s.ant.short && s.ant.bias ≠ 0) (fun s =>
      let below := s.track (decide (ma < 60)) s.ant.belowSince
      let clear := s.held below sec
      let s := s.modAnt fun a => { a with ma := ma, short := !clear, belowSince := if clear then none else below }
      if clear then s.antAlarm 0x0C02 false ma 60 else s) s) s

end Sys2Proof.Machine
end

