-- ==== Sys2Proof/Machine/Log.lean ====
section
/-!
DEFINITION. Machine/Log.lean: the event log as it runs (R804, R805, R813) and voyage entries (R808).
-/
namespace Sys2Proof.Machine

/-- LOG_RECORD (R804): a record formed by the unit into the write queue, or lost. -/
def execLogRecord (t : Instant) (code flags source object : Nat) (body : Bytes) (s : State) : Result :=
  run t (fun s => s.logUnit code flags source object body) s

/-- LOSS (R805): the next time that the queue holds fewer than 56 records, one record covers every loss since the previous one. -/
def execLoss (t : Instant) (s : State) : Result :=
  run t (fun s =>
    let c := s.lead
    let l := (s.ctl c).mram.log
    when ((s.ctl c).running && l.lost ≠ 0 && decide (l.queue.length < 56)) (fun s =>
      let r := s.record c 0x1201 0 c.code 0 (be 4 l.lost ++ be 4 l.losses ++ beInt 8 l.lostFrom ++ beInt 8 l.lostTo ++ be 1 0)
      (s.modMram c fun m => { m with log := { m.log with lost := 0 } }).logAt c r) s) s

/-- VOYAGE (R808): a ballast channel's conduction has changed, and its cartridge forms an entry. -/
def execVoyage (t : Instant) (ch : Ch) (s : State) : Result := run t (fun s => s.voyage ch) s

/-- Voyage records of a slot that wait in the write queue. -/
def Log.voyQueued (l : Log) (k : Slot) : Nat := (l.queue.filter fun r => r.code = 0x1101 && r.source = k.val + 1).length

/-- VOYAGE_ACK (R808): the entries whose records stand in MRAM are acknowledged in the next setpoint frame. -/
def execVoyageAck (t : Instant) (k : Slot) (s : State) : Result :=
  run t (fun s =>
    match s.active with
    | none => s
    | some c =>
      let l := (s.ctl c).mram.log
      let seen := (s.cart k).voy.filter fun e => l.voySeen.contains ((s.cart k).serial, e.seq)
      let done := (seen.take (seen.length - l.voyQueued k)).map (·.seq)
      when (s.holds c k) (fun s => s.modCtl c fun x => { x with voyAck := setV x.voyAck k done }) s) s

/-- MIRROR_GAP_TIMEOUT (R813). -/
def execMirrorGapTimeout (t : Instant) (c : Ctl) (s : State) : Result :=
  run t (fun s =>
    let x := s.ctl c
    when (x.running && x.role = .synced && s.held x.mram.log.gapAt msec) (fun s =>
      (s.modMram c fun m => { m with log := { m.log with gapAt := none, queue := [] } }).setRole c .unsynced 0 3 0x07) s) s

/-- ENERGY_COUNTER_WRITE (R383): every 60 s. -/
def execEnergyCounterWrite (t : Instant) (c : Ctl) (s : State) : Result :=
  run t (fun s => when (s.ctl c).running (fun s =>
    s.modMram c fun m => { m with energy := m.energy.map Energy.save }) s) s

/-- CARTRIDGE_LINK_LOSS (R927): the standby's link to a cartridge is silent for 100 µs; no load depends on it, and the unit stays in its mode. -/
def execCartridgeLinkLoss (t : Instant) (c : Ctl) (k : Slot) (s : State) : Result :=
  run t (fun s =>
    let y := (s.ctl c).seen[k]
    when ((s.ctl c).running && (s.ctl c).standby && s.held y.at_ (100 * usec)) (fun s =>
      let m := s.unitMode.code
      (s.alarm c 0x0107 (k.val + 1) true c.code m m 0 0 y.serial).modSeen c k fun y => { y with at_ := none }) s) s

end Sys2Proof.Machine
end

