-- ==== Sys2Proof/Machine/Supply.lean ====
section
/-!
DEFINITION. Machine/Supply.lean: the controllers' supplies (R121 to R136, R147 to R153), the POWER_FAIL flush (R125), the backup cell and
the thermal shutdown of a controller die (R430).
-/
namespace Sys2Proof.Machine

/-! A controller that stops. -/

/-- What is left of a controller that has lost its core's supply or is held in reset: the board, the MRAM and the backup domain with its
retention SRAM (R169, R123, R129); every other part starts afresh. -/
def Ctlr.halted (x : Ctlr) : Ctlr :=
  { fitted := x.fitted, serial := x.serial, issue := x.issue, schema := x.schema, line := x.line, minor := x.minor, build := x.build
    imgB := x.imgB, bootRst := x.bootRst, bootEv := x.bootEv, testRun := x.testRun, lever := x.lever, mram := x.mram, sup := x.sup
    time := { tcxoBins := x.time.tcxoBins, tcxoAge := x.time.tcxoAge }
    gnss := { eph := x.gnss.eph, good := x.gnss.good, goodOld := true, alm := x.gnss.alm, floors := x.gnss.floors } }

/-- Running time since the last self-tests (R932, R939). -/
def Ctlr.tested (x : Ctlr) (now : Instant) : Nat := if x.powered then now - x.testAt else x.testRun

/-- A controller stops: its loop stages hold their command until TAKE or R470 ends it (R486), the peer sees FAIL_N asserted, and the unit mode
may change with its role (R40). -/
def State.haltCtl (s : State) (c : Ctl) : State :=
  (s.setCtl c { (s.ctl c).halted with testRun := (s.ctl c).tested s.now }).setBias.noteMode

/-! Logic inputs. -/

/-- The state of a logic input (R121): the boundaries lie at 15 V and 18 V, and an input crosses one when it has passed it by the 0.5 V of hysteresis, up or
down (DESIGN CHOICE, log entry 71). -/
def logicState (was : Nat) (mv : MilliVolt) : Nat :=
  let place := fun (d : Int) => b2n (decide (15000 + d ≤ mv)) + b2n (decide (18000 + d ≤ mv))
  if was < place 500 then place 500 else if place (-500) < was then place (-500) else was

/-- LOGIC_ABSENT of an input, raised while either controller finds it absent (R150). -/
def State.logicAlarm (s : State) (c : Ctl) (i : Fin 2) (was now : Nat) (mv : MilliVolt) : State :=
  let al := s.ctlA.sup.logicAl[i] || s.ctlB.sup.logicAl[i]
  s.alarm c 0x0404 (i.val + 1) al c.code was now mv 15000

/-- The cell is connected to the backup domain (R132). -/
def Supply.connected (x : Supply) : Bool := x.cell = .qualified || x.cell = .weak

/-- The clock and the retention SRAM without a supply to keep them (R129, R151). -/
def State.loseBackup (s : State) (c : Ctl) : State :=
  (s.modSup c fun x => { x with clockOk := false, onCell := false, quality := none, keptTai := none, keptTcxo := none, tsd := none }).modGnss c fun g =>
    { g with eph := [], good := none }

/-- The backup domain while the core does not run (R129): from the rail at 16 V and above, else from a connected cell, else it has lost its
supply. -/
def State.backupRail (s : State) (c : Ctl) : State :=
  let x := (s.ctl c).sup
  if 16000 ≤ x.railMv then s.modSup c fun y => { y with onCell := false }
  else if x.connected then s.modSup c fun y => { y with onCell := true }
  else s.loseBackup c

/-- LOGIC_INPUT_STATE (R121, R122, R129, R150): the rail follows the higher input, and with it the backup domain of a controller whose core does not
run; the alarm ends after 1 s of PRESENT. -/
def execLogicInputState (t : Instant) (c : Ctl) (i : Fin 2) (mv : MilliVolt) (s : State) : Result :=
  run t (fun s =>
    when (s.ctl c).fitted (fun s =>
      let x := (s.ctl c).sup
      let was := x.logicSt[i]
      let now := logicState was mv
      let okSince := s.track (now = 2) x.logicOk[i]
      let al := if now = 0 then true else if s.held okSince sec then false else x.logicAl[i]
      let volts := setV x.logicMv i mv
      let rail := max volts[0] volts[1]
      let s := s.modSup c fun x => { x with
        logicMv := volts, logicSt := setV x.logicSt i now, logicOk := setV x.logicOk i okSince, logicAl := setV x.logicAl i al
        railMv := rail, goodSince := s.track (decide (18000 ≤ rail)) x.goodSince }
      let s := if (s.ctl c).powered then s else s.backupRail c
      if (s.ctl c).running then s.logicAlarm c i was now mv else s) s) s

/-- A load test runs: the pause of 60 s and the 10 s of load that follow each 24 h of running time (R135). -/
def State.loadDue (s : State) (c : Ctl) : Bool :=
  let x := (s.ctl c).sup
  x.connected && decide (x.loadAt + 86400 * sec ≤ s.now)

/-- The next period of 24 h that begins at or before an instant (R135). -/
def Supply.loadNext (x : Supply) (now : Instant) : Instant := x.loadAt + (now - x.loadAt) / (86400 * sec) * (86400 * sec)

/-- LOGIC_RAIL_DIP_ONSET (R123, R124, R129, R147): below 16 V the backup domain takes the cell, a running load test is removed and not counted, and
the 15 ms begin. `store` is E / E_full in thousandths, as the measurement of the last 1 ms found it. The test removed falls due again with the next
24 h of running time: DESIGN CHOICE, log entry 58. -/
def execLogicRailDipOnset (t : Instant) (c : Ctl) (mv : MilliVolt) (store : Nat) (s : State) : Result :=
  run t (fun s =>
    let x := s.ctl c
    when (x.powered && x.sup.lowSince.isNone && decide (mv < 16000)) (fun s =>
      s.modSup c fun y => { y with
        lowSince := some s.now, lowMin := mv, railMv := mv, goodSince := none, onCell := y.connected, store := min 1000 store
        loadAt := if s.loadDue c then y.loadNext s.now else y.loadAt }) s) s

/-- LOGIC_DIP (R124): the dip has ended within 15 ms; `mv` was its lowest voltage. -/
def execLogicDip (t : Instant) (c : Ctl) (mv : MilliVolt) (s : State) : Result :=
  run t (fun s =>
    match (s.ctl c).sup.lowSince with
    | none => s
    | some a =>
      when ((s.ctl c).powered && decide (s.now ≤ a + 15 * msec)) (fun s =>
        let s := s.modSup c fun x => { x with
          lowSince := none, lowMin := min x.lowMin mv, onCell := false, railMv := max x.logicMv[0] x.logicMv[1] }
        s.logEv c 0x0003 0 c.code c.code (stdBody 0 ((s.now - a) / usec : Nat) (s.ctl c).sup.lowMin 16000 0 (s.ctl c).serial)) s) s

/-! POWER_FAIL. -/

/-- The journal of a controller resolved (R125, R169): prepared transactions are aborted, committed ones complete. -/
def State.resolve (s : State) (c : Ctl) : State :=
  let s := s.modMram c fun m => { m with slots := m.slots.filter fun j => j.st ≠ .prepared && j.ok }
  let open_ := (s.ctl c).mram.slots.filter fun j => !j.sched && !j.released
  overList open_ (fun j s => s.releaseTx c replyParams j.jsn) s

/-- The hold-up that a charge gives (R123), ns: 60 ms for the charged store, in proportion below it. -/
def holdUpNs (store : Nat) : Nat := 60 * msec * store / 1000

/-- When each step of the flush is done, counted from the declaration (R125), ns. -/
def flushDone : List Nat := [100 * usec, 5 * msec, 15 * msec, 20 * msec, 21 * msec, 22 * msec, 35 * msec]

/-- The steps of the flush that the hold-up left at the declaration allows (R152): the rail has been low for 15 ms by then. -/
def Supply.stepsLeft (x : Supply) : Nat := (flushDone.filter fun d => decide (15 * msec + d ≤ holdUpNs x.store)).length

/-- The first `n` steps of the flush (R125, R583, R921). Records formed after step 3 carry flag [5] (R818). The lifetime counters of R435 stand in MRAM as they
count, so that step 4 has the energy counters and the wedging state to write. -/
def State.flush (s : State) (c : Ctl) (n : Nat) : State :=
  let s := s.modSup c fun x => { x with failTime := s.utime c }
  let s := if 2 ≤ n then (s.resolve c).modCtl c fun x => if x.role = .active then { x with beatTx := some (s.beatOf c true) } else x else s
  let s := if 3 ≤ n then s.modMram c fun m => { m with log := m.log.flush } else s
  let s := s.modSup c fun x => { x with failing := true }
  let s := if 4 ≤ n then s.modMram c fun m => { m with energy := m.energy.map Energy.save } else s
  let s := if 5 ≤ n then
      let r := s.record c 0x0002 0 c.code c.code (stdBody 0 1 (s.ctl c).sup.railMv 16000 0 (s.ctl c).serial)
      s.modMram c fun m => { m with log := (m.log.form r).flush }
    else s
  if 6 ≤ n then
    let tm := (s.ctl c).time
    s.modSup c fun x => { x with
      rtcOff := if tm.set then s.utime c - s.now else x.rtcOff, clockOk := x.clockOk || tm.set, onCell := x.connected
      quality := if tm.set then some (s.estError c, s.now) else x.quality
      keptTcxo := some (tm.st.code, tm.tcxoBins, tm.tcxoAge) }
  else s

/-- Before firmware running, a loss of logic power may cut a write of the boot record (R196). -/
def State.tearBoot (s : State) (c : Ctl) : State :=
  let (n, s) := s.draw
  s.modMram c fun m => { m with boot := m.boot.torn n }

/-- A controller stopped by a POWER_FAIL or by an empty store: the RELINQUISH sent stays under way (R899), and a backup domain without supply is
lost (R129). -/
def State.failStop (s : State) (c : Ctl) (f : Supply → Supply) : State :=
  let beat := (s.ctl c).beatTx
  let s := (s.haltCtl c).modCtl c fun x => { x with beatTx := beat }
  let s := s.modSup c fun x => { f x with lowSince := none }
  if (s.ctl c).sup.connected then s else s.loseBackup c

/-- POWER_FAIL (R125, R152, R196, R899): the rail has stayed below 16 V for more than 15 ms. The steps that the hold-up allows run, the standby is
told after step 2, and the controller is held in reset; a store that runs out before step 7 stops the controller, and its next start is a power-on.
Before firmware running nothing is written. -/
def execPowerFail (t : Instant) (c : Ctl) (s : State) : Result :=
  run t (fun s =>
    match (s.ctl c).sup.lowSince with
    | none => s
    | some a =>
      when ((s.ctl c).powered && !(s.ctl c).sup.failing && decide (a + 15 * msec < s.now)) (fun s =>
        let n := (s.ctl c).sup.stepsLeft
        let early : Bool := (s.ctl c).role = .booting
        let s := if early then (s.tearBoot c).modSup c fun x => { x with failTime := s.utime c } else s.flush c (min 6 n)
        let s := if early then s else s.modMram c fun m => { m with cut := decide (n < 7) }
        s.failStop c fun x => { x with
          failing := decide (7 ≤ n), step7At := s.now, store := if n < 7 then 0 else x.store - 50 * 1000 / 60 }) s) s

/-- HOLDUP_EXHAUSTED (R152): the store has run out, before the declaration or after `steps` steps of the flush, which are no fewer than the hold-up
allowed; the next start is a power-on. -/
def execHoldupExhausted (t : Instant) (c : Ctl) (steps : Nat) (s : State) : Result :=
  run t (fun s =>
    match (s.ctl c).sup.lowSince with
    | none => s
    | some a =>
      when ((s.ctl c).powered && decide (a + holdUpNs (s.ctl c).sup.store ≤ s.now)) (fun s =>
        let n := min 6 (max (s.ctl c).sup.stepsLeft steps)
        let early : Bool := (s.ctl c).role = .booting
        let s := if a + 15 * msec < s.now ∧ 1 ≤ n ∧ ¬early then s.flush c n else s
        let s := if early then s.tearBoot c else s.modMram c fun m => { m with cut := true }
        s.failStop c fun x => { x with failing := false, store := 0 }) s) s

/-- HOLDUP_CHARGED (R152). -/
def execHoldupCharged (t : Instant) (c : Ctl) (s : State) : Result :=
  run t (fun s => when (s.ctl c).powered (fun s =>
    (s.modMram c fun m => { m with charging := false }).modSup c fun x => { x with store := 1000 }) s) s

/-- HOLDUP_LOW as a running controller reports it (R150). -/
def State.holdupAlarm (s : State) (c : Ctl) : State :=
  let x := s.ctl c
  if x.running ∧ x.sup.holdupAl then s.alarm c 0x0405 c.code true c.code 0 1 x.sup.holdup 45 x.serial else s

/-- HOLDUP_PREDICTION (R150, R932, R938): at each start, before firmware running, and every 24 h; below 45 ms raises HOLDUP_LOW, which lasts until the
controller is replaced. -/
def execHoldupPrediction (t : Instant) (c : Ctl) (ms : Nat) (s : State) : Result :=
  run t (fun s => when ((s.ctl c).fitted && (s.ctl c).powered && dayDue (s.ctl c).sup.holdupAt s.now) (fun s =>
    (s.modSup c fun x => { x with holdup := ms, holdupAl := x.holdupAl || decide (ms < 45), holdupAt := some s.now }).holdupAlarm c) s) s

/-! The backup cell. -/

/-- A cell state that R150 lists as a fault. -/
def CellState.fault : CellState → Bool
  | .absent => true | .weak => true | .refused => true | .failed => true | _ => false

/-- The charger in a cell state (R130, R132): off after CHARGER_FAULT (R150), and a cell that has just become QUALIFIED is charged at once. -/
def Supply.chargeFor (x : Supply) (st : CellState) : Charge :=
  if x.chargeAl then .off
  else match st with
    | .precharge => .precharge
    | .qualified => if x.connected then x.charge else .constCurrent
    | .weak => if x.connected then x.charge else .constCurrent
    | _ => .off

/-- A cell state taken, with the change kept for the log. -/
def Supply.toCell (x : Supply) (st : CellState) (now : Instant) : Supply :=
  { x with
    cell := st, cellAt := now, charge := x.chargeFor st, onCell := x.onCell && (st = .qualified || st = .weak)
    loadAt := if x.connected then x.loadAt else x.loadNext now
    cellEv := if x.cell = st then x.cellEv else x.cellEv ++ [(x.cell, st, x.cellMv)] }

/-- One change of the cell state logged: a fault raises CELL_STATE, and QUALIFIED clears it (R132, R150). -/
def State.cellRecord (s : State) (c : Ctl) (old new : CellState) (mv : MilliVolt) : State :=
  let stands : Bool := (s.writer c).any fun w => (s.ctl w).alarmed 0x0406 c.code
  if new.fault ∧ ¬stands then s.alarm c 0x0406 c.code true c.code old.code new.code mv
  else if new = .qualified ∧ stands then s.alarm c 0x0406 c.code false c.code old.code new.code mv
  else s.logEv c 0x0406 0 c.code c.code (stdBody old.code new.code mv)

/-- Every change of the cell state is logged (R132): at once while firmware runs, else at firmware running. -/
def State.cellLog (s : State) (c : Ctl) : State :=
  if (s.ctl c).running then
    let evs := (s.ctl c).sup.cellEv
    overList evs (fun e s => s.cellRecord c e.1 e.2.1 e.2.2) (s.modSup c fun x => { x with cellEv := [] })
  else s

/-- The cell enters a state (R132). -/
def State.cellTo (s : State) (c : Ctl) (st : CellState) : State :=
  if (s.ctl c).sup.cell = st then s else (s.modSup c fun x => x.toCell st s.now).cellLog c

/-- CELL_INSERTED (R132, R153): without logic power it waits for the next power-up. -/
def execCellInserted (t : Instant) (c : Ctl) (s : State) : Result :=
  run t (fun s => when ((s.ctl c).powered && (s.ctl c).sup.cell = .absent) (fun s => s.cellTo c .qualifying) s) s

/-- What qualification finds (R132, R133): `ohm` at the type-ID contact and the cell voltage. -/
def qualify (ohm : Nat) (mv : MilliVolt) : CellState :=
  if 1000000 < ohm then .absent
  else if ohm < 20900 ∨ 23100 < ohm ∨ mv < 800 ∨ 2850 < mv then .refused
  else if mv < 1500 then .precharge
  else .qualified

/-- CELL_QUALIFICATION_END (R133). -/
def execCellQualificationEnd (t : Instant) (c : Ctl) (ohm : Nat) (mv : MilliVolt) (s : State) : Result :=
  run t (fun s =>
    let x := s.ctl c
    when (x.powered && x.sup.cell = .qualifying && decide (x.sup.cellAt + 5 * sec ≤ s.now)) (fun s =>
      (s.modSup c fun y => { y with cellMv := mv }).cellTo c (qualify ohm mv)) s) s

/-- PRECHARGE_DONE (R132): 1.5 V qualifies the cell, 2 h without it fail it. -/
def execPrechargeDone (t : Instant) (c : Ctl) (mv : MilliVolt) (s : State) : Result :=
  run t (fun s =>
    let x := s.ctl c
    when (x.powered && x.sup.cell = .precharge) (fun s =>
      let s := s.modSup c fun y => { y with cellMv := mv }
      if 1500 ≤ mv then s.cellTo c .qualified
      else if x.sup.cellAt + 7200 * sec ≤ s.now then s.cellTo c .failed else s) s) s

/-- CELL_REMOVED (R134, R148): the charger stops; a backup domain that ran from the cell has lost its supply. -/
def execCellRemoved (t : Instant) (c : Ctl) (s : State) : Result :=
  run t (fun s =>
    let x := s.ctl c
    when (x.sup.cell ≠ .absent) (fun s =>
      let s := (s.modSup c fun y => { y with cellMv := 0 }).cellTo c .absent
      if x.sup.onCell then s.loseBackup c else s) s) s

/-- CELL_LOAD_TEST (R135): the end of a test, 70 s after the 24 h that it follows; the next 24 h have run since it began. -/
def execCellLoadTest (t : Instant) (c : Ctl) (minMv dropMv : MilliVolt) (s : State) : Result :=
  run t (fun s =>
    let x := s.ctl c
    when (x.powered && x.sup.lowSince.isNone && s.loadDue c && decide (x.sup.loadAt + 86400 * sec + 70 * sec ≤ s.now)) (fun s =>
      let pass : Bool := decide (2100 ≤ minMv) && decide (dropMv ≤ 150)
      let s := s.modSup c fun y => { y with loadTest := if pass then 1 else 2, loadAt := y.loadNext s.now, cellMv := minMv }
      s.cellTo c (if pass then .qualified else .weak)) s) s

/-- CHARGER_CONTROL (R130, R132, R135): 8 mA up to 2.8 V, then 2.8 V until the current falls below 0.8 mA, and anew below 2.6 V. The output is
clamped at 2.9 V, and the clamp with less than 0.2 mA tells of a removed cell. While a load test runs the charge pauses. -/
def execChargerControl (t : Instant) (c : Ctl) (mv : MilliVolt) (ua : Nat) (s : State) : Result :=
  run t (fun s =>
    let x := (s.ctl c).sup
    when ((s.ctl c).powered && (x.connected || x.cell = .precharge) && !x.chargeAl && x.lowSince.isNone && !s.loadDue c) (fun s =>
      let mv := if x.charge = .off then mv else min 2900 mv
      let s := s.modSup c fun y => { y with cellMv := mv }
      if x.charge ≠ .off ∧ 2900 ≤ mv ∧ ua < 200 then s.cellTo c .absent
      else if x.cell = .precharge then s
      else s.modSup c fun y => { y with charge :=
        match y.charge with
        | .constCurrent => if 2800 ≤ mv then .constVoltage else .constCurrent
        | .constVoltage => if ua < 800 then .off else .constVoltage
        | _ => if mv < 2600 then .constCurrent else .off }) s) s

/-- CHARGER_FAULT (R150): above 2.95 V the charger is off until the controller is replaced. -/
def execChargerFault (t : Instant) (c : Ctl) (mv : MilliVolt) (s : State) : Result :=
  run t (fun s =>
    when ((s.ctl c).running && decide (2950 < mv)) (fun s =>
      (s.modSup c fun x => { x with chargeAl := true, charge := .off }).alarm c 0x0407 c.code true c.code 0 1 mv 2950) s) s

/-! Controller die. -/

/-- CTRL_TSD (R430): the core loses its supply, and the flag and the RTC value are stored. -/
def execCtrlTsd (t : Instant) (c : Ctl) (temp : DeciDeg) (s : State) : Result :=
  run t (fun s =>
    when ((s.ctl c).powered && decide (1350 ≤ temp)) (fun s =>
      let s := s.haltCtl c
      (s.modSup c fun x => { x with tsd := some ((s.now : Int) + x.rtcOff), tsdOff := true, ctrlDie := temp, lowSince := none }).backupRail c) s) s

end Sys2Proof.Machine
end

