-- ==== Sys2Proof/Machine/Content.lean ====
section
/-!
DEFINITION. Machine/Content.lean: the records that replies and stream reports carry (R351, R403, R432, R511, R514, R616 to R619, R622, R627, R799).
-/
namespace Sys2Proof.Machine

/-! Log records. -/

/-- A log record as it travels, 64 bytes (R799); a stored record whose CRC fails keeps its index alone (R817). -/
def LogRec.bytes (r : LogRec) : Bytes :=
  if r.bad then be 4 r.index ++ zeros 60
  else
    let head := be 4 r.index ++ beInt 8 r.time ++ be 2 r.code ++ be 1 r.flags ++ be 1 r.source ++ be 1 r.object ++ be 1 r.mode ++ zeros 2 ++ padTo 40 r.body
    head ++ be 4 (crc32 head)

/-! Measurements. -/

/-- The average of an interval code, 0 to 2, else the latch sample. -/
def Meas.avgOf (m : Meas) (code : Nat) : Avg :=
  if code = 0 then m.avg1ms else if code = 1 then m.avg100ms else if code = 2 then m.avg1s else m.latch.getD {}

/-- The measurement record of a channel for an interval code. -/
def State.measOf (s : State) (c : Ch) (code : Nat) : Bytes := measRecord c code ((s.chan c).meas.avgOf code)

/-- The LATCH_READ reply (R615, R618): the records of the latch sample, interval code 3. -/
def State.latchBytes (s : State) (T : UnitTime) : Bytes := beInt 8 T ++ allCh.flatMap fun c => s.measOf c 3

/-- The energy counters, CH01 first (R615). -/
def Ctlr.energyBytes (x : Ctlr) : Bytes := x.mram.energy.toList.flatMap fun e => be 8 e.mwh

/-- Pairs that a mask names. -/
def pairsIn (mask : Nat) : List Pair := allPairs.filter fun p => bit mask p.val

/-! Alarms. -/

/-- The active alarms of a controller. -/
def Ctlr.activeAlarms (x : Ctlr) : List Alarm := x.alarms.filter (·.active)

/-! Ports. -/

/-- Codes of the port states (R615). -/
def PortState.code : PortState → Nat
  | .up => 0
  | .quiet => 1
  | .down => 2

/-- The 15 counters of R514, in their order. -/
def PortCounts.bytes (x : PortCounts) : Bytes :=
  [x.rxOk, x.txOk, x.rxFcs, x.coll, x.beacon, x.notFor, x.malformed, x.dup, x.unknown, x.budget, x.tagFail, x.window, x.arp, x.echo, x.down].flatMap
    (be 4)

/-- A source entry of R511, 28 bytes. -/
def SrcEntry.bytes (e : SrcEntry) : Bytes :=
  be 4 e.ip ++ be 4 e.unknown ++ be 4 e.budget ++ be 4 e.tagFail ++ be 4 e.window ++ beInt 8 e.last

/-! Time and GNSS. -/

/-- The GET_TIME reply (R619), 32 bytes. -/
def State.timeBytes (s : State) (c : Ctl) : Bytes :=
  let x := (s.ctl c).time
  let age := match x.holdAt with
    | some t => if x.st = .holdover then s.since t / sec else 0
    | none => 0
  be 1 x.st.code ++ be 1 x.src ++ beInt 2 x.tai ++ be 4 (satU 32 (s.estError c)) ++ beInt 8 x.taiAt ++ be 4 (satU 32 age) ++ beInt 4 (satS 32 x.resid) ++
  (match x.pairDiff with
   | some d => beInt 4 (satS 32 d)
   | none => be 4 0x80000000) ++ zeros 4

/-- The GET_GNSS reply (R619), 32 bytes. -/
def State.gnssBytes (s : State) (c : Ctl) : Bytes :=
  let g := (s.ctl c).gnss
  be 1 g.fix.code ++ be 1 g.fix.sats ++ be 1 g.l1.jam ++ be 1 g.l5.jam ++ beInt 4 g.fix.lat ++ beInt 4 g.fix.lon ++ beInt 4 g.fix.height ++
  beInt 8 g.fix.time ++ be 2 (satU 16 g.fix.unc) ++
  be 1 (b2n g.fix.iono ||| (b2n g.checkBad <<< 1) ||| (b2n s.ant.open_ <<< 2) ||| (b2n s.ant.short <<< 3)) ++ zeros 5

/-- The records of a band from a tracker on, at most 30 (R619, R762). -/
def Gnss.recordsOf (g : Gnss) (b : Band) (first : Nat) : List Bytes :=
  ((g.trk.toList.drop first).filterMap fun k => (k.band b).record).take 30

/-- The GET_GNSS_MEAS reply from a tracker on (R619). -/
def Gnss.measBytes (g : Gnss) (b : Band) (first : Nat) : Bytes :=
  let l := g.recordsOf b first
  beInt 8 (g.epochAt.getD 0) ++ be 1 l.length ++ zeros 3 ++ l.flatten

/-! The cone record. -/

/-- Whole hours of a time in ms (R435). -/
def hoursOf (ms : Nat) : Nat := ms / 3600000

/-- The CONE_STATUS reply (R622), 188 bytes. -/
def State.coneStatusBytes (s : State) (c : Ctl) : Bytes :=
  let x := (s.ctl c).mram.cone
  let f := s.cool.fans
  be 2 x.entries.length ++ zeros 2 ++ be 4 x.highest ++ x.fwd.toList.flatMap (be 4) ++ x.fw.toList.flatMap (be 4) ++ be 4 x.ctrl[0] ++ be 4 x.ctrl[1] ++
  be 4 x.missed ++ be 4 (hoursOf (f[0]).runMs) ++ be 4 (hoursOf (f[1]).runMs) ++ be 4 (f[0]).starts ++ be 4 (f[1]).starts ++
  be 4 (f[0]).blocks ++ be 4 (f[1]).blocks ++ x.stepMs.toList.flatMap (fun m => be 4 (hoursOf m)) ++ be 4 (hoursOf x.hotMs)

/-! The pair. -/

/-- A controller entry of PAIR_STATUS (R627): of a controller that the answering one cannot reach, what its last ELECT record or heartbeat told, and
zeros beside (DESIGN CHOICE, log entry 77). -/
def State.pairEntry (s : State) (c k : Ctl) : Bytes :=
  let x := s.ctl k
  if ¬x.fitted then be 1 0xFF ++ zeros 31
  else if k = c ∨ s.linkUp then
    be 1 x.role.code ++ be 1 1 ++ be 2 x.schema ++ be 2 x.line ++ be 2 x.minor ++ be 4 x.mram.epoch ++ padTo 16 x.mram.hash ++ be 1 x.cause ++ zeros 3
  else match (s.ctl c).elect, (s.ctl c).beat with
    | _, some b => be 1 b.role.code ++ be 1 1 ++ be 2 b.schema ++ be 2 b.line ++ be 2 b.minor ++ be 4 b.epoch ++ padTo 16 b.hash ++ zeros 4
    | some e, none => be 1 e.role.code ++ be 1 1 ++ be 2 e.schema ++ be 2 e.line ++ be 2 0 ++ be 4 e.epoch ++ padTo 16 e.hash ++ zeros 4
    | none, none => zeros 1 ++ be 1 1 ++ zeros 30

/-- The PAIR_STATUS reply (R627), 84 bytes. -/
def State.pairBytes (s : State) (c : Ctl) : Bytes :=
  let a := s.ctlA
  let b := s.ctlB
  let last := if b.fitted ∧ (¬a.fitted ∨ a.roleAt < b.roleAt) then b else a
  be 1 s.unitMode.code ++ be 1 (b2n s.linkUp) ++ zeros 2 ++ s.pairEntry c .a ++ s.pairEntry c .b ++ beInt 8 last.roleAt ++ be 1 last.roleEv ++ zeros 7

end Sys2Proof.Machine
end

