-- ==== Sys2Proof/Machine/ExpPort.lean ====
section
/-!
DEFINITION. Machine/ExpPort.lean: the SPI engine of the expansion port (R684 to R693, R700): its configuration, whose turn it is, and the start and
the end of a transaction.
-/
namespace Sys2Proof.Machine

/-! Configuration in force (R687). -/

/-- A field of WIN_PARAMS in force: `n` bytes from byte `i` (R701). -/
def Exp.param (x : Exp) (i n : Nat) : Nat := bits (x.items.val 0x0907 0) (8 * (16 - i - n)) (8 * n)

/-- The select of the window device. -/
def Exp.winSel (x : Exp) : Nat := x.items.val 0x0905 0

/-- Page size in use, log2 bytes: the table's, else WIN_PARAMS' (R702). -/
def Exp.pageLog (x : Exp) : Nat := (x.table.map (·.1)).getD (x.param 1 1)

/-- Density in use, log2 bytes. -/
def Exp.densityLog (x : Exp) : Nat := (x.table.map (·.2.1)).getD (x.param 2 1)

/-- Erase sizes in use. -/
def Exp.erases (x : Exp) : Nat := (x.table.map (·.2.2)).getD (x.param 12 1)

/-- Bytes of the window that the device holds (R695). -/
def Exp.span (x : Exp) : Nat := min (2 ^ x.densityLog) (2 ^ 24)

/-- The operation acts on the window device, so that it waits for it. -/
def ExpKind.window : ExpKind → Bool
  | .xfer _ _ _ => false
  | _ => true

/-- A page program or an erase, which bound 5 counts (R704). -/
def ExpKind.slow : ExpKind → Bool
  | .write _ _ => true
  | .erase _ _ => true
  | _ => false

/-- Bytes of an erase of a size code (R624). -/
def eraseBytes (size : Nat) : Nat := if size = 0 then 4096 else if size = 1 then 32768 else 65536

/-- Time-out of an operation, ns (R701). -/
def Exp.timeout (x : Exp) : ExpKind → Nat
  | .write _ _ => x.param 4 2 * 100 * usec
  | .erase _ size => if size = 0 then x.param 6 2 * msec else if size = 3 then x.param 10 2 * sec else x.param 8 2 * 10 * msec
  | _ => 0

/-- The longest time-out in use (R707). -/
def Exp.longest (x : Exp) : Nat :=
  max (max (x.param 4 2 * 100 * usec) (x.param 6 2 * msec)) (max (x.param 8 2 * 10 * msec) (x.param 10 2 * sec))

/-- Window operations do not begin: the device is waited for or must be probed first (R702, R710). -/
def Exp.blocked (x : Exp) : Bool := x.wait || x.probe || x.absent

/-! Timing of a transaction (R688, R689, R694). -/

/-- SCK period, ns: 200 MHz / (2 × ceil(100 MHz / EXP_CLK)) (R688). -/
def sckPeriod (mhz : Nat) : Nat := 2 * ((100 + mhz - 1) / mhz) * 5

/-- Instant at which the select is asserted (R694). -/
def SpiTx.assert (x : SpiTx) : Instant := x.start + 20

/-- Instant of an edge of SCK, numbered from 0; there are two for each bit. -/
def SpiTx.edge (x : SpiTx) (k : Nat) : Instant := x.assert + max (x.period / 2) 25 + k * (x.period / 2)

/-- Instant at which the select is released: 20 ns after the last edge. -/
def SpiTx.release (x : SpiTx) : Instant := x.edge (2 * x.total - 1) + 20

/-- SCK idles high in modes 2 and 3 (R689). -/
def SpiTx.idleHigh (x : SpiTx) : Bool := decide (2 ≤ x.mode)

/-- Modes 0 and 2 sample on the first edge of each bit and launch on the second; modes 1 and 3 launch on the first and sample on the second (R689). -/
def SpiTx.sampleFirst (x : SpiTx) : Bool := decide (x.mode % 2 = 0)

/-- Instant at which bit `i` is sampled. -/
def SpiTx.sampleAt (x : SpiTx) (i : Nat) : Instant := x.edge (if x.sampleFirst then 2 * i else 2 * i + 1)

/-- Instant at which MOSI takes bit `i`; before the first edge it takes it with the select (DESIGN CHOICE, log entry 79). -/
def SpiTx.launchAt (x : SpiTx) (i : Nat) : Instant :=
  if x.sampleFirst then (if i = 0 then x.assert else x.edge (2 * i - 1)) else x.edge (2 * i)

/-- Bit `i` on MOSI: the frames one after another, most significant bit first (R689, R690); none where nothing is sent. -/
def SpiTx.mosi (x : SpiTx) (i : Nat) : Option Bool :=
  (x.frames[i / x.width]?).map fun w => w.testBit (x.width - 1 - i % x.width)

/-- Edges of SCK up to an instant. -/
def SpiTx.edges (x : SpiTx) (t : Instant) : Nat :=
  if t < x.edge 0 then 0 else min (2 * x.total) ((t - x.edge 0) / (x.period / 2) + 1)

/-- `n` bits from bit `i` of what MISO held at the sampling instants, first bit first; beyond `rx` the pull-up reads as one (R685, R690). -/
def misoBits (rx : Bytes) (i n : Nat) : Nat :=
  let m := (i + n + 7) / 8
  bits (natOf (rx.take m ++ List.replicate (m - rx.length) 0xFF)) (8 * m - i - n) n

/-! Pins (R684, R685, R692, R693, R709). -/

/-- Levels on X40: SCK, SEL0, SEL1, DSEL_N and DA[2:0]. -/
structure X40 where
  /-- SCK. -/
  sck  : Bool := false
  /-- SEL0 and SEL1. -/
  sel  : Vector Bool 2 := Vector.replicate 2 true
  /-- DSEL_N. -/
  dsel : Bool := true
  /-- DA[2:0]. -/
  da   : Nat := 7
deriving DecidableEq, Repr

/-- The levels that one controller's engine gives the pins; the pulls of R685 where it does not drive them. -/
def Exp.pins (x : Exp) (now : Instant) : X40 :=
  let idle : Bool := decide (2 ≤ x.items.val 0x0902 0)
  if ¬x.drive then {}
  else match x.tx with
    | none => { sck := idle, da := x.da }
    | some (tx, _) =>
      let on : Bool := decide (tx.assert ≤ now ∧ now < tx.release)
      { sck := tx.idleHigh != decide (tx.edges now % 2 = 1), dsel := !(x.decoded && on)
        sel := Vector.ofFn fun i => !(!x.decoded && on && tx.sel = i.val)
        da := if x.decoded ∧ tx.start ≤ now then tx.sel else x.da }

/-- The levels on X40: those of the controller that drives it. -/
def State.x40 (s : State) : X40 := if s.ctlA.exp.drive then s.ctlA.exp.pins s.now else s.ctlB.exp.pins s.now

/-! Transactions. -/

/-- The operation whose turn it is: the first, or, while it waits for the window device, the first SPI_XFER (R691, R700). -/
def Exp.turn (x : Exp) : Option ExpOp :=
  match x.queue with
  | [] => none
  | o :: l => if o.kind.window ∧ (o.st = .polling ∨ (o.st = .queued ∧ x.blocked)) then l.find? fun y => !y.kind.window else some o

/-- Three bytes of an address. -/
def addr3 (a : Nat) : List Nat := [bits a 16 8, bits a 8 8, bits a 0 8]

/-- Bits of a fast read before its data: the code, the address and the dummy cycles (R696, R701). -/
def Exp.readHead (x : Exp) : Nat := 32 + x.param 3 1

/-- The frames that the next transaction of an operation sends, and its bits (R696 to R698). None while its status is to be read first. -/
def Exp.frames (x : Exp) (o : ExpOp) : Option (Nat × List Nat × Nat) :=
  match o.kind, o.st with
  | .xfer _ n l, _ => some (n, l, n * l.length)
  | .read a len, _ => some (8, 0x0B :: addr3 a, x.readHead + 8 * len)
  | _, .queued => some (8, [0x06], 8)
  | _, _ => none

/-- The frames of step 3 of R698. -/
def ExpKind.program : ExpKind → List Nat
  | .write a d => 0x02 :: addr3 a ++ d.map (·.toNat)
  | .erase a size => if size = 3 then [0xC7] else (if size = 0 then 0x20 else if size = 1 then 0x52 else 0xD8) :: addr3 a
  | _ => []

/-- The select of an operation. -/
def Exp.selOf (x : Exp) : ExpKind → Nat
  | .xfer sel _ _ => sel
  | _ => x.winSel

/-- A transaction under the configuration in force (R688 to R690). -/
def Exp.txOf (x : Exp) (sel width : Nat) (frames : List Nat) (total : Nat) (start : Instant) : SpiTx :=
  { sel := sel, mode := x.items.val 0x0902 0, period := sckPeriod (x.items.val 0x0903 0), width := width, frames := frames, total := total, start := start }

/-- A transaction begins, 100 ns or more after the last release (R691, R694). -/
def State.spiBegin (s : State) (c : Ctl) (o : ExpOp) (f : Nat × List Nat × Nat) : State :=
  let x := (s.ctl c).exp
  let tx := x.txOf (x.selOf o.kind) f.1 f.2.1 f.2.2 (max s.now x.freeAt)
  (s.modExp c fun y => { y with tx := some (tx, o) }).emit (.spi c tx)

/-- The select is released; DA[2:0] keep their value in DECODED mode (R693, R694). -/
def Exp.released (x : Exp) (sel : Nat) (now : Instant) : Exp :=
  { x with tx := none, freeAt := now + 100, da := if x.decoded then sel else 7 }

/-- A transaction on the window device that the model takes in one event, at its release: when it began (log entry 79). -/
def Exp.shortTx (x : Exp) (frames : List Nat) (total : Nat) (now : Instant) : SpiTx :=
  let tx := x.txOf x.winSel 8 frames total 0
  { tx with start := now - tx.release }

/-- That transaction fits between the last release and its own. -/
def Exp.fitsShort (x : Exp) (tx : SpiTx) (now : Instant) : Bool := x.tx.isNone && x.drive && decide (x.freeAt ≤ tx.start) && decide (tx.release ≤ now)

/-- The engine, when it is idle, lets a commit take effect where nothing is queued, or begins the transaction whose turn it is. -/
def State.expNext (s : State) (c : Ctl) : State :=
  let x := (s.ctl c).exp
  if x.tx.isSome ∨ ¬x.drive then s
  else if x.queue.isEmpty then
    if x.newCfg then s.modExp c fun y => y.adopt (s.ctl c).mram.items else s
  else match x.turn with
    | none => s
    | some o =>
      match x.frames o with
      | some f => s.spiBegin c o f
      | none => s

/-- An operation taken out of the queue. -/
def Exp.pop (x : Exp) (o : ExpOp) : Exp := { x with queue := x.queue.erase o }

/-- An operation changed in its place. -/
def Exp.modOp (x : Exp) (o o' : ExpOp) : Exp := { x with queue := x.queue.map fun y => if y = o then o' else y }

/-- Opcode of an operation. -/
def ExpKind.op : ExpKind → Nat
  | .read _ _ => 0x0601
  | .write _ _ => 0x0602
  | .erase _ _ => 0x0603
  | .xfer _ _ _ => 0x0604

/-- An operation answered and taken out (R625). -/
def State.expAnswer (s : State) (c : Ctl) (o : ExpOp) (status detail : Nat) (params : Bytes) : State :=
  let params := if status = 0 then params else errParams 0xFFFF 0 detail
  (s.modExp c fun x => x.pop o).answerLater c o.req o.kind.op status (s.utime c) params detail

/-- An operation that the device fails (R698, R699, R707). -/
def State.expFail (s : State) (c : Ctl) (o : ExpOp) : State := s.expAnswer c o 0x0501 32 []

/-- Every window operation that is queued, failed (R707). -/
def State.expFailAll (s : State) (c : Ctl) : State :=
  ((s.ctl c).exp.queue.filter fun o => o.kind.window).foldl (fun s o => s.expFail c o) s

/-- Reply parameters of a page program or an erase that is complete (R624). -/
def ExpKind.doneParams : ExpKind → Bytes
  | .write a d => be 4 a ++ be 2 d.length
  | .erase a size => be 4 a ++ be 1 size ++ zeros 3
  | _ => []

/-- Received frames of `n` bits as the reply words of R690. -/
def wordsIn (n k : Nat) (rx : Bytes) : Bytes := ((List.range k).map fun i => be 4 (misoBits rx (n * i) n)).flatten

/-- An alarm of the expansion port (R708). -/
def State.expAlarm (s : State) (c : Ctl) (code : Nat) (was is : Bool) (meas : Int := 0) : State :=
  if was = is then s else s.alarm c code 0 is c.code (b2n was) (b2n is) meas

/-- The time-out of the operation that runs (R699, R707): HW_FAULT for it and for every window operation behind it, and the device is marked absent,
to be probed again. -/
def State.winTimeOut (s : State) (c : Ctl) : State :=
  let was := (s.ctl c).exp.fault
  let s := (s.modExp c fun x => { x with tmo := satBump 32 x.tmo, absent := true, table := none, fault := true }).expFailAll c
  (s.expAlarm c 0x0D02 was true).expNext c

/-- A status byte read from the window device (R698, R707), taken at the release of its transaction: the wait of a new ACTIVE controller, step 2, or a
poll, which is due every WIN_POLL from the release of the program. -/
def State.winStatus (s : State) (c : Ctl) (status : Nat) : State :=
  let x := (s.ctl c).exp
  let busy := bit status 0
  let tx := x.shortTx [0x05] 16 s.now
  let read := fun (s : State) => (s.emit (.spi c tx)).modExp c fun y => { y.released tx.sel s.now with busy := busy }
  if ¬x.fitsShort tx s.now then s
  else if x.wait then
    let s := read s
    if ¬busy ∨ x.waitAt + x.longest ≤ s.now then (s.modExp c fun y => { y with wait := false, probe := true }).expNext c else s
  else match x.queue with
    | [] => s
    | o :: _ =>
      match o.st with
      | .queued => s
      | .enabled =>
        let s := read s
        if bit status 1 then s.spiBegin c o (8, o.kind.program, 8 * o.kind.program.length) else (s.expFail c o).expNext c
      | .polling =>
        if tx.start < o.pollAt then s
        else
          let s := read s
          let poll := x.items.val 0x0906 0 * usec
          if ¬busy then
            let us := (s.now - o.relAt) / usec
            let s := s.modExp c fun y => match o.kind with
              | .erase _ _ => { y with lastErUs := some us }
              | _ => { y with lastUs := some us }
            (s.expAnswer c o 0 0 o.kind.doneParams).expNext c
          else if o.relAt + x.timeout o.kind ≤ tx.start then s.winTimeOut c
          else (s.modExp c fun y => y.modOp o { o with pollAt := o.relAt + poll * ((tx.start - o.relAt) / poll + 1) }).expNext c

/-- A controller drives X40 and probes the window device (R709, R710): `wait` after a change of role. -/
def State.expTake (s : State) (c : Ctl) (wait : Bool) : State :=
  let items := expItems (s.ctl c).mram.items
  let x : Exp := { (s.ctl c).exp with items := items, drive := true, queue := [], tx := none, newCfg := false }
  s.modExp c fun _ => { x with wait := wait && x.winEn, waitAt := s.now, probe := x.winEn && !wait }

/-- A controller releases X40 (R684, R707, R710): its operations are lost without a reply, and their window entries with them. -/
def State.expDrop (s : State) (c : Ctl) : State :=
  let gone := (s.ctl c).exp.queue.map (·.req)
  let s := s.modExp c fun x => { x with drive := false, queue := [], tx := none, da := 7, wait := false, probe := false, newCfg := false }
  gone.foldl (fun s q => s.modMram c fun m => m.modClient q.client fun y => { y with win := y.win.filter fun e => e.seq ≠ q.seq ∨ e.st ≠ .inProgress }) s

end Sys2Proof.Machine
end

