-- ==== Sys2Proof/Machine/Expansion.lean ====
section
/-!
DEFINITION. Machine/Expansion.lean: the expansion group, opcodes 0x06xx (R624, R625), and the events of the expansion port (chapter 16).
-/
namespace Sys2Proof.Machine

/-! Commands. -/

/-- The window is not enabled, in force or by the last commit (R624, R707). -/
def winOff : Check := fun s c _ =>
  if (s.ctl c).exp.winEn ∧ s.itemAt c 0x0904 0 = 1 then none else some { status := 0x0401 }

/-- A table that cannot be used (R702). -/
def winUnusable : Check := fun s c _ => if (s.ctl c).exp.unsupp then some { status := 0x0501, detail := 32 } else none

/-- The operation is accepted into the engine's queue (R691). -/
def State.expQueue (s : State) (c : Ctl) (q : Request) (k : ExpKind) : Answer :=
  .later ((s.modExp c fun x => { x with queue := x.queue ++ [{ kind := k, req := q }] }).expNext c)

/-- Bound 5 of R575 (R704): the forecast is that of the oldest operation counted. -/
def winBusy : State → Ctl → Request → Option (Nat × Option UnitTime) := fun s c _ =>
  let x := (s.ctl c).exp
  let l := x.queue.filter fun o => o.kind.slow
  match l with
  | [] => none
  | o :: _ =>
    if l.length < 8 then none
    else
      let last := match o.kind with
        | .erase _ _ => x.lastErUs
        | _ => x.lastUs
      let time := (last.map (· * usec)).getD (x.timeout o.kind)
      let from_ : Instant := if o.st = .polling then o.relAt else s.now
      some (5, some (s.utime c + ((from_ + time : Nat) : Int) - (s.now : Int)))

def hWinRead : Handler := {
  op := 0x0601, least := 2, len := exactly 8
  range := fun s c q =>
    let a := field q.params 0 4
    let n := field q.params 4 2
    if a > 0xFFFFFF ∨ a ≥ (s.ctl c).exp.span then some { status := 0x0303, off := 0 }
    else if n < 1 ∨ n > 1000 ∨ a + n > (s.ctl c).exp.span then some { status := 0x0303, off := 4 }
    else none
  conflict := winOff
  hw := winUnusable
  run := fun s c q => s.expQueue c q (.read (field q.params 0 4) (field q.params 4 2)) }

/-- WIN_READ (R624, R697). -/
def execWinRead (t : Instant) (q : Request) (s : State) : Result := run t (fun s => s.perform hWinRead q) s

def hWinWrite : Handler := {
  op := 0x0602, least := 2, len := fun b => 8 ≤ b.length && b.length = 8 + field b 4 2
  range := fun s c q =>
    let x := (s.ctl c).exp
    let a := field q.params 0 4
    let n := field q.params 4 2
    let page := 2 ^ x.pageLog
    if a > 0xFFFFFF ∨ a ≥ x.span then some { status := 0x0303, off := 0 }
    else if n < 1 ∨ a % page + n > page ∨ a + n > x.span then some { status := 0x0303, off := 4 }
    else none
  busy := winBusy
  conflict := winOff
  hw := winUnusable
  run := fun s c q => s.expQueue c q (.write (field q.params 0 4) (q.params.drop 8)) }

/-- WIN_WRITE (R624, R698, R703). -/
def execWinWrite (t : Instant) (q : Request) (s : State) : Result := run t (fun s => s.perform hWinWrite q) s

def hWinErase : Handler := {
  op := 0x0603, least := 2, len := exactly 8
  range := fun s c q =>
    let x := (s.ctl c).exp
    let a := field q.params 0 4
    let n := field q.params 4 1
    if n > 3 ∨ ¬bit x.erases n then some { status := 0x0303, off := 4 }
    else if (n = 3 ∧ a ≠ 0) ∨ (n ≠ 3 ∧ (a % eraseBytes n ≠ 0 ∨ a ≥ x.span)) then some { status := 0x0303, off := 0 }
    else none
  busy := winBusy
  conflict := winOff
  hw := winUnusable
  run := fun s c q => s.expQueue c q (.erase (field q.params 0 4) (field q.params 4 1)) }

/-- WIN_ERASE (R624, R698, R703). -/
def execWinErase (t : Instant) (q : Request) (s : State) : Result := run t (fun s => s.perform hWinErase q) s

def hSpiXfer : Handler := {
  op := 0x0604, least := 2, len := fun b => 4 ≤ b.length && b.length = 4 + 4 * field b 2 1
  range := fun s c q =>
    let sel := field q.params 0 1
    let n := field q.params 1 1
    let k := field q.params 2 1
    if sel > (if (s.ctl c).exp.decoded then 7 else 1) then some { status := 0x0303, off := 0 }
    else if n < 4 ∨ n > 32 then some { status := 0x0303, off := 1 }
    else if k < 1 ∨ k > 200 then some { status := 0x0303, off := 2 }
    else none
  conflict := fun s c q =>
    let x := (s.ctl c).exp
    if x.winEn ∧ field q.params 0 1 = x.winSel then some { status := 0x0401 } else none
  run := fun s c q =>
    let n := field q.params 1 1
    let l := (List.range (field q.params 2 1)).map fun i => field q.params (4 + 4 * i) 4 % 2 ^ n
    s.expQueue c q (.xfer (field q.params 0 1) n l) }

/-- SPI_XFER (R624, R690). -/
def execSpiXfer (t : Instant) (q : Request) (s : State) : Result := run t (fun s => s.perform hSpiXfer q) s

/-! Events. -/

/-- SPI_TRANSACTION_END (R690, R691, R694, R698): the select is released. `rx` holds what MISO read at the sampling instants, first bit first. -/
def execSpiTransactionEnd (t : Instant) (c : Ctl) (rx : Bytes) (s : State) : Result :=
  run t (fun s =>
    let x := (s.ctl c).exp
    match x.tx with
    | none => s
    | some (tx, o) => when ((s.ctl c).running && decide (tx.release ≤ s.now)) (fun s =>
        let s := s.modExp c fun y => y.released tx.sel s.now
        match o.kind, o.st with
        | .read a n, _ => (s.expAnswer c o 0 0 (be 4 a ++ be 2 n ++ zeros 2 ++ be n (misoBits rx x.readHead (8 * n)))).expNext c
        | .xfer _ n l, _ => (s.expAnswer c o 0 0 (wordsIn n l.length rx)).expNext c
        | _, .queued => s.modExp c fun y => y.modOp o { o with st := .enabled }
        | _, _ =>
          let o' := { o with st := .polling, relAt := s.now, pollAt := s.now + x.items.val 0x0906 0 * usec }
          (s.modExp c fun y => { y.modOp o o' with busy := true }).expNext c) s) s

/-- WIN_POLL (R698, R707). -/
def execWinPoll (t : Instant) (c : Ctl) (status : Nat) (s : State) : Result :=
  run t (fun s => when (s.ctl c).running (fun s => s.winStatus c status) s) s

/-- WIN_TIMEOUT (R699): busy at the poll that follows the time-out. -/
def execWinTimeout (t : Instant) (c : Ctl) (status : Nat) (s : State) : Result :=
  run t (fun s =>
    let x := (s.ctl c).exp
    let start := (x.shortTx [0x05] 16 s.now).start
    match x.queue with
    | [] => s
    | o :: _ => when ((s.ctl c).running && o.st = .polling && bit status 0 && decide (o.relAt + x.timeout o.kind ≤ start)) (fun s => s.winStatus c status) s) s

/-- WIN_PROBE (R702, R708), taken at the end of its last read (log entry 79). -/
def execWinProbe (t : Instant) (c : Ctl) (p : ProbeIn) (s : State) : Result :=
  run t (fun s =>
    let x := (s.ctl c).exp
    let waiting : Bool := match x.queue with
      | o :: _ => o.kind.window && o.st = .queued
      | [] => false
    let auto := bit (x.param 0 1) 0
    let sfdp := x.shortTx [0x5A, 0, 0, 0] 104 s.now
    let id := x.shortTx [0x9F] 32 (if auto then sfdp.start - 100 else s.now)
    when ((s.ctl c).running && x.fitsShort id s.now && !x.wait && (x.probe || (x.absent && waiting))) (fun s =>
      let s := (s.emit (.spi c id)).modExp c fun y => y.released id.sel s.now
      if p.jedec = 0 ∨ p.jedec = 0xFFFFFF then
        let s := (s.modExp c fun y => { y with probe := false, absent := true, table := none, sfdp := false, absAl := true }).expAlarm c 0x0D01 x.absAl true
        match x.queue with
        | o :: _ => if waiting then (s.expFail c o).expNext c else s
        | [] => s
      else
        let s := if auto then s.emit (.spi c sfdp) else s
        let found := auto && p.sfdp
        let page := p.page.getD (x.param 1 1)
        let bad := found && (p.four || decide (page < 6) || decide (9 < page))
        let s := s.modExp c fun y => { y with
          probe := false, absent := false, jedec := p.jedec, sfdp := found, absAl := false, fault := x.fault && p.busy, busy := p.busy, unsupp := bad
          table := if found ∧ ¬bad then some (page, p.density, p.erase % 8 ||| (x.param 12 1 &&& 8)) else none }
        let s := ((s.expAlarm c 0x0D01 x.absAl false).expAlarm c 0x0D02 x.fault (x.fault && p.busy)).expAlarm c 0x0D03 x.unsupp bad
        (if bad then s.expFailAll c else s).expNext c) s) s

/-- The 3V3 supply of X40 is present (R686). -/
def State.expPowered (s : State) : Bool := s.ctlA.powered || s.ctlB.powered

/-- EXP_SUPPLY (R686, R708): at the 200 mA limit for 100 ms. -/
def execExpSupply (t : Instant) (ma : Nat) (s : State) : Result :=
  run t (fun s =>
    when (s.expPowered && !s.expOver) (fun s =>
      let since := s.track (decide (200 ≤ ma)) s.expSince
      let is := s.held since (100 * msec)
      let s := { s with expOver := is, expSince := if is then none else since }
      if is then s.alarmUnit 0x0D04 0 true s.lead.code 0 1 ma 200 else s) s) s

/-- EXP_SUPPLY_CLEARED (R708): below the limit for 1 s. -/
def execExpSupplyCleared (t : Instant) (ma : Nat) (s : State) : Result :=
  run t (fun s =>
    when s.expOver (fun s =>
      let since := s.track (decide (ma < 200)) s.expSince
      let clear := s.held since sec
      let s := { s with expOver := !clear, expSince := if clear then none else since }
      if clear then s.alarmUnit 0x0D04 0 false s.lead.code 1 0 ma 200 else s) s) s

end Sys2Proof.Machine
end

