-- ==== Sys2Proof/Machine/Registers.lean ====
section
/-!
DEFINITION. Machine/Registers.lean: the register map (chapter 15): which addresses are mapped, their access classes, and the words they read.
-/
namespace Sys2Proof.Machine

/-! Addresses. -/

/-- Access classes of R644, a shadowed register with the channel concerned, 0 for none; a reserved word of a mapped range is RO (R645). -/
inductive RegClass where
  | ro | rc | sh (chan : Nat) | dw
deriving DecidableEq, Repr

/-- What an address names: an offset of the controller space, of a cartridge's common block, of a channel block, of the GNSS baseband space, or of
the expansion space (R642, R643). -/
inductive RegAddr where
  | ctrl (off : Nat)
  | cart (k : Slot) (off : Nat)
  | chan (c : Ch) (off : Nat)
  | gnss (off : Nat)
  | exp (off : Nat)
deriving DecidableEq, Repr

/-- The register at an address; none where it is not mapped or not word-aligned (R642). -/
def regAddr (a : Nat) : Option RegAddr :=
  let space := a / 0x10000
  let off := a % 0x10000
  if a % 4 ≠ 0 then none
  else if space = 0 then (if off < 0x100 then some (.ctrl off) else none)
  else if h : 1 ≤ space ∧ space ≤ 4 then
    let k : Slot := ⟨space - 1, by omega⟩
    if off < 0x100 then some (.cart k off)
    else if h2 : off < 0x500 ∧ 0x100 ≤ off then some (.chan (chOf k ⟨off / 0x100 - 1, by omega⟩) (off % 0x100))
    else none
  else if space = 8 then (if off < 0xC0 then some (.gnss off) else none)
  else if space = 9 then (if off < 0x100 then some (.exp off) else none)
  else none

/-- Class of a register (R644, R653, R654, R657, R661, R663). -/
def RegAddr.cls : RegAddr → RegClass
  | .ctrl off =>
    if off = 0xD0 then .dw
    else if off = 0xA4 ∨ (0xC0 ≤ off ∧ off ≤ 0xCC) ∨ off = 0xD8 ∨ off = 0xDC then .rc else .ro
  | .cart _ off => if off = 0x58 then .dw else if off = 0x54 then .rc else if 0x3C ≤ off ∧ off ≤ 0x4C then .sh 0 else .ro
  | .chan c off => if (0x04 ≤ off ∧ off ≤ 0x1C) ∨ (0x28 ≤ off ∧ off ≤ 0xA0) then .sh (numOf c) else if off = 0x20 ∨ off = 0xBC then .rc else .ro
  | .gnss off => if off = 0x04 then .dw else if off = 0x24 then .rc else .ro
  | .exp off => if off ≤ 0x14 then .sh 0 else if off = 0x20 then .rc else .ro

/-- The cartridge that an access must reach. -/
def RegAddr.slot : RegAddr → Option Slot
  | .cart k _ => some k
  | .chan c _ => some (slotOf c)
  | _ => none

/-! Words. -/

/-- A signed number in 16 bits. -/
def s16 (v : Int) : Nat := (v % 65536).toNat

/-- A signed number in 32 bits. -/
def s32 (v : Int) : Nat := (v % (2 ^ 32 : Nat)).toNat

/-- Two halves of a word. -/
def halves (low high : Nat) : Nat := low % 65536 ||| ((high % 65536) <<< 16)

/-- CLINKs (R653). -/
def State.clink (s : State) (c : Ctl) (k : Slot) : Nat :=
  let y := (s.ctl c).seen[k]
  let up : Bool := (s.cart k).powered && !s.held y.at_ (100 * usec) && y.at_.isSome
  b2n up ||| (b2n up <<< 1) ||| (b2n (up && y.holder = some c) <<< 2) ||| (b2n (up && y.holder = some c.other) <<< 3)

/-- A byte of LOOP_FLAGS (R653). -/
def LoopStage.flags (x : LoopStage) (now : Instant) : Nat :=
  b2n (x.compl ≠ .none) ||| (b2n (x.compl = .lowSupply) <<< 1) ||| (b2n (x.sinkAt now ≠ 0) <<< 2) ||| (b2n x.fault <<< 3)

/-- A word of the controller space (R653, R680). -/
def State.ctrlWord (s : State) (c : Ctl) (off : Nat) : Nat :=
  let x := s.ctl c
  let u := ((s.utime c) % (2 ^ 64 : Nat)).toNat
  let loop := fun (q : Quad) => (s.loop q).stages[c.ix]
  if off = 0x00 then c.code ||| (x.issue <<< 8)
  else if off = 0x04 then halves x.line x.schema
  else if off = 0x08 then x.minor % 65536 ||| (b2n x.imgB <<< 16)
  else if off = 0x0C then x.build
  else if off = 0x10 then
    x.role.code ||| (s.unitMode.code <<< 4) ||| (x.cause <<< 8) ||| (b2n s.linkUp <<< 16) ||| (b2n s.s50 <<< 17) ||| (b2n x.directWrite <<< 18)
  else if off = 0x14 then x.mram.epoch
  else if off = 0x18 then x.mram.last % 2 ^ 32
  else if off = 0x1C then x.mram.slots.length ||| ((x.mram.slots.filter (·.sched)).length <<< 8)
  else if off = 0x20 then u / 2 ^ 32
  else if off = 0x24 then x.utimeLo.getD (u % 2 ^ 32)
  else if off = 0x28 then x.time.st.code ||| (x.time.src <<< 4) ||| (s16 x.time.tai <<< 16)
  else if off = 0x2C then s32 x.time.resid
  else if off = 0x30 then x.time.nCal ||| (b2n x.time.dlyFault <<< 8)
  else if off = 0x34 then s32 x.time.tcxoDev
  else if off = 0x40 then halves x.sup.logicMv[0].toNat x.sup.logicMv[1].toNat
  else if off = 0x44 then x.sup.logicSt[0] ||| (x.sup.logicSt[1] <<< 2) ||| (satU 16 x.sup.holdup <<< 16)
  else if off = 0x48 then x.sup.cell.code ||| (x.sup.loadTest <<< 3) ||| (satU 16 x.sup.cellMv.toNat <<< 16)
  else if off = 0x4C then halves (s16 x.sup.ctrlDie) (s16 x.sup.ctrlBoard)
  else if off = 0x50 then (s.cool.fans[0]).st.code ||| ((s.cool.fans[1]).st.code <<< 3) ||| (s.cool.duty <<< 8) ||| (s.cool.step <<< 16)
  else if off = 0x54 then halves (s.cool.fans[0]).rpm (s.cool.fans[1]).rpm
  else if off = 0x58 then halves (s16 s.cool.inlet[0]) (s16 s.cool.inlet[1])
  else if h : 0x60 ≤ off ∧ off ≤ 0x6C then
    let st := loop ⟨(off - 0x60) / 4, by omega⟩
    halves st.cmd (st.measAt s.now)
  else if off = 0x70 then (allQuads.map fun q => (loop q).flags s.now <<< (8 * q.val)).sum
  else if h : 0x80 ≤ off ∧ off ≤ 0x8C then
    let y := s.tach ⟨(off - 0x80) / 4, by omega⟩
    satU 16 y.freq ||| (y.st.code <<< 16) ||| (b2n y.above <<< 19)
  else if off = 0xA0 then b2n (x.lanes[0]).up ||| (b2n (x.lanes[1]).up <<< 1) ||| (min 255 x.missed <<< 8)
  else if off = 0xA4 then x.pairErr
  else if h : 0xB0 ≤ off ∧ off ≤ 0xBC then s.clink c ⟨(off - 0xB0) / 4, by omega⟩
  else if h : 0xC0 ≤ off ∧ off ≤ 0xCC then x.linkErr[(off - 0xC0) / 4]
  else if off = 0xD0 then b2n x.scrubEn
  else if off = 0xD4 then halves (match x.scrubAt with
    | some t => satU 16 (s.since t / (60 * sec))
    | none => 0) x.scrubs
  else if off = 0xD8 then x.mramCe
  else if off = 0xDC then x.sramCe
  else if off = 0xE0 then satU 16 x.activeAlarms.length
  else if off = 0xF0 then ((x.mram.log.recs.getLast?).map (·.index)).getD 0xFFFFFFFF
  else if off = 0xF4 then x.mram.log.losses
  else 0

/-- The class of a line in INPUTS (R822, R654): a declared line fault, else the accepted contact state, open before the first is accepted. -/
def Line.cls (x : Line) : Nat := x.fault.getD (b2n (x.closed.getD false))

/-- INPUTS (R654). -/
def Cart.inputs (x : Cart) : Nat :=
  let l := x.lh.toList ++ x.flt.toList.map (·.line)
  ((List.range 10).map fun i => ((l[i]?.map Line.cls).getD 0) <<< (2 * i)).sum

/-- CART_STAT (R654). -/
def State.cartStat (s : State) (k : Slot) : Nat :=
  let x := s.cart k
  let band := if x.ovOff then 5 else x.band.code
  (match x.holder with
   | some .a => 1
   | some .b => 2
   | none => 0) ||| (b2n x.armedBy.isSome <<< 2) ||| (b2n x.removing <<< 3) ||| (b2n x.left <<< 4) ||| (b2n x.lever <<< 5) ||| (b2n x.frozen <<< 6) |||
  (b2n ((chansOf k).any fun ch => (s.chan ch).ctrl.insHold.isSome) <<< 7) ||| (band <<< 8) ||| (b2n (x.epoch = 0xFFFFFFFF) <<< 11) |||
  (b2n (x.oring.toList.any id) <<< 12) ||| (b2n x.oscBad <<< 13)

/-- A word of a cartridge's common block (R654, R681). -/
def State.cartWord (s : State) (k : Slot) (off : Nat) : Nat :=
  let x := s.cart k
  if off = 0x00 then (k.val + 1) ||| (x.issue <<< 8)
  else if off = 0x04 ∨ off = 0x08 ∨ off = 0x0C then field x.serial (off - 4) 4
  else if off = 0x10 then s.cartStat k
  else if off = 0x14 then x.epoch
  else if off = 0x18 then x.imgJsn
  else if off = 0x1C then x.digest
  else if off = 0x20 then x.inputs
  else if off = 0x24 then x.busMv.toNat % 65536
  else if off = 0x28 then halves x.feedMv[0].toNat x.feedMv[1].toNat
  else if off = 0x2C then s32 x.branchMa[0]
  else if off = 0x30 then s32 x.branchMa[1]
  else if off = 0x34 then halves (s16 x.tMeas) (s16 x.tAir)
  else if off = 0x38 then s32 x.osc
  else if off = 0x3C then x.items.cart 0x0701 (k.val + 1)
  else if h : 0x40 ≤ off ∧ off ≤ 0x4C then (x.at_[(off - 0x40) / 4]).sel
  else if off = 0x50 then halves x.cone.length (min 65535 x.coneLost.toList.sum)
  else if off = 0x54 then halves x.linkErr[0] x.linkErr[1]
  else 0

/-- CH_SET (R657). -/
def Chan.setWord (x : Chan) : Nat :=
  let half : Bool := decide (x.ctrl.mark ≠ 0)
  let pair := if 1 ≤ x.ctrl.mark ∧ x.ctrl.mark ≤ 8 then x.ctrl.mark else 0
  x.set.level.code % 4 ||| (b2n (x.set.share = 1) <<< 8) ||| (bits x.set.trim 0 10 <<< 16) ||| (pair <<< 26) ||| (b2n x.ctrl.markHigh <<< 30) |||
  (b2n half <<< 31)

/-- The period and on-time that PWM_PER and PWM_CMPA read (R659): the phase's in a chopping phase, else the active copy. -/
def State.runningPwm (s : State) (c : Ch) : Nat × Nat :=
  let x := s.chan c
  if (x.stage.phase = .hold ∧ x.stage.profile = 4 ∧ x.ctrl.level = .on) ∨ x.ctrl.ramp.isSome then s.waveform c x.gen.perAt else (x.gen.act.per, x.gen.act.cmpa)

/-- PWM_STAT (R329). -/
def Gen.statWord (g : Gen) : Nat :=
  b2n g.clamped ||| (b2n g.dlyFault <<< 1) ||| (b2n g.fwGate <<< 2) ||| (b2n g.governs <<< 3) ||| (b2n g.waiting <<< 4) |||
  (min 255 g.dtCeil <<< 8) ||| (min 255 g.fwSkip <<< 16) ||| (g.nCal <<< 24)

/-- The configuration words of a channel block (R657), from the items in the cartridge. -/
def State.itemWord (s : State) (c : Ch) (off : Nat) : Nat :=
  let v := fun id => s.chItem c id
  if off = 0x28 then v 0x011E % 8 ||| (v 0x011F <<< 4)
  else if off = 0x2C then v 0x0101 % 8 ||| ((v 0x0103 % 2) <<< 3) ||| ((v 0x0104 % 2) <<< 4) ||| ((v 0x011B % 4) <<< 5) ||| ((v 0x0102 % 128) <<< 8)
  else if off = 0x30 then halves (v 0x0106) (v 0x0107)
  else if off = 0x34 then halves (v 0x0108) (v 0x010A)
  else if off = 0x38 then v 0x0109 % 256 ||| ((v 0x010E % 256) <<< 8) ||| ((v 0x0111 % 256) <<< 16) ||| ((v 0x0105 % 256) <<< 24)
  else if off = 0x3C then halves (v 0x010B) (v 0x010C)
  else if off = 0x40 then halves (v 0x010D) (v 0x010F)
  else if off = 0x44 then halves (v 0x0110) (v 0x011A)
  else if off = 0x48 then halves (v 0x0112) (v 0x0113)
  else if off = 0x4C then halves (v 0x0114) (v 0x0115)
  else if off = 0x50 then v 0x0116 % 4 ||| ((v 0x0117 % 16) <<< 4) ||| ((v 0x0119 % 256) <<< 8) ||| ((v 0x0118 % 65536) <<< 16)
  else if off = 0x54 then v 0x0120 % 4 ||| ((v 0x0122 % 1024) <<< 2) ||| ((v 0x0121 % 1024) <<< 16)
  else if off = 0x58 then v 0x0125 % 8
  else if off = 0x5C then v 0x0124 / 2 ^ 32
  else if off = 0x60 then v 0x0124 % 2 ^ 32
  else bits (v 0x0123) (32 * (15 - (off - 0x64) / 4)) 32

/-- ms until the pending attempt is due, rounded up (R657). -/
def State.retryMs (s : State) (c : Ch) : Nat :=
  let p := (s.chan c).prot
  if p.trip = .tripped then min 0xFFFFFFFE ((p.tripAt + p.interval - s.now + msec - 1) / msec) else 0xFFFFFFFF

/-- s since the last accepted visit (R657). -/
def State.visitAge (s : State) (p : Path) : Nat :=
  match p.visitAt with
  | some t => min 0xFFFFFFFE (s.since t / sec)
  | none => 0xFFFFFFFF

/-- The gain in use at a temperature, in 2^−30 (R372, R657). -/
def Path.gainWord (p : Path) (t : DeciDeg) : Nat := ((p.gainAt t).toNat * 2 ^ 30 / 1000000) % 2 ^ 32

/-- A word of a channel block (R657, R658, R665, R666); `free` stands for the comparators of GATE_MON, whose present states are not held. -/
def State.chanWord (s : State) (c : Ch) (off free : Nat) : Nat :=
  let x := s.chan c
  let k := s.cart (slotOf c)
  let cur := fun (i : Option Int) => (i.map s32).getD 0x80000000
  if off = 0x00 then s.word c
  else if off = 0x04 then x.setWord
  else if off = 0x08 then (s.runningPwm c).1
  else if off = 0x0C then (s.runningPwm c).2
  else if off = 0x10 then x.gen.act.trga
  else if off = 0x14 then x.gen.act.trgb
  else if off = 0x18 then x.gen.act.phase
  else if off = 0x1C then b2n x.gen.act.centre ||| (b2n x.gen.act.static <<< 1) ||| (b2n x.gen.act.en <<< 2)
  else if off = 0x20 then x.gen.statWord
  else if off = 0x24 then x.gen.calLast ||| (b2n x.gen.calOk <<< 8) ||| ((x.gen.tap % 128) <<< 16)
  else if 0x28 ≤ off ∧ off ≤ 0xA0 then s.itemWord c off
  else if off = 0xA4 then
    satU 16 (x.prot.x / 2 ^ 46) ||| (min 15 x.prot.n <<< 16) |||
      ((match x.prot.trip with
        | .none => 0
        | .tripped => 1
        | .locked => 2) <<< 20) ||| (bits x.prot.tripCause 0 8 <<< 24)
  else if off = 0xA8 then s.retryMs c
  else if off = 0xAC then b2n x.stage.fwd ||| (b2n x.stage.ser <<< 1) ||| (b2n x.stage.fw <<< 2) ||| ((free % 32) <<< 3)
  else if off = 0xB0 then cur x.meas.i1
  else if off = 0xB4 then cur x.meas.i2
  else if off = 0xB8 then s32 (x.meas.avg1ms.volt / 1000)
  else if off = 0xBC then
    b2n x.meas.avg1ms.sat1 ||| (b2n x.meas.avg1ms.sat2 <<< 1) ||| (b2n (k.visit = some (posOf c).val) <<< 2) |||
      (b2n (k.visit = some (posOf c).val && k.proofOn s.now) <<< 3) ||| (min 255 x.meas.p1.rejected <<< 8) ||| (min 255 x.meas.p2.rejected <<< 16)
  else if off = 0xC0 then x.meas.p1.gainWord k.tMeas
  else if off = 0xC4 then x.meas.p2.gainWord k.tMeas
  else if off = 0xC8 then s32 (x.meas.p1.offset * 1000)
  else if off = 0xCC then s32 (x.meas.p2.offset * 1000)
  else if off = 0xD0 then s.visitAge x.meas.p1
  else if off = 0xD4 then s.visitAge x.meas.p2
  else if off = 0xD8 then halves (s16 x.prot.fwdT) (s16 x.prot.fwT)
  else if off = 0xDC then x.meas.energy / 2 ^ 32
  else if off = 0xE0 then x.meas.energyLo.getD (x.meas.energy % 2 ^ 32)
  else 0

/-- A word of TRKt (R661). -/
def Trk.word (k : Trk) : Nat :=
  match k.sat with
  | none => 0
  | some sat =>
    let st := if k.l1.lock ∧ k.l5.lock then 3 else if k.l1.lock then 2 else 1
    sat % 128 ||| (st <<< 8) ||| (satU 8 (k.l1.cn0 / 100) <<< 16) ||| (satU 8 (k.l5.cn0 / 100) <<< 24)

/-- A word of NOTCHk (R661). -/
def Notch.word (n : Notch) : Nat := if n.on then s16 n.khz ||| (min 255 n.depth <<< 16) ||| (1 <<< 31) else 0

/-- A word of the GNSS baseband space (R661, R662). -/
def State.gnssWord (s : State) (c : Ctl) (off : Nat) : Nat :=
  let g := (s.ctl c).gnss
  if off = 0x00 then
    Config.basebandVersion % 65536 ||| ((if s.ant.card then Config.partIssue 10 % 256 else 0) <<< 16) ||| (b2n (s.ant.card && !g.cardBad) <<< 24)
  else if off = 0x04 then b2n g.l1.en ||| (b2n g.l5.en <<< 1)
  else if ¬s.ant.card then 0
  else if off = 0x08 then
    g.fix.code ||| (satU 8 g.fix.sats <<< 8) ||| (b2n g.checkBad <<< 16) ||| (b2n s.ant.open_ <<< 17) ||| (b2n s.ant.short <<< 18) |||
      (b2n g.snapRun.isSome <<< 19)
  else if off = 0x0C then g.l1.jam ||| (g.l5.jam <<< 8)
  else if off = 0x10 then g.l1.n0.word
  else if off = 0x14 then g.l1.n1.word
  else if off = 0x18 then g.l5.n0.word
  else if off = 0x1C then g.l5.n1.word
  else if off = 0x20 then g.l1.agc % 256 ||| ((g.l5.agc % 256) <<< 8)
  else if off = 0x24 then g.sampleErr
  else if off = 0x28 then satU 16 s.ant.ma
  else if h : 0x40 ≤ off ∧ off < 0xC0 then (g.trk[(off - 0x40) / 4]).word
  else 0

/-- A word of the expansion space (R663, R664). -/
def Ctlr.expWord (x : Ctlr) (off : Nat) : Nat :=
  let v := fun id => x.mram.items.val id 0
  let e := x.exp
  if off = 0x00 then v 0x0901 ||| (v 0x0902 <<< 1) ||| (v 0x0903 <<< 8) ||| (v 0x0904 <<< 16) ||| (v 0x0905 <<< 24)
  else if off = 0x04 then v 0x0906
  else if 0x08 ≤ off ∧ off ≤ 0x14 then bits (v 0x0907) (32 * (3 - (off - 0x08) / 4)) 32
  else if off = 0x18 then
    b2n e.tx.isSome ||| ((e.queue.filter fun o => o.kind.slow).length <<< 1) ||| (b2n e.busy <<< 5) ||| (b2n e.sfdp <<< 6) ||| (b2n e.absent <<< 7)
  else if off = 0x1C then e.jedec
  else if off = 0x20 then e.tmo
  else 0

/-! Reads. -/

/-- What a read of the controller space clears and latches (R646, R651). -/
def Ctlr.clearRead (x : Ctlr) (off : Nat) (u : Nat) : Ctlr :=
  if off = 0x20 then { x with utimeLo := some (u % 2 ^ 32) }
  else if off = 0xA4 then { x with pairErr := 0 }
  else if h : 0xC0 ≤ off ∧ off ≤ 0xCC then { x with linkErr := x.linkErr.set ((off - 0xC0) / 4) 0 }
  else if off = 0xD8 then { x with mramCe := 0 }
  else if off = 0xDC then { x with sramCe := 0 }
  else x

/-- What a read of a channel block clears and latches (R646, R651, R657). -/
def Chan.clearRead (x : Chan) (off : Nat) : Chan :=
  if off = 0x20 then { x with gen := { x.gen with dtCeil := 0, fwSkip := 0 } }
  else if off = 0xBC then { x with meas := { x.meas with p1 := { x.meas.p1 with rejected := 0 }, p2 := { x.meas.p2 with rejected := 0 } } }
  else if off = 0xDC then { x with meas := { x.meas with energyLo := some (x.meas.energy % 2 ^ 32) } }
  else x

/-- One word read through REG_READ, with what the read clears and latches (R646, R651). -/
def State.readReg (s : State) (c : Ctl) : RegAddr → Nat × State
  | .ctrl off => (s.ctrlWord c off, s.modCtl c fun x => x.clearRead off ((s.utime c) % (2 ^ 64 : Nat)).toNat)
  | .cart k off => (s.cartWord k off, if off = 0x54 then s.modCart k fun x => { x with linkErr := Vector.replicate 2 0 } else s)
  | .chan ch off =>
    let (v, s') := if off = 0xAC then s.draw else (0, s)
    (s'.chanWord ch off v, s'.modChan ch fun x => x.clearRead off)
  | .gnss off => (s.gnssWord c off, if off = 0x24 then s.modGnss c fun g => { g with sampleErr := 0 } else s)
  | .exp off => ((s.ctl c).expWord off, if off = 0x20 then s.modExp c fun e => { e with tmo := 0 } else s)

/-- Words read one after another. -/
def State.readRegs (s : State) (c : Ctl) : List RegAddr → Bytes × State
  | [] => ([], s)
  | a :: l =>
    let (v, s) := s.readReg c a
    let (b, s) := s.readRegs c l
    (be 4 v ++ b, s)

end Sys2Proof.Machine
end

