-- ==== Sys2Proof/Machine/RegCmds.lean ====
section
/-!
DEFINITION. Machine/RegCmds.lean: the register access group, opcodes 0x08xx (R629, R630, R648 to R650, R674 to R677), and what writing a DW register
does (R653, R655, R656, R661, R672, R673).
-/
namespace Sys2Proof.Machine

/-! REG_READ. -/

/-- The registers of a REG_READ, where every address is mapped and word-aligned. -/
def regsOf (a n : Nat) : Option (List RegAddr) := (List.range n).mapM fun i => regAddr (a + 4 * i)

/-- STALE_REG (R679): a word whose source, the housekeeping round, has not updated it for 300 ms reads its last value, logged once with its address
when it is read (DESIGN CHOICE, log entry 78). -/
def State.staleCheck (s : State) (c : Ctl) (a : Nat) : State :=
  let old : Bool := decide (s.cool.roundAt + (300 * msec : Nat) < s.utime s.lead)
  if 0x40 ≤ a ∧ a ≤ 0x58 ∧ old ∧ a ∉ (s.ctl c).stale then
    (s.logEv c 0x000B 0 c.code 0 (stdBody 0 0 a)).modCtl c fun x => { x with stale := x.stale ++ [a] }
  else s

/-- RANGE of an address (R630, R674) and of a count (R635). -/
def regReadRange : Check := fun _ _ q =>
  let a := field q.params 0 4
  let n := field q.params 4 1
  if (regAddr a).isNone then some { status := 0x0303, off := 0 }
  else if n < 1 ∨ n > 64 then some { status := 0x0303, off := 4 }
  else if (regsOf a n).isNone then some { status := 0x0303, off := 0 }
  else none

def hRegRead : Handler := {
  op := 0x0801, least := 2, own := fun _ _ q => field q.params 0 4 / 0x10000 ≠ 9, len := exactly 8
  range := regReadRange
  hw := fun s _ q => match (regAddr (field q.params 0 4)).bind (·.slot) with
    | some k => if (s.cart k).powered then none else some { status := 0x0501, detail := 17 }
    | none => none
  run := fun s c q =>
    let a := field q.params 0 4
    let n := field q.params 4 1
    let (words, s) := s.readRegs c ((regsOf a n).getD [])
    let s := overList (List.range n) (fun i s => s.staleCheck c (a + 4 * i)) s
    .done (be 4 a ++ be 1 n ++ zeros 3 ++ words) s }

/-- REG_READ (R629, R646, R648, R674). -/
def execRegRead (t : Instant) (q : Request) (s : State) : Result := run t (fun s => s.perform hRegRead q) s

/-! Direct writes. -/

/-- SCRUB_CTRL of a controller written (R653, R672, R678): SCRUB_NOW starts a pass from the first address. -/
def State.setScrub (s : State) (c : Ctl) (en now : Bool) : State :=
  (s.modCtl c fun x => x.setScrub s.now en now).directAlarm c

/-- CART_TEST written (R655, R656, R678): an OLTEST_NOW bit makes the off-state test of its position due where it may run, HS_SELFTEST_NOW makes
the comparator self-test due; during debug halt nothing follows. -/
def State.setCartTest (s : State) (k : Slot) (w : Nat) : State :=
  if (s.cart k).frozen then s
  else
    let s := overList (chansOf k) (fun c s =>
      if bit w (posOf c).val ∧ s.offTestable c then s.modStage c fun g => { g with testAt := s.now } else s) s
    if bit w 4 then s.modCart k fun x => { x with hsTested := false } else s

/-- The word a DW register holds. -/
def State.dwWord (s : State) (c : Ctl) : RegAddr → Nat
  | .ctrl off => s.ctrlWord c off
  | .gnss off => s.gnssWord c off
  | _ => 0

/-- A DW register written, reserved bits without effect (R9, R667). -/
def State.dwWrite (s : State) (c : Ctl) (a : RegAddr) (w : Nat) : State :=
  match a with
  | .ctrl _ => s.setScrub c (bit w 0) (bit w 1)
  | .gnss _ => (s.setNotch c .l1 (bit w 0)).setNotch c .l5 (bit w 1)
  | .cart k _ => s.setCartTest k w
  | _ => s

/-! REG_WRITE. -/

/-- The word at an address, as far as it can be read, without what a REG_READ of it clears. -/
def State.peekReg (s : State) (c : Ctl) (a : Nat) : Nat :=
  match regAddr a with
  | some r => if r.slot.all fun k => (s.cart k).powered then (s.readReg c r).1 else 0
  | none => 0

/-- The REG_WRITE record (R630, R801). -/
def State.regRecord (s : State) (c : Ctl) (q : Request) (word : Nat) : State :=
  s.logUnit 0x0A03 0 c.code 0 (slice q.params 0 12 ++ be 4 word ++ be 1 q.client.val)

def hRegWrite : Handler := {
  op := 0x0802, least := 3, len := exactly 12
  range := fun _ _ q => match (regAddr (field q.params 0 4)).map RegAddr.cls with
    | some RegClass.dw => none
    | some (RegClass.sh _) => none
    | _ => some { status := 0x0303, off := 0 }
  conflict := fun _ _ q => match (regAddr (field q.params 0 4)).map RegAddr.cls with
    -- R644, R665; a half of a twin too (R395)
    | some (RegClass.sh ch) => some { status := 0x0401, detail := 30, chan := ch, off := 0 }
    | _ => none
  hw := fun s c q => match (regAddr (field q.params 0 4)).bind (·.slot) with
    | some k => if (s.cart k).powered ∧ s.holds c k then none else some { status := 0x0501, detail := 17 }
    | none => none
  refused := fun s c q r =>
    if r.status = 0x0303 ∨ r.status = 0x0401 ∨ r.status = 0x0501 then s.regRecord c q (s.peekReg c (field q.params 0 4)) else s
  run := fun s c q =>
    match regAddr (field q.params 0 4) with
    | none => .quiet s
    | some a =>
      let mask := field q.params 4 4
      let word := (s.dwWord c a &&& (mask ^^^ 0xFFFFFFFF)) ||| (field q.params 8 4 &&& mask)
      let s := s.dwWrite c a word
      let after := s.dwWord c a
      .done (be 4 after) (s.regRecord c q after) }

/-- REG_WRITE (R630, R644, R669, R675, R677). -/
def execRegWrite (t : Instant) (q : Request) (s : State) : Result := run t (fun s => s.perform hRegWrite q) s

/-! The fields of the DW registers. -/

/-- SCRUB_EN (R653, R672): of the ACTIVE controller only. -/
def execScrubEn (t : Instant) (c : Ctl) (on : Bool) (s : State) : Result :=
  run t (fun s => when ((s.ctl c).running && (s.ctl c).role = .active) (fun s => s.setScrub c on false) s) s

/-- SCRUB_NOW (R647, R653, R678). -/
def execScrubNow (t : Instant) (c : Ctl) (s : State) : Result :=
  run t (fun s => when ((s.ctl c).running && (s.ctl c).role = .active) (fun s => s.setScrub c (s.ctl c).scrubEn true) s) s

/-- HS_SELFTEST_NOW (R282, R656): the comparator self-test on all four channels, due by the bit or by a claim; a position whose two comparators
disagree has HS_SELFTEST. -/
def execHsSelftestNow (t : Instant) (k : Slot) (shunt mirror : BitVec 4) (s : State) : Result :=
  run t (fun s =>
    when ((s.cart k).powered && !(s.cart k).frozen && (s.cart k).holder.isSome) (fun s =>
      let s := s.modCart k fun x => { x with hsTested := true }
      overList (chansOf k) (fun c s =>
        let bad := shunt.getLsb (posOf c) != mirror.getLsb (posOf c)
        let was := (s.chan c).prot.hsFail
        (s.modProt c fun p => { p with hsFail := bad }).chanFlag c 0x020D was bad) s) s) s

end Sys2Proof.Machine
end

