-- ==== Sys2Proof/Machine/Alarms.lean ====
section
/-!
DEFINITION. Machine/Alarms.lean: the alarms of a controller that has just become ACTIVE (R934): every condition it finds, with the onset that the
log has of it.
-/
namespace Sys2Proof.Machine

/-- A condition that an alarm reports. `stands` is none where the state of the part does not tell, and what the log says holds. -/
structure Cond where
  /-- Event code of the onset. -/
  code   : Nat
  /-- Index of R616. -/
  index  : Nat
  /-- Source of the record. -/
  source : Nat
  /-- The condition is found, or found to be gone. -/
  stands : Option Bool
  /-- Serial number of the part. -/
  serial : Bytes := spaces12
deriving DecidableEq, Repr

/-! The onsets that a log holds without a clearing. -/

/-- An onset in a log: event code, index, and the path that PATH_FAIL records beside (R1000). -/
abbrev OnsetKey := Nat × Nat × Nat

/-- The key of an onset or a clearing; TRIP_CLEARED is the clearing of TRIP. -/
def LogRec.onsetKey (r : LogRec) : OnsetKey :=
  (if r.code = 0x0203 then 0x0202 else r.code, r.object, if r.code = 0x0603 then field r.body 8 4 else 0)

/-- The onsets that stand after one more record. -/
def LogRec.onsetsAfter (l : List (OnsetKey × UnitTime)) (r : LogRec) : List (OnsetKey × UnitTime) :=
  let key := r.onsetKey
  if bit r.flags 1 then (if l.any (·.1 = key) then l else l ++ [(key, r.time)])
  else if bit r.flags 2 then l.filter fun o => o.1 ≠ key
  else l

/-- The onsets of a log that no clearing has followed. -/
def Log.onsets (l : Log) : List (OnsetKey × UnitTime) := (l.recs ++ l.queue).foldl LogRec.onsetsAfter []

/-- The onset of an alarm of this code and index in a list. -/
def onsetIn (l : List (OnsetKey × UnitTime)) (code index : Nat) : Option UnitTime :=
  (l.find? fun o => o.1.1 = code && o.1.2.1 = index).map (·.2)

/-! Conditions. -/

/-- The conditions that a cartridge reports of one of its channels. -/
def State.chanConds (s : State) (c : Ch) : List Cond :=
  let x := s.chan c
  let m := x.meas
  let cond := fun (code : Nat) (b : Bool) => ({ code := code, index := numOf c, source := c.val / 4 + 1, stands := some b, serial := s.serialOf c } : Cond)
  [cond 0x0204 (x.stage.olOff || x.stage.olOn), cond 0x0205 x.stage.extV, cond 0x0206 x.stage.reverse, cond 0x0207 x.stage.drift,
   cond 0x0209 x.gen.dlyFault, cond 0x020A x.gen.fwGate, cond 0x020B x.gen.swCmp, cond 0x020C (x.prot.discFail ≠ 0), cond 0x020D x.prot.hsFail,
   cond 0x020E x.prot.gateMon, cond 0x020F (x.prot.trip ≠ .none && x.prot.tripCause = 0x17), cond 0x0601 m.crazing,
   cond 0x0602 (m.p1.refDrift || m.p2.refDrift), cond 0x0603 (m.p1.failed || m.p2.failed), cond 0x0604 m.lost, cond 0x0606 m.starved,
   cond 0x0F04 x.ctrl.openF]

/-- The conditions that a cartridge reports. -/
def State.cartConds (s : State) (k : Slot) : List Cond :=
  let x := s.cart k
  let cond := fun (code : Nat) (b : Bool) => ({ code := code, index := k.val + 1, source := k.val + 1, stands := some b, serial := x.serial } : Cond)
  (chansOf k).flatMap s.chanConds ++
  [cond 0x0301 x.removing, cond 0x0403 (x.oring.toList.any id), cond 0x0605 x.proofBad, cond 0x0607 x.oscBad]

/-- What a fan's state says of FAN_STATE: RUNNING ends it, and a start leaves it as it was (R452). -/
def Fan.alarmStands (f : Fan) : Option Bool :=
  match f.st with
  | .tachLost | .stalled | .stopped | .blocked => some true
  | .running => some false
  | _ => none

/-- What a speed input's state says of TACH_STATE (R483). -/
def Tach.alarmStands (x : Tach) : Option Bool :=
  if x.lostAlarm then some true
  else match x.st with
    | .stalled | .stopped | .lost => some true
    | .running => some false
    | _ => none

/-- The conditions of the unit that its ACTIVE controller judges. -/
def State.unitConds (s : State) (c : Ctl) : List Cond :=
  let x := s.cool
  let at_ := fun (code index : Nat) (b : Option Bool) (src : Nat) => ({ code := code, index := index, source := src, stands := b } : Cond)
  let cond := fun (code index : Nat) (b : Bool) => at_ code index (some b) c.code
  let both := fun (f : Ctlr → Bool) => f s.ctlA || f s.ctlB
  let two : List (Fin 2) := [0, 1]
  (allCh.flatMap fun ch =>
    let one := fun (code : Nat) (b : Bool) => ({ code := code, index := numOf ch, source := ch.val / 4 + 1, stands := some b, serial := s.serialOf ch } : Cond)
    [one 0x0503 x.dieBad[ch], one 0x0210 x.dieHot[ch], one 0x0211 x.exceeded[ch]]) ++
  (two.flatMap fun i => [cond 0x0401 (i.val + 1) (x.feedBad[i]).isSome, cond 0x0408 (i.val + 1) (x.feedOver[i]).isSome,
    cond 0x0404 (i.val + 1) (both fun y => y.sup.logicAl[i]), at_ 0x0501 (i.val + 1) (x.fans[i]).alarmStands 0x11]) ++
  [cond 0x0402 0 x.imbalance, cond 0x0409 0 x.unitOver.isSome, at_ 0x0502 0 (some (x.step ≠ 0)) 0x11,
   at_ 0x0503 0 (some (x.inletDiff || !x.inletOk[0] || !x.inletOk[1])) 0x11, at_ 0x0504 0 (some x.inletHigh) 0x11,
   cond 0x0506 0 (decide (1024 ≤ (s.ctl c).mram.cone.entries.length))] ++
  (allPairs.flatMap fun p =>
    let w := s.twin p
    [cond 0x0304 (p.val + 1) w.unbalanced, cond 0x0305 (p.val + 1) w.alignBad, cond 0x0306 (p.val + 1) w.diverged,
     cond 0x0307 (p.val + 1) w.unmeas, cond 0x0308 (p.val + 1) w.forced, cond 0x0309 (p.val + 1) w.masked]) ++
  (allQuads.flatMap fun q =>
    let l := (s.loop q).stages.toList
    [cond 0x0701 (q.val + 1) (l.any (·.compl ≠ .none)), cond 0x0702 (q.val + 1) (l.any (·.fault)),
     at_ 0x0703 (q.val + 1) (s.tach q).alarmStands c.code, cond 0x0704 (q.val + 1) (s.tach q).above]) ++
  ([Bus.a, Bus.b].flatMap fun p =>
    [cond 0x0801 p.code (((s.ctl c).phy p).run && ((s.ctl c).phy p).st = .down), cond 0x0802 p.code (both fun y => (y.phy p).degraded),
     cond 0x0803 p.code (both fun y => (y.phy p).collBad), cond 0x0804 p.code (both fun y => (y.phy p).conflict.isSome),
     cond 0x0805 p.code (both fun y => (y.phy p).stranger)]) ++
  ((List.finRange 10).map fun i => cond 0x0F01 (i.val + 1) (s.ctl c).lineAl[i]) ++
  [cond 0x010B 0 (both fun y => y.linkAl ≠ 0), cond 0x010C 0 (s.ctl c).digestAl, cond 0x0B05 0 (s.ctl c).time.pairBad,
   at_ 0x0C01 0 (some s.ant.open_) 0x10, at_ 0x0C02 0 (some s.ant.short) 0x10, cond 0x0D01 0 (s.ctl c).exp.absAl, cond 0x0D02 0 (s.ctl c).exp.fault,
   cond 0x0D03 0 (s.ctl c).exp.unsupp, cond 0x0D04 0 s.expOver] ++
  -- what concerned this controller while it was not ACTIVE
  [cond 0x0102 c.code false, cond 0x0103 c.code false, cond 0x0104 c.code false, cond 0x0107 c.code false]

/-- The conditions that a controller finds of itself, while it runs. -/
def State.ctlConds (s : State) (c : Ctl) : List Cond :=
  let x := s.ctl c
  let g := x.gnss
  let cond := fun (code : Nat) (b : Bool) => ({ code := code, index := c.code, source := c.code, stands := some b } : Cond)
  if ¬x.running then (if x.powered then [cond 0x000D (x.role = .faulted)] else [])
  else
    [cond 0x000A x.sup.ctrlHot, cond 0x000C x.directAl, cond 0x000D false, cond 0x0405 x.sup.holdupAl,
     { cond 0x0406 false with stands := if x.sup.cell = .qualified then some false
                                        else if x.sup.cell = .absent ∨ x.sup.cell = .weak ∨ x.sup.cell = .refused ∨ x.sup.cell = .failed then some true else none },
     cond 0x0407 x.sup.chargeAl, cond 0x0B04 x.time.taiBad, cond 0x0B06 x.time.tcxoFail, cond 0x0B07 x.time.rangeBad, cond 0x0B08 x.time.dlyFault,
     cond 0x0C03 (g.l1.cls = .interference || g.l5.cls = .interference), cond 0x0C04 (g.l1.cls = .jamming || g.l5.cls = .jamming),
     cond 0x0C05 g.incons, { cond 0x0C06 g.cardBad with source := 0x10 }, cond 0x0C07 g.linkBad, cond 0x0C08 g.noSignal, cond 0x0C09 g.fault,
     cond 0x0C0A g.almLost, cond 0x0C0B g.ephLost]

/-! Raising them. -/

/-- One condition as a new ACTIVE controller finds it (R934): an alarm that is raised afresh carries the instant of its logged onset, or this instant
where none was logged, and is logged then; one that has ended unseen is cleared. -/
def State.raiseCond (s : State) (c : Ctl) (open_ : List (OnsetKey × UnitTime)) (x : Cond) : State :=
  let logged := onsetIn open_ x.code x.index
  match x.stands.getD logged.isSome, (s.ctl c).alarmed x.code x.index, logged with
  | true, false, some t => s.modCtl c fun y => y.setAlarm x.code x.index true t
  | true, false, none => s.alarm c x.code x.index true x.source 0 1 0 0 x.serial
  | false, true, _ => s.alarm c x.code x.index false x.source 1 0 0 0 x.serial
  | false, false, some t => s.logEv c x.code 4 x.source x.index (stdBody 1 0 0 0 t x.serial)
  | _, _, _ => s

/-- A list of conditions raised. -/
def State.raiseConds (s : State) (c : Ctl) (l : List Cond) : State :=
  let open_ := (s.ctl c).mram.log.onsets
  overList l (fun x s => s.raiseCond c open_ x) s

/-- The alarms of a controller that has become ACTIVE (R934): the unit's conditions and those of both controllers; of what no state tells, the onsets that
stand in its log. Those of a cartridge follow with its first status frame. -/
def State.raiseAfresh (s : State) (c : Ctl) : State :=
  let known := s.unitConds c ++ s.ctlConds c ++ (if s.linkUp then s.ctlConds c.other else [])
  let rest := (s.ctl c).mram.log.onsets.filter fun o => !known.any fun x => x.code = o.1.1 && x.index = o.1.2.1
  let s := overList [Bus.a, Bus.b] (fun p s => s.modPhy c p fun y => { y with lost := y.run && y.st = .down }) s
  let s := s.raiseConds c known
  overList rest (fun o s => if (s.ctl c).alarmed o.1.1 o.1.2.1 then s else s.modCtl c fun y => y.setAlarm o.1.1 o.1.2.1 true o.2) s

/-- The alarms of a controller that is no longer ACTIVE are its successor's; its counts of onsets stay (R616). -/
def Ctlr.dropAlarms (x : Ctlr) : Ctlr := { x with alarms := x.alarms.map fun a => { a with active := false } }

end Sys2Proof.Machine
end

