-- ==== Sys2Proof/Machine/Takeover.lean ====
section
/-!
DEFINITION. Machine/Takeover.lean: leaving and taking the ACTIVE role (R193, R670, R879 to R882): what a controller gives up, the adoption of the
cartridges as they are (R184), and the takeover by FAILOVER.
-/
namespace Sys2Proof.Machine

/-! Leaving ACTIVE. -/

/-- What a controller gives up as it leaves ACTIVE (X41, R731; R495, R496, R670, R682, R684, R710, R934): the unit address, X40, its claims, pending latches, a
running capture, its alarms, and its direct writes, whose registers return to their reset values. -/
def State.leaveActive (s : State) (c : Ctl) : State :=
  let s := (s.expDrop c).modCtl c fun x => { x.setScrub s.now true false with
    ready := false, latchAt := none, latched := none, claims := Vector.replicate 4 {}, tx := Vector.replicate 4 []
    acts := Vector.replicate 4 [], time := { x.time with ppsHigh := false }
    gnss := { x.gnss with l1 := { x.gnss.l1 with en := true }, l5 := { x.gnss.l5 with en := true }, snapRun := none } }
  let s := s.directAlarm c
  let s := s.modCtl c Ctlr.dropAlarms
  (s.modPhy c .a fun x => { x with garp := [] }).modPhy c .b fun x => { x with garp := [] }

/-- A controller leaves ACTIVE for STANDBY_UNSYNCED, cause DEMOTED (R193). -/
def State.demote (s : State) (c : Ctl) : State := (s.leaveActive c).setRole c .unsynced 0 6 0x04

/-! Taking ACTIVE. -/

/-- Images rebuilt from the journaled levels and settings (R879). -/
def Ctlr.rebuild (x : Ctlr) : Ctlr :=
  { x with
    image := Vector.ofFn fun i =>
      let h := x.mram.hosts[i]
      { level := h.level, pwm := h.pwm, cmds := h.cmds, sets := h.sets }
    imgJsn := x.mram.last % 2 ^ 32 }

/-- A cartridge that holds its setpoints is claimed as it is (R176, R184, R880). One in limp-home, or one that refuses the epoch, is claimed by
R176. -/
def State.adoptCart (s : State) (c : Ctl) (k : Slot) (epoch : Nat) : State :=
  let x := s.cart k
  let armed := (x.armedBy.map (·.2.1)).getD 0
  if x.removing ∨ ¬s.present c k then s
  else if x.holder.isSome ∧ x.epoch < epoch ∧ armed < epoch ∧ epoch < 2 ^ 32 then
    ((s.modClaim c k fun z => { z with epoch := epoch }).adoptHeld c k epoch).claimed c k
  else s.sendClaim c k

/-- Every cartridge claimed in one frame slot, with one epoch (R178, R879, R886). -/
def State.adoptAll (s : State) (c : Ctl) : State :=
  let e := s.nextClaim c
  overList allSlots (fun k s => s.adoptCart c k e) s

/-- A gratuitous ARP at once, after 100 ms and after 1 s on both ports (R496). -/
def State.announceUnit (s : State) (c : Ctl) : State :=
  let due := [s.now + 100 * msec, s.now + sec]
  let s := (s.sendGratuitous c .a).sendGratuitous c .b
  (s.modPhy c .a fun x => { x with garp := due }).modPhy c .b fun x => { x with garp := due }

/-- Reports of a new ACTIVE controller (R571): each count goes on from the mirrored value plus 65536, and the first report of each subscription
says so. -/
def ClientSt.newActive (x : ClientSt) : ClientSt :=
  { x with repSeq := x.repMir + 65536, subs := x.subs.map fun y => { y with first := true } }

/-- What a controller that has become ACTIVE from a standby takes over beside the role and the cartridges (R455, R482, R496, R710, R742). -/
def State.newActive (s : State) (c : Ctl) : State :=
  let s := s.modMram c fun m => { m with clients := m.clients.map ClientSt.newActive }
  let s := s.modCool fun x => { x with overSince := Vector.replicate 16 none, underSince := Vector.replicate 16 none }
  ((s.fansAfresh.tachAfresh true).expTake c true).announceUnit c

/-! The takeover. -/

/-- The highest sequence of a client in the journal (R580). -/
def Mram.topSeq (m : Mram) (cl : Nat) : Nat := ((m.slots.filter fun j => j.client = cl).map (·.seq)).foldl max 0

/-- A client as a cold takeover finds it (R882): the window by the WINDOW_LOST rule, the subscriptions only where their pages are good. -/
def Mram.coldClient (m : Mram) (i : Client) : ClientSt :=
  let x := m.client i
  { x with high := m.topSeq i.val + 64, win := [], subs := if m.pagesOk then x.subs else [] }

/-- Levels and settings as the cartridges that hold setpoints have them (R882). -/
def State.heldHosts (s : State) (c : Ctl) : Vector HostSet 16 := Vector.ofFn fun ch =>
  let h := ((s.ctl c).mram.hosts[ch] : HostSet)
  let sp := (s.chan ch).set
  if (s.cart (slotOf ch)).holder.isSome ∧ s.present c (slotOf ch) then h.ofHeld sp else h

/-- A scheduled transaction withdrawn with detail LAPSED, and SCHEDULE_LAPSED (R580, R582, R882). -/
def State.lapse (s : State) (c : Ctl) (j : JSlot) : State :=
  (s.modMram c fun m => m.withdraw j.jsn 2 (s.utime c)).alarm c 0x0906 j.client true c.code 0 1

/-- What a cold takeover has instead of the mirrored state (R882); WINDOW_LOST is logged for every slot with a key, as R580 has it logged. -/
def State.takeCold (s : State) (c : Ctl) : State :=
  let hosts := s.heldHosts c
  let s := s.modMram c fun m => { m with
    hosts := hosts, clients := Vector.ofFn m.coldClient
    leases := if m.pagesOk then m.leases else Vector.replicate 16 none
    staging := if m.pagesOk then m.staging else none, pagesOk := true }
  let s := overList (allClients.filter fun cl => !((s.ctl c).mram.client cl).keys.isEmpty) (fun cl s =>
    (s.alarm c 0x0904 cl.val true c.code 0 1).alarm c 0x0904 cl.val false c.code 1 0) s
  let open_ := (s.ctl c).mram.slots.filter fun j => j.sched && !j.taken && !allSlots.any fun k => s.armedAt k j.jsn
  overList open_ (fun j s => s.lapse c j) s

/-- The takeover is cold (R882). -/
def Ctlr.cold (x : Ctlr) : Bool := x.role = .unsynced || !x.mram.pagesOk || x.mram.slots.any fun j => !j.ok

/-- The journal resolved at a takeover (R879, R899): PREPARED slots aborted, COMMITTED ones released, and a committed swap completed as the
takeover. -/
def State.resolveJournal (s : State) (c : Ctl) : State :=
  let s := s.modMram c fun m => { m with slots := m.slots.filter fun j => j.st = .committed && j.ok }
  overList (s.ctl c).mram.slots (fun j s =>
    if j.kind = 6 then (s.closeEntry c j 0 0 0 (s.utime c)).modMram c fun m => m.freeSlot j.jsn
    else if j.released then s else s.releaseTx c replyParams j.jsn) s

/-- Requests that no journal slot answers are forgotten with the controller that ran them (R638, R707). -/
def ClientSt.forget (x : ClientSt) : ClientSt := { x with win := x.win.filter fun e => e.st ≠ .inProgress }

/-- Unit time at a takeover (R742): the governing source is kept where it qualifies here too; else HOLDOVER, with the pair difference as the entry
error. -/
def State.takeTime (s : State) (c : Ctl) : State :=
  let x := (s.ctl c).time
  if (x.src = 1 ∨ x.src = 2) ∧ ¬s.qualifies c x.src then
    (s.timeTo c 3).modTime c fun y => { y with errBase := (x.pairDiff.getD 0).natAbs, errAt := s.now }
  else s

/-- FAILOVER, the onset of its alarm (R900), and LOSS as the new ACTIVE controller writes them (R816, R881). -/
def State.logTakeover (s : State) (c : Ctl) (cold : Bool) (cause : Nat) (last : UnitTime) : State :=
  let s := s.alarm c 0x0102 c.other.code true c.code c.other.code (b2n cold) cause
  s.logEv c 0x1201 0 c.code 0 (be 4 0 ++ be 4 (s.ctl c).mram.log.losses ++ beInt 8 last ++ beInt 8 (s.utime c) ++ be 1 2)

/-- The takeover of a standby (R879 to R882), whole. What the cartridges hold stays as it is: trips (R284), generators (R342), measurement (R384), shares and
trims (R421), glaze latches and handovers (R850). -/
def State.takeover (s : State) (c : Ctl) (cause : Nat) : State :=
  let cold := (s.ctl c).cold
  let last := (((s.ctl c).beat).map (·.time)).getD (s.utime c)
  let s := s.modMram c fun m => { m with log := { m.log with queue := [], gapAt := none }, clients := m.clients.map ClientSt.forget }
  let s := s.resolveJournal c
  let s := if cold then s.takeCold c else s
  let s := s.modCtl c fun x => { x.rebuild with transfer := none, claims := Vector.replicate 4 {}, latchAt := none, latched := none }
  let s := s.modCtl c.other fun x => { x with transfer := none }
  let s := s.setRole c .active 0 0 0x02
  let e := s.nextClaim c
  let s := s.adoptAll c
  let s := s.prepareTx c replyParams { kind := 3, changes := [.claims e c.other c cold cause] }
  let s := s.logTakeover c cold cause last
  let s := ((s.takeTime c).newActive c).raiseAfresh c
  s.modCtl c fun x => { x with ready := true }

/-- The cause for which a standby declares the ACTIVE controller lost (R877), 1 heartbeat, 2 FAIL_N, 3 RELINQUISH; none while it does not. -/
def State.lostCause (s : State) (c : Ctl) : Option Nat :=
  let x := s.ctl c
  if ¬(x.running ∧ x.standby) then none
  else if x.peerFail then some 2
  else if x.beat.any (·.relinq) then some 3
  else
    let views := allSlots.map fun k => x.seen[k]
    let held := views.filter fun y => y.at_.isSome && y.holder = some c.other
    if 4 ≤ x.missed ∧ ¬held.any (·.fresh) ∧ (¬held.isEmpty ∨ ¬x.peerOn) then some 1 else none

/-- FAILOVER (R877, R879): a standby that declares the ACTIVE controller lost takes over. -/
def execFailover (t : Instant) (c : Ctl) (s : State) : Result :=
  run t (fun s => match s.lostCause c with
    | some cause => s.takeover c cause
    | none => s) s

end Sys2Proof.Machine
end

