-- ==== Sys2Proof/Machine/StatusFrame.lean ====
section
/-!
DEFINITION. Machine/StatusFrame.lean: what a controller does on a status frame (R161, R189 to R193, R869): its view, DEMOTED, claims on sight, completions
and log records.
-/
namespace Sys2Proof.Machine

/-- An ACTIVE controller that sees a cartridge it claimed held by the other slot with a higher epoch leaves ACTIVE, and DEMOTED is raised (R193, R900). -/
def State.demoteIf (s : State) (c : Ctl) (k : Slot) : State :=
  let y := (s.ctl c).seen[k]
  let cl := (s.ctl c).claims[k]
  if y.holder = some c.other ∧ cl.epoch < y.epoch ∧ cl.st = .held then
    (s.demote c).alarm c 0x0104 c.code true c.code c.code c.other.code y.epoch cl.epoch
  else s

/-- A cartridge that this ACTIVE controller does not hold is claimed on sight (R192), and an exhausted claim epoch is reported (R190). -/
def State.claimOnSight (s : State) (c : Ctl) (k : Slot) : State :=
  let y := (s.ctl c).seen[k]
  let cl := (s.ctl c).claims[k]
  let ex : Bool := y.epoch = 0xFFFFFFFF
  let s := if ex = cl.exhausted then s else
    (s.modClaim c k fun z => { z with exhausted := ex }).alarm c 0x010E (k.val + 1) ex (k.val + 1) (b2n (!ex)) (b2n ex) 0 0 y.serial
  if y.holder = some c then s
  else if cl.st = .held then (s.modClaim c k fun z => { z with st := .idle }).sendClaim c k
  else if cl.st = .idle ∧ cl.retryAt.isNone then s.sendClaim c k
  else s

/-- A standby's link to a cartridge works again: the alarms of its loss end (R927, R933). -/
def State.linkBack (s : State) (c : Ctl) (k : Slot) : State :=
  let m := s.unitMode.code
  let s := s.alarm c 0x0107 (k.val + 1) false c.code m m 0 0 (s.cart k).serial
  if allSlots.all fun j => !(s.cart j).powered || s.reaches c j then s.alarm c 0x0103 c.code false c.code 1 0 else s

/-- STATUS_FRAME (R161): a wrong CRC is counted (R653, R918); a good frame updates the controller's view and its energy counters, and the ACTIVE
controller claims, completes and logs from it, and raises what it finds at a claim (R934). -/
def execStatusFrame (t : Instant) (c : Ctl) (k : Slot) (ok : Bool) (s : State) : Result :=
  run t (fun s =>
    when ((s.ctl c).running && (s.cart k).powered) (fun s =>
      if ok then
        let s := s.see c k
        let count := fun (m : Mram) (ch : Ch) =>
          if slotOf ch = k then (m.energy[ch]).read (s.cart k).serial (s.chan ch).meas.energy else m.energy[ch]
        let s := s.modMram c fun m => { m with energy := Vector.ofFn (count m) }
        if (s.ctl c).role = .active then
          let s := s.demoteIf c k
          if (s.ctl c).role = .active then
            let s := (s.claimOnSight c k).complete c k
            let s := s.noteLeave c k
            if (s.cart k).holder = some c then
              let found := !((s.ctl c).seen[k]).served
              let s := (overList (chansOf k) (fun ch s => (s.logChan c ch found).logClamp ch) s).voyRecords c k
              let s := if found then (s.voyLoss c k).raiseConds c (s.cartConds k) else s
              (s.noteLogged c k).modSeen c k fun y => { y with served := true }
            else s
          else s
        else if (s.ctl c).standby then s.linkBack c k
        else s
      else s.modCtl c fun x => { x with linkErr := modV x.linkErr k (satBump 32) }) s) s

end Sys2Proof.Machine
end

