-- ==== Sys2Proof/Machine/Start.lean ====
section
/-!
DEFINITION. Machine/Start.lean: from reset to command-ready (chapter 04): the bisque stage (R162 to R167, R188, R194), firmware running (R168, R169,
R193), the election (R170 to R172, R192, R195), COMMAND_READY (R187) and the START record (R159).
-/
namespace Sys2Proof.Machine

/-- The controller runs an image (R653). -/
def Ctlr.load (x : Ctlr) (regB : Bool) : Ctlr :=
  let h := (x.mram.boot.image regB).hdr
  { x with imgB := regB, line := field h 6 2, minor := field h 8 2, schema := field h 10 2, build := field h 16 4 }

/-- What is reported of a FAULTED controller (R47, R159, R193): the alarm and the START record, by the controller that writes. -/
def State.reportFaulted (s : State) (c : Ctl) : State :=
  (s.alarm c 0x000D c.code true c.code 0 (s.ctl c).cause).startRecord c

/-- A controller that enters FAULTED (R47, R193): FAIL_N is asserted; the peer raises the alarm and writes the record. -/
def State.faultCtl (s : State) (c : Ctl) (cause : Nat) : State :=
  ((s.modCtl c fun x => { x with failN := true }).setRole c .faulted cause 0 0x0D).reportFaulted c

/-! The bisque stage. -/

/-- The bisque stage (R162, R165, R188, R193, R194, R196), with the outcome of its self-tests. What it finds waits for the log until firmware runs. -/
def State.bisque (s : State) (c : Ctl) (selfTest : Bool) : State :=
  let x := s.ctl c
  let recent := x.bootRst.filter fun a => decide (s.now ≤ a + 600 * sec)
  if 3 ≤ recent.length then s.faultCtl c 7
  else if ¬selfTest then s.faultCtl c 5
  else
    let b0 := x.mram.boot
    let (b, reverted) := b0.read.revert
    let found := (if b0.best.isNone then [((0x0006 : Nat), (0 : Nat), (1 : Nat))] else []) ++ (if reverted then [(0x0005, 1, 0)] else [])
    let keep := fun (b : Boot) (write : Bool) => if write then { b.write with old := some b0.recs } else { b with old := none }
    match b.choose x.issue with
    | none => (s.modCtl c fun y => { y with bootEv := y.bootEv ++ found, mram := { y.mram with boot := keep b reverted } }).faultCtl c 6
    | some regB =>
      let other := if regB = b.prefB then [] else [((0x0007 : Nat), b2n b.prefB, b2n regB)]
      let trial : Bool := (b.image regB).st = .trial
      let b := if trial then { b with trials := b.trials + 1 } else b
      s.modCtl c fun y =>
        ({ y with bootEv := y.bootEv ++ found ++ other, mram := { y.mram with boot := keep b (reverted || trial) } } : Ctlr).load regB

/-- A controller released from reset as BOOTING (R135, R152, R157): the charging mark is written, and cleared at once where the store is charged; what
the last POWER_FAIL left is kept for the log; and the 24 h of the load test begin. What R521 and R640 name starts empty. -/
def State.powerOn (s : State) (c : Ctl) (cause : BootCause) (selfTest : Bool) : State :=
  let x := s.ctl c
  let cut : Bool := x.mram.charging || x.mram.cut
  let cause := if x.mram.boot.recov then .recovery else cause
  let s := s.setCtl c { x.halted with
    powered := true, boot := cause, refAt := s.now, testRun := x.tested s.now, testAt := s.now - x.tested s.now, roleIn := s.now, roleAt := s.utime c
    bootEv := x.bootEv ++ if cut then [(0x0004, 0, 1)] else []
    sup := { x.sup with loadAt := s.now, holdupAt := none }
    mram := { x.mram with charging := decide (x.sup.store < 1000), cut := false } }
  s.setBias.bisque c selfTest

/-- The backup domain at a logic power-up (R151, R153): a clock kept vouches for the cell, which is taken as QUALIFIED; else it is qualified anew. A
place found empty before is qualified in either case: DEDUCED, log entry 58. -/
def Supply.powerUp (x : Supply) (now : Instant) : Supply :=
  { x.toCell (if x.clockOk ∧ x.cell ≠ .absent then .qualified else .qualifying) now with
    cellAt := now, onCell := false, lowSince := none, failing := false, logicOk := Vector.replicate 2 none }

/-- The logic power-up of a controller (R151): without the clock-valid flag the baseband starts without ephemeris. -/
def State.logicUp (s : State) (c : Ctl) (f : Supply → Supply) : State :=
  let kept := (s.ctl c).sup.clockOk
  let s := s.modSup c fun y => f (y.powerUp s.now)
  if kept then s else s.modGnss c fun g => { g with eph := [], good := none }

/-- LOGIC_POWER_UP (R157, R151, R102): the rail has reached 18 V, and the controller starts; its loop stages conduct nothing (R37). -/
def execLogicPowerUp (t : Instant) (c : Ctl) (selfTest : Bool) (s : State) : Result :=
  run t (fun s =>
    let x := s.ctl c
    when (x.fitted && !x.powered && decide (18000 ≤ x.sup.railMv) && !x.sup.failing && !x.sup.tsdOff) (fun s =>
      let s := s.logicUp c fun y => { y with loadTest := 0, store := 0 }
      let s := overList allQuads (fun q s => s.modLoop q fun l => { l with stages := setV l.stages c.ix {} }) s
      s.powerOn c .powerOn selfTest) s) s

/-- POWER_FAIL_RESTART (R126, R151): 100 ms after the later of step 7 and the rail's last rise to 18 V. -/
def execPowerFailRestart (t : Instant) (c : Ctl) (selfTest : Bool) (s : State) : Result :=
  run t (fun s =>
    let x := s.ctl c
    let ok := x.sup.goodSince.any fun a => max a x.sup.step7At + 100 * msec ≤ s.now
    when (x.fitted && !x.powered && x.sup.failing && !x.sup.tsdOff && ok) (fun s => (s.logicUp c id).powerOn c .powerFail selfTest) s) s

/-- CTRL_TSD_RELEASE (R151, R430): a power-on of the core below 115 °C. -/
def execCtrlTsdRelease (t : Instant) (c : Ctl) (temp : DeciDeg) (selfTest : Bool) (s : State) : Result :=
  run t (fun s =>
    let x := s.ctl c
    when (x.sup.tsdOff && decide (temp < 1150)) (fun s =>
      let s := s.modSup c fun y => { y with tsdOff := false, ctrlDie := temp }
      if 18000 ≤ x.sup.railMv then (s.logicUp c id).powerOn c .powerOn selfTest else s) s) s

/-- A reset of a controller's core (R855): FAIL_N asserts, the full start-up sequence follows (R162, R197), and the unit mode may change with the role it
had (R40). A reset before firmware running counts toward BOOT_LOOP (R194). -/
def State.resetCore (s : State) (c : Ctl) (cause : BootCause) (selfTest : Bool) : State :=
  let x := s.ctl c
  let s := if x.role = .booting then s.modCtl c fun y => { y with bootRst := y.bootRst ++ [s.now] } else s
  (s.powerOn c cause selfTest).noteMode

/-- A reset that a command orders (R633): the outcome of the self-tests of R162 is a free value. -/
def State.restart (s : State) (c : Ctl) : State :=
  let (n, s) := s.draw
  s.resetCore c .commanded (n % 2 = 0)

/-- LOCKSTEP_MISMATCH (R855, R197). -/
def execLockstepMismatch (t : Instant) (c : Ctl) (selfTest : Bool) (s : State) : Result :=
  run t (fun s => when (s.ctl c).powered (fun s => s.resetCore c .lockstep selfTest) s) s

/-- WATCHDOG_EXPIRY (R855, R197). -/
def execWatchdogExpiry (t : Instant) (c : Ctl) (selfTest : Bool) (s : State) : Result :=
  run t (fun s => when (s.ctl c).powered (fun s => s.resetCore c .watchdog selfTest) s) s

/-! Firmware running. -/

/-- What the bisque stage found, logged (R152, R188, R193). -/
def State.logBoot (s : State) (c : Ctl) : State :=
  let found := (s.ctl c).bootEv
  let s := s.modCtl c fun x => { x with bootEv := [] }
  let bad : Bool := found.any fun e => e.1 = 0x0007
  let s := found.foldl (fun s e =>
    if e.1 = 0x0006 then (s.alarm c e.1 c.code true c.code e.2.1 e.2.2).alarm c e.1 c.code false c.code e.2.2 e.2.1
    else if e.1 = 0x0007 then s.alarm c e.1 c.code true c.code e.2.1 e.2.2
    else s.logEv c e.1 0 c.code c.code (stdBody e.2.1 e.2.2 0 0 0 (s.ctl c).serial)) s
  if bad then s else s.alarm c 0x0007 c.code false c.code 1 0

/-- What the controller holds of another unit, set aside and not erased (R193): it runs as epoch 0, and nothing that the journal carried stays in
force (log entry 19). -/
def Mram.setAside (m : Mram) : Mram :=
  { m with
    aside := some (m.items, m.epoch, m.hash), asideSess := some (m.slots, m.clients), items := [], epoch := 0, hash := blankHash
    copies := Vector.replicate 2 {}, slots := [], clients := Vector.replicate 16 {}, leases := Vector.replicate 16 none
    hosts := Vector.replicate 16 {}, loops := Vector.replicate 4 none, staging := none, foreign := true }

/-- The plug in the socket is one whose contents are valid (R168). -/
def State.goodPlug (s : State) : Option Plug := s.plug.filter fun p => p.ok && !p.blank

/-- The code plug read (R168, R193): the identity copy rewritten, CODEPLUG_ABSENT, or FOREIGN, which stands until a configuration is pulled or
committed. -/
def State.readPlug (s : State) (c : Ctl) : State :=
  let s := match s.goodPlug with
    | none => s.alarm c 0x0008 0 true c.code 0 1
    | some p =>
      let same := ((s.ctl c).mram.ident).all fun (i : Plug) => decide (i.serial = p.serial)
      (s.modMram c fun m => { (if same then m else m.setAside) with ident := some p }).alarm c 0x0008 0 false c.code 1 0
  let f := (s.ctl c).mram.foreign
  s.alarm c 0x0009 c.code f c.code (b2n (!f)) (b2n f)

/-- The journal replayed (R169, R900, R901): each PREPARED slot aborted, each COMMITTED one complete; a scheduled one whose T has not come
stays. -/
def State.replay (s : State) (c : Ctl) : State :=
  let s := s.modMram c fun m => { m with slots := (m.slots.filter fun j => j.st = .committed && j.ok && j.kind ≠ 6).map fun j =>
    { j with req := none, replied := true, frameAt := none, done := Vector.replicate 4 false } }
  overList (s.ctl c).mram.slots (fun j s =>
    if j.sched ∧ ¬j.taken then (s.modMram c fun m => m.modSlot j.jsn fun j => { j with released := true })
    else
      let s := if j.released then s else s.releaseTx c replyParams j.jsn
      let s := if j.client < 16 then s.closeEntry c j 0 0 0 j.commitAt else s
      s.modMram c fun m => m.freeSlot j.jsn) s

/-- Sessions as read from MRAM (R580, R581): ended leases and subscriptions are gone, a lost key empties its slot, a lost window is rebuilt. -/
def State.readSessions (s : State) (c : Ctl) : State :=
  let now := s.utime c
  let s := s.modMram c fun m => { m with
    staging := none, leases := m.leases.map fun l => l.filter fun y => now < y.stop
    clients := m.clients.map fun x => { x with subs := x.subs.filter fun y => now < y.stop, win := x.win.filter fun e => e.st ≠ .inProgress } }
  overList allClients (fun cl s =>
    let x := (s.ctl c).mram.client cl
    let s := if x.keyLost then (s.modMram c fun m => m.modClient cl fun y => { y with keys := [] }).alarm c 0x0903 cl.val true c.code 0 1 else s
    if x.winLost then
      let both : Bool := ((s.ctl c.other).mram.client cl).winLost || !(s.ctl c.other).powered
      let s := s.modMram c fun m => m.modClient cl fun y => { y with winLost := false, win := [], high := m.topSeq cl.val + 64 }
      if both then (s.alarm c 0x0904 cl.val true c.code 0 1).alarm c 0x0904 cl.val false c.code 1 0 else s
    else s) s

/-- Unit time at firmware running (R744): from the backup RTC where its flag stands and RTC is in TIME_ORDER; 31 µs and 50 ppm of the outage as its
error (R730). TAI−UTC comes from the backup domain, or else from MRAM. -/
def State.startTime (s : State) (c : Ctl) : State :=
  let x := s.ctl c
  let s := match x.sup.keptTai.or x.mram.tai with
    | some (d, a, nx) => s.modTime c fun y => { y with tai := d, taiAt := a, taiNext := nx }
    | none => s
  if x.sup.clockOk ∧ (s.timeOrder c).contains 4 then
    let out := (x.sup.quality.map fun q => s.now - q.2).getD 0
    let s := s.modTime c fun y => { y with off := x.sup.rtcOff, frac := 0, steer := 0, runAt := s.now, set := true }
    (s.timeTo c 4).modTime c fun y => { y with errBase := 31000 + out * 50 / 1000000, errAt := s.now }
  else s

/-- The log as found at firmware start (R818). -/
def Log.start (l : Log) : Log :=
  let voy := (l.recs.filter fun r => r.code = 0x1101).getLast?
  { l with
    queue := [], gapAt := none, lost := 0
    next := ((l.recs.getLast?).map fun r => nextIndex r.index).getD l.next
    voySeq := (voy.map fun r => (field r.body 36 4 + 1) % 2 ^ 32).getD l.voySeq }

/-- A cone entry for the controller's own die (R456). -/
def State.coneOwn (s : State) (c : Ctl) : State :=
  match (s.ctl c).sup.tsd with
  | none => s
  | some onset =>
    let x := s.ctl c
    let e : ConeEntry :=
      { onset := onset, from_ := s.now, lasted := some (max 0 ((s.utime c - onset) / 1000000)).toNat, die := 3, slot := c.code
        flags := b2n (x.time.st = .unset), mode := s.unitMode.code, step := s.cool.step, peak := 1350, inlet := s.cool.inletNow
        bus := x.sup.railMv, serial := x.serial }
    (s.putCone c e).modSup c fun y => { y with tsd := none }

/-- Ports, baseband and expansion items configured (R520, R664, R794). -/
def State.startParts (s : State) (c : Ctl) : State :=
  let s := s.modCtl c fun x =>
    let p : Phy := { run := true, st := .quiet, seenAt := some s.now }
    { x with phyA := p, phyB := p, addrs := x.mram.ident.map (fun i => (i.addrA, i.addrB)), exp := { x.exp with items := expItems x.mram.items } }
  (s.gnssStart c).gnssStores c

/-- The controller enters HOLD (R171, R193). -/
def State.enterHold (s : State) (c : Ctl) (cause : Nat) : State :=
  let s := (s.modCtl c fun x => { x with miles := setV x.miles 2 (some s.now) }).setRole c .hold cause 0 0x05
  s.logEv c 0x0105 0 c.code 0 (stdBody 0 cause)

/-- FIRMWARE_RUNNING (R168, R169, R193, R581, R744, R818, R972). -/
def execFirmwareRunning (t : Instant) (c : Ctl) (s : State) : Result :=
  run t (fun s =>
    when ((s.ctl c).powered && (s.ctl c).role = .booting) (fun s =>
      let (n, s) := s.draw
      let now := s.now
      let s := s.modCtl c fun x => { x with
        failN := false, bootRst := [], peerFail := (s.ctl c.other).failN, peerGone := if (s.ctl c.other).failN then some now else none
        miles := setV (setV x.miles 0 (some (min now (x.refAt + (180000 + n % 120001) * usec)))) 1 (some now)
        elect := none, image := Vector.replicate 16 {}, scrubIn := now
        mram := { x.mram with
          boot := { (if x.mram.boot.best.isNone then x.mram.boot.write else x.mram.boot) with recov := false, old := none }
          log := x.mram.log.start, energy := x.mram.energy.map Energy.reload } }
      let s := s.startTime c
      let s := s.roleTo c .electing 0 0 0
      let s := ((s.logBoot c).cellLog c).holdupAlarm c
      let s := if (s.ctl c.other).role = .faulted ∧ (s.ctl c.other).powered then s.reportFaulted c.other else s
      let s := (s.modMram c Mram.readConfig).readPlug c
      let s := (s.replay c).readSessions c
      let s := (s.coneOwn c).startParts c
      let s := s.modCtl c Ctlr.rebuild
      if (s.ctl c).lever then s.roleTo c .service 0 0 0
      else if (s.ctl c).mram.ident.isNone then s.enterHold c 3
      else s) s) s

/-! The election. -/

/-- The ELECT record of a controller (R170). -/
def State.electOf (s : State) (c : Ctl) : Elect :=
  let x := s.ctl c
  { role := x.role, schema := x.schema, epoch := x.mram.epoch, hash := x.mram.hash, line := x.line
    serial := ((x.mram.ident).map (·.serial)).getD [] }

/-- ELECT_SEND (R170, R853): in ELECTING and in HOLD, every 10 ms. -/
def execElectSend (t : Instant) (c : Ctl) (s : State) : Result :=
  run t (fun s => when ((s.ctl c).running && ((s.ctl c).role = .electing || (s.ctl c).role = .hold)) (fun s =>
    s.modCtl c fun x => { x with electTx := some (s.electOf c) }) s) s

/-- The controller becomes ACTIVE with every cartridge still to claim (R171, R176, R496): images rebuilt, and CLAIM_REQ sent to all. -/
def State.beActive (s : State) (c : Ctl) (ev : Nat) : State :=
  let s := s.modCtl c fun x => { x.rebuild with claims := Vector.replicate 4 {}, miles := setV x.miles 2 (some s.now), ready := false }
  let s := ((s.setRole c .active 0 0 ev).announceUnit c).raiseAfresh c
  overList allSlots (fun k s => s.sendClaim c k) s

/-- The controller becomes ACTIVE by an election (R171). -/
def State.electActive (s : State) (c : Ctl) : State :=
  (s.beActive c 0x01).logEv c 0x0101 0 c.code 0 (stdBody 1 Role.active.code)

/-- A controller that joins sets its journal aside (R874), and its configuration where its epoch is the higher (R192). -/
def Mram.joining (m : Mram) (higher : Bool) : Mram :=
  let m := { m with asideSess := some (m.slots, m.clients), slots := [] }
  if higher then { m with aside := some (m.items, m.epoch, m.hash) } else m

/-- The controller becomes STANDBY_UNSYNCED (R171, R875): `epoch` and `schema` are the ACTIVE controller's. -/
def State.electStandby (s : State) (c : Ctl) (cause epoch : Nat) : State :=
  let own := (s.ctl c).mram.epoch
  let higher : Bool := decide (epoch < own)
  let s := (s.modMram c fun m => m.joining higher).modCtl c fun x => { x with miles := setV x.miles 2 (some s.now) }
  let s := s.setRole c .unsynced 0 cause 0x01
  let s := s.logEv c 0x0101 0 c.code 0 (stdBody 1 Role.unsynced.code)
  if higher then s.logEv c 0x0108 0 c.code 0 (stdBody own epoch) else s

/-- The cause of STANDBY_UNSYNCED of a controller that joins one of this schema (R875). -/
def State.joinCause (s : State) (c : Ctl) (schema : Nat) : Nat := if schema = (s.ctl c).schema then 1 else 5

/-- HOLD with cause CONFIG_SPLIT (R892): logged with both epochs and both hashes. -/
def State.split (s : State) (c : Ctl) (p : Elect) : State :=
  let m := (s.ctl c).mram
  (s.enterHold c 2).alarm c 0x0109 0 true c.code m.epoch p.epoch (fieldInt m.hash 0 4) (fieldInt p.hash 0 4)

/-- The rules of R171 on a peer's record, for a controller in ELECTING. IDENTITY_SPLIT (R193) is looked for after rule 1 and before the rules of
two controllers that boot together: DESIGN CHOICE, log entry 20. -/
def State.decide_ (s : State) (c : Ctl) (p : Elect) : State :=
  let m := (s.ctl c).mram
  let own := ((m.ident).map (·.serial)).getD []
  let cause := s.joinCause c p.schema
  if p.role = .active then s.electStandby c cause p.epoch
  else if s.goodPlug.isNone ∧ own ≠ p.serial ∧ ¬own.isEmpty ∧ ¬p.serial.isEmpty then
    (s.enterHold c 4).alarm c 0x010A 0 true c.code 0 1
  else if m.epoch = 0 ∧ p.epoch = 0 then s.enterHold c 1
  else if m.epoch < p.epoch then s.electStandby c cause p.epoch
  else if p.epoch < m.epoch then s.electActive c
  else if m.hash ≠ p.hash then s.split c p
  else match c with
    | .a => s.electActive c
    | .b => s.electStandby c cause p.epoch

/-- A peer that reports ACTIVE, by a record or a heartbeat (R171 rule 1, R876, R895). -/
def State.seeActive (s : State) (c : Ctl) (schema epoch : Nat) : State :=
  let x := s.ctl c
  if x.role = .electing ∨ (x.role = .hold ∧ (x.cause = 1 ∨ x.cause = 2)) then
    let s := s.alarm c 0x0109 0 false c.code 1 0
    s.electStandby c (s.joinCause c schema) epoch
  else s

/-- ELECT (R171, R193): the peer's record reaches a controller. A record shows the lanes to be up (R854, R894). -/
def execElect (t : Instant) (c : Ctl) (s : State) : Result :=
  run t (fun s =>
    match (s.ctl c.other).electTx with
    | none => s
    | some p =>
      when (s.ctl c).running (fun s =>
        let s := s.modCtl c.other fun x => { x with electTx := none }
        let s := s.modCtl c fun x => { x with elect := some p, lanes := x.lanes.map fun l => { l with up := true, miss := 0 } }
        if (s.ctl c).role = .electing then s.decide_ c p
        else if p.role = .active then s.seeActive c p.schema p.epoch
        else s) s) s

/-- ELECT_TIMEOUT (R171 rules 7 and 8, R195). -/
def execElectTimeout (t : Instant) (c : Ctl) (peerPowered : Bool) (s : State) : Result :=
  run t (fun s =>
    let x := s.ctl c
    let wait := if c = .b ∧ peerPowered then 800 * msec else 400 * msec
    when (x.running && x.role = .electing && x.elect.isNone && decide (x.roleIn + wait ≤ s.now)) (fun s =>
      let held : Bool := decide (c = .b) && peerPowered && allSlots.any fun k => (x.seen[k]).at_.isSome && decide ((x.seen[k]).holder = some .a)
      if held then s.electStandby c 2 x.mram.epoch
      else if x.mram.epoch = 0 then s.enterHold c 1
      else s.electActive c) s) s

/-! Command-ready. -/

/-- Scheduled transactions whose T has passed, at command-ready (R582). -/
def State.readySchedules (s : State) (c : Ctl) : State :=
  let now := s.utime c
  let due := (s.ctl c).mram.slots.filter fun j => j.sched && !j.taken && decide (j.time < now)
  overList due (fun j s =>
    if now ≤ j.time + (10 * sec : Nat) ∧ (s.ctl c).time.st ≠ .unset then
      if maskAny j.mask then s else s.applyLoop c j now
    else s.lapse c j) s

/-- COMMAND_READY (R187, R611, R453, R484, R485, R582, R709): the ACTIVE controller has every cartridge present claimed or reported CART_UNCLAIMED. -/
def execCommandReady (t : Instant) (c : Ctl) (s : State) : Result :=
  run t (fun s =>
    let x := s.ctl c
    let done : Bool := allSlots.all fun k =>
      !s.present c k || (s.cart k).removing || (x.claims[k]).unclaimed || ((x.claims[k]).st = .held && s.holds c k)
    when (x.running && x.role = .active && !x.ready && done) (fun s =>
      let s := s.modCtl c fun x => { x with ready := true, miles := setV (setV x.miles 3 (some ((x.miles[3]).getD s.now))) 4 (some s.now) }
      let s := ((s.expTake c false).fansReady).tachAfresh false
      let s := if ((s.ctl c).mram.ident).any (·.hash ≠ (s.ctl c).mram.hash) then s.plugHash c (s.ctl c).mram.hash else s
      ((s.readySchedules c).startRecord c).noteMode) s) s

/-- IMAGE_CONFIRMED (R166): 60 s in ACTIVE or STANDBY_SYNCED without a break. -/
def execImageConfirmed (t : Instant) (c : Ctl) (s : State) : Result :=
  run t (fun s =>
    let x := s.ctl c
    let b := x.mram.boot
    let im := b.image x.imgB
    when (x.running && im.st = .trial && s.held x.okFrom (60 * sec)) (fun s =>
      s.modMram c fun m => { m with boot := { b.setImage x.imgB { im with st := .confirmed } with trials := 0 }.write }) s) s

end Sys2Proof.Machine
end

