-- ==== Sys2Proof/Machine/Checks.lean ====
section
/-!
DEFINITION. Machine/Checks.lean: latent faults (chapter 23): the MRAM scrub, double-bit errors by region, the series test and the daily self-test.
-/
namespace Sys2Proof.Machine

/-! The scrub. -/

/-- A pass reads each word once every 30 min, to within 1 % (R930): the least a pass takes. -/
def scrubNs : Nat := 1782 * sec

/-- SCRUB_PASS (R930, R672, R678): a pass ends, and the next starts at once. `mram` and `sram` are the single-bit errors corrected in each memory since the
last pass, by the scrub and by reads (log entry 83); a cartridge has MRAM alone. -/
def execScrubPass (t : Instant) (w : Part) (mram sram : Nat) (s : State) : Result :=
  run t (fun s => match w with
    | .ctrl c =>
      let x := s.ctl c
      when (x.running && (x.scrubEn || x.standby) && decide (x.scrubIn + scrubNs ≤ s.now)) (fun s => s.modCtl c fun y => { y with
        scrubAt := some s.now, scrubIn := s.now, scrubs := (y.scrubs + 1) % 65536
        mramCe := min 0xFFFFFFFF (y.mramCe + mram), sramCe := min 0xFFFFFFFF (y.sramCe + sram) }) s
    | .cart k => when ((s.cart k).powered && decide ((s.cart k).scrubIn + scrubNs ≤ s.now)) (fun s =>
        s.modCart k fun y => { y with scrubIn := s.now, scrubCe := min 0xFFFFFFFF (y.scrubCe + mram) }) s) s

/-! Double-bit errors. -/

/-- The regions of a controller's MRAM that R931 tells apart. -/
inductive Region where
  | image (b : Bool) | config | boot (n : Nat) | key (cl : Client) | ident | journal | cone (i : Nat) | log (i : Nat) | counters | almanac | unused
deriving DecidableEq, Repr

/-- The region of an address: the places that R431, R767 and R858 give, and those of Config. -/
def regionOf (addr : Nat) : Region :=
  let i := Config.mramIndex addr
  if 0x0300000 ≤ addr ∧ addr ≤ 0x03FFFFF then .journal
  else if 0x0400000 ≤ addr ∧ addr ≤ 0x040FFFF then .cone ((addr - 0x0400000) / 64)
  else if 0x0410000 ≤ addr ∧ addr ≤ 0x04FFFFF then .counters
  else if 0x0F00000 ≤ addr ∧ addr ≤ 0x0F0FFFF then .almanac
  else match Config.mramRegion addr with
    | 0 => .image (i % 2 = 1)
    | 1 => .config
    | 2 => .boot (i % 2)
    | 3 => .key (clientOf i)
    | 4 => .ident
    | 5 => .log i
    | 6 => .counters
    | _ => .unused

/-- The region holds mirrored state (R871). -/
def Region.mirrored : Region → Bool
  | .config => true
  | .key _ => true
  | .journal => true
  | .cone _ => true
  | .log _ => true
  | _ => false

/-- A single error counted in MRAM_CE: what a word rewritten from another copy leaves (R931). -/
def State.countCe (s : State) (c : Ctl) : State := s.modCtl c fun x => { x with mramCe := min 0xFFFFFFFF (x.mramCe + 1) }

/-- An image marked INVALID (R931). -/
def State.spoilImage (s : State) (c : Ctl) (regB : Bool) : State :=
  let s := s.modMram c fun m => { m with boot := (m.boot.setImage regB { m.boot.image regB with st := .invalid }).write }
  s.alarm c 0x0007 c.code true c.code 0 (b2n regB)

/-- A copy of the boot record (R167, R931): rewritten from the other, or lost with it. -/
def State.spoilBoot (s : State) (c : Ctl) (n : Nat) : State :=
  let b := (s.ctl c).mram.boot
  let other := if n = 0 then b.recs[1] else b.recs[0]
  if other.ok then s.modMram c fun m => { m with boot := { m.boot with recs := Vector.replicate 2 other } }
  else ((s.modMram c fun m => { m with boot := m.boot.lost.write }).alarm c 0x0006 c.code true c.code 0 1).alarm c 0x0006 c.code false c.code 1 0

/-- A client key lost (R580, R931). -/
def State.spoilKey (s : State) (c : Ctl) (cl : Client) : State :=
  (s.modMram c fun m => m.modClient cl fun x => { x with keys := [], keyLost := true }).alarm c 0x0903 cl.val true c.code 0 1

/-- The identity copy, rewritten from the code plug (R931). -/
def State.spoilIdent (s : State) (c : Ctl) : State :=
  match s.ownPlug c with
  | some p => s.modMram c fun m => { m with ident := some p }
  | none => (s.modMram c fun m => { m with ident := none }).alarm c 0x0008 0 true c.code 0 1

/-- A cone entry returned with its fields zeroed from here on, reported as LOG_CORRUPT (R931). -/
def State.spoilCone (s : State) (c : Ctl) (i : Nat) : State :=
  match (s.ctl c).mram.cone.entries[i]? with
  | none => s
  | some e =>
    let s := s.modMram c fun m => { m with cone := { m.cone with entries := m.cone.entries.set i { index := e.index } } }
    s.logEv c 0x000E 0 c.code 0 (stdBody e.index 1)

/-- A log record that fails its CRC from here on; its reading reports it (R817). -/
def State.spoilLog (s : State) (c : Ctl) (i : Nat) : State :=
  s.modMram c fun m => { m with log := { m.log with recs := m.log.recs.modify i fun r => { r with bad := true } } }

/-- A double-bit error of a controller handled by its region (R931). -/
def State.byRegion (s : State) (c : Ctl) : Region → State
  | .image b => s.spoilImage c b
  | .config => s.countCe c
  | .boot n => s.spoilBoot c n
  | .key cl => s.spoilKey c cl
  | .ident => s.spoilIdent c
  | .journal => s.countCe c
  | .cone i => s.spoilCone c i
  | .log i => s.spoilLog c i
  | .counters => s.countCe c
  | .almanac => (s.modGnss c fun g => { g with alm := false, almLost := true }).alarm c 0x0C0A c.code true c.code 0 1
  | .unused => s

/-- A double-bit error of a controller (R931): in DUAL a mirrored word is repaired from the peer, by the ACTIVE controller without a change, by
the standby as a resynchronisation. -/
def State.ctrlError (s : State) (c : Ctl) (r : Region) : State :=
  if s.paired ∧ r.mirrored then
    if (s.ctl c).role = .synced then s.setRole c .unsynced 0 4 0x0C else s
  else s.byRegion c r

/-- A double-bit error of a cartridge (R931): its stored items, which read as the defaults of R240 from here on, and its limp-home set, rewritten by the
ACTIVE controller at once; the protection state, bad until it is next saved. -/
def State.cartError (s : State) (k : Slot) (addr : Nat) : State :=
  let n := Config.cartRegion addr
  let s := if n = 1 then overList (chansOf k) (fun c s => s.modProt c fun p => { p with savedOk := false }) s
    else if n = 0 then s.modCart k fun x => { x with items := x.items.filter fun i => 0x0123 ≤ i.id ∧ i.id ≤ 0x0125 }
    else if n = 2 then overList (chansOf k) (fun c s => s.modCtrl c fun x => { x with limpBad := true }) s
    else s
  if n = 0 ∨ n = 2 then
    match s.active with
    | some a => if s.holds a k then s.writeCart a k else s.formDemands k
    | none => s.formDemands k
  else s

/-- DOUBLE_BIT_ERROR (R931, R937). -/
def execDoubleBitError (t : Instant) (w : Part) (addr : Nat) (s : State) : Result :=
  run t (fun s => match w with
    | .ctrl c => when (s.ctl c).running (fun s => s.ctrlError c (regionOf addr)) s
    | .cart k => when (s.cart k).powered (fun s => s.cartError k addr) s) s

/-! The series test. -/

/-- The test may run on a channel (R929, R937). -/
def State.serTestable (s : State) (c : Ch) : Bool :=
  let x := s.chan c
  let g := x.stage
  let olOff : Bool := decide (g.offAt + sec ≤ g.testAt) && decide (s.now + sec < g.testAt + 100 * msec)
  g.output = .off && decide (g.offAt + 10 * sec ≤ s.now) && !g.extV && !olOff && x.ctrl.source ≠ .open && x.ctrl.source ≠ .glaze &&
  s.engine c && (!x.ctrl.half || (s.chan (partner c)).stage.output = .off)

/-- The test is due: 24 h of running time have passed, or a retry has come up. -/
def Stage.serDue (g : Stage) (now : Instant) : Bool :=
  match g.serRetry with
  | some r => r ≤ now
  | none => g.serTestAt + 86400 * sec ≤ now

/-- SERIES_TEST (R929): `out` is the highest OUT voltage seen, and `mid` the MID voltage at the end of the 20 µs. -/
def execSeriesTest (t : Instant) (c : Ch) (out mid : MilliVolt) (s : State) : Result :=
  run t (fun s =>
    let g := (s.chan c).stage
    when ((s.cart (slotOf c)).powered && g.serDue s.now) (fun s =>
      if s.serTestable c then
        let s := s.modStage c fun g => { g with serTestAt := s.now, serRetry := none }
        if 3000 ≤ out then (s.modProt c fun p => { p with discFail := 2 }).chanAlarm c 0x020C true 0 2 out 3000
        else if mid + 2000 < (s.cart (slotOf c)).busMv then s.trip c 0x15
        else s
      else s.modStage c fun g => { g with serRetry := some (s.now + 10 * sec) }) s) s

/-! The daily self-test. -/

/-- DAILY_SELFTEST (R932, R939): HS_SELFTEST_NOW on each claimed cartridge, every 24 h of running time. -/
def execDailySelftest (t : Instant) (c : Ctl) (s : State) : Result :=
  run t (fun s =>
    let x := s.ctl c
    when (x.running && x.role = .active && decide (x.testAt + 86400 * sec ≤ s.now)) (fun s =>
      let s := overList allSlots (fun k s => if s.holds c k then s.setCartTest k 0x10 else s) s
      s.modCtl c fun y => { y with testAt := s.now }) s) s

end Sys2Proof.Machine
end

