-- ==== Sys2Proof/Machine/Pair.lean ====
section
/-!
DEFINITION. Machine/Pair.lean: the pair link and the mirror (chapter 21): heartbeats, FAIL_N, the two-phase commit, digests, resynchronisation and
joining, role swaps, and the time of a standby (R737).
-/
namespace Sys2Proof.Machine

/-! Lanes and heartbeats. -/

/-- A window of a lane with or without a valid frame (R854). -/
def Lane.window (l : Lane) (ok : Bool) : Lane :=
  if ok then { l with good := min 40 (l.good + 1), miss := 0, up := l.up || decide (40 ≤ l.good + 1) }
  else { l with good := 0, miss := min 4 (l.miss + 1), up := l.up && decide (l.miss + 1 < 4) }

/-- PAIR_LINK_DOWN (R900): the lanes that have gone down, at either end. -/
def State.laneAlarm (s : State) (c : Ctl) (was : Vector Lane 2) : State :=
  let x := s.ctl c
  let bitOf := fun (i : Fin 2) => if (x.lanes[i]).up then 0 else if (was[i]).up then 1 else bits x.linkAl i.val 1
  let mask := bitOf 0 ||| (bitOf 1 <<< 1)
  let old := x.linkAl
  if mask = old then s
  else
    let s := s.modCtl c fun y => { y with linkAl := mask }
    let any : Bool := mask ≠ 0 || (s.ctl c.other).linkAl ≠ 0
    let stands : Bool := (s.writer c).any fun w => (s.ctl w).alarmed 0x010B 0
    if any ∧ stands then s.logEv c 0x010B 0 c.code 0 (stdBody old mask) else s.alarm c 0x010B 0 any c.code old mask

/-- One window of both lanes. -/
def State.lanes (s : State) (c : Ctl) (ok0 ok1 : Bool) : State :=
  let was := (s.ctl c).lanes
  (s.modCtl c fun x => { x with lanes := setV (setV x.lanes 0 ((x.lanes[0]).window ok0)) 1 ((x.lanes[1]).window ok1) }).laneAlarm c was

/-- HEARTBEAT_SEND (R853): every 250 µs from the instant the controller leaves ELECTING, and not in HOLD. -/
def execHeartbeatSend (t : Instant) (c : Ctl) (s : State) : Result :=
  run t (fun s =>
    let x := s.ctl c
    when (x.running && x.role ≠ .electing && x.role ≠ .hold && decide (x.beatDue ≤ s.now)) (fun s =>
      s.modCtl c fun x => { x with beatTx := some (s.beatOf c false), beatDue := s.now + 250 * usec }) s) s

/-- Log records between an ACTIVE controller and its STANDBY_SYNCED peer (R813): the standby writes what is pending, and the ACTIVE controller what the
standby has written. -/
def State.mirrorLog (s : State) (a : Ctl) : State :=
  let d := a.other
  if (s.ctl a).role = .active ∧ (s.ctl d).role = .synced then
    let l := (s.ctl a).mram.log
    let recs := (l.recs.filter fun r => newerIndex r.index (s.ctl d).mram.log.next || r.index = (s.ctl d).mram.log.next) ++ l.queue
    let s := s.modMram d fun m => { m with log := { (recs.foldl (fun acc r => acc.mirror r s.now) m.log) with
      voySeq := l.voySeq, voySeen := l.voySeen } }
    let next := (s.ctl d).mram.log.next
    let has := fun (r : LogRec) => newerIndex next r.index
    s.modMram a fun m => { m with log := { (((m.log.queue.filter has).foldl Log.write m.log)) with queue := m.log.queue.filter fun r => !has r } }
  else s

/-- H and the entries of requests that are not journaled, as the ACTIVE controller has them (R540). -/
def State.mirrorWindows (s : State) (a : Ctl) : State :=
  let d := a.other
  if (s.ctl a).role = .active ∧ (s.ctl d).role = .synced then
    let act := (s.ctl a).mram
    s.modMram d fun m => { m with clients := Vector.ofFn fun i =>
      let x := m.client i
      let y := act.client i
      { x with high := y.high, win := (x.win.filter fun e => e.jour && decide (y.high < e.seq + 64)) ++ y.win.filter fun e => !e.jour } }
  else s

/-- A standby's unit time follows the ACTIVE controller's (R737, R745): steered with 1 s, stepped above 1 ms and at the first exchange after a start; state, source, TAI−UTC and SUSPECT
marks come with it. -/
def State.followTime (s : State) (c : Ctl) (b : Beat) : State :=
  let a := (s.ctl c.other).time
  let diff : Int := b.time + ((s.now - b.at_ : Nat) : Int) - s.utime c
  let s := s.modTime c fun x =>
    let x := if (1000000 : Nat) < diff.natAbs ∨ ¬x.joined then (x.jump diff).setSteer s.now a.steer
      else x.setSteer s.now (max (-steerMax) (min steerMax (diff * unitPerNs / 1000000)))
    { x with
      st := a.st, src := a.src, set := a.set, lockedAt := a.lockedAt, holdAt := a.holdAt, errBase := a.errBase, errAt := a.errAt
      tai := a.tai, taiAt := a.taiAt, taiNext := a.taiNext, pairDiff := some (-diff), joined := true
      gnss := { x.gnss with suspect := a.gnss.suspect }, ptp := { x.ptp with suspect := a.ptp.suspect } }
  s

/-- HEARTBEAT (R853, R854, R813, R540, R737): the peer's heartbeat arrives, each lane with a valid copy or without. -/
def execHeartbeat (t : Instant) (c : Ctl) (lane0 lane1 : Bool) (s : State) : Result :=
  run t (fun s =>
    match (s.ctl c.other).beatTx with
    | none => s
    | some b =>
      when (s.ctl c).running (fun s =>
        let s := s.modCtl c.other fun x => { x with beatTx := none }
        let bad := b2n ((((s.ctl c).lanes[0]).up && !lane0)) + b2n ((((s.ctl c).lanes[1]).up && !lane1))
        let s := s.modCtl c fun x => { x with pairErr := min 0xFFFFFFFF (x.pairErr + bad) }
        let s := s.lanes c lane0 lane1
        let s := if s.active.isSome then s.noteMode 2 else s
        if lane0 ∨ lane1 then
          let s := s.modCtl c fun x => { x with missed := 0, beatAt := some s.now, beat := some b }
          if b.role = .active then
            let s := s.seeActive c b.schema b.epoch
            if (s.ctl c).standby ∧ s.linkUp ∧ (s.ctl c.other).role = .active then ((s.mirrorLog c.other).mirrorWindows c.other).followTime c b else s
          else if (s.ctl c).role = .active ∧ s.linkUp then (s.mirrorLog c).mirrorWindows c
          else s
        else s) s) s

/-- HEARTBEAT_MISSED (R854, R878): the next window of 250 µs has passed without a valid heartbeat. Four of them while a cartridge has the peer's frames
fresh mean that the link alone has failed. -/
def execHeartbeatMissed (t : Instant) (c : Ctl) (peerPowered : Bool) (s : State) : Result :=
  run t (fun s =>
    let x := s.ctl c
    let from_ := x.beatAt.getD x.roleIn
    when (x.running && x.role ≠ .electing && x.role ≠ .hold && decide (from_ + (x.missed + 1) * 250 * usec ≤ s.now)) (fun s =>
      let s := (s.modCtl c fun x => { x with missed := satBump 8 x.missed, peerOn := peerPowered }).lanes c false false
      let x := s.ctl c
      let fresh : Bool := allSlots.any fun k => (x.seen[k]).at_.isSome && decide ((x.seen[k]).holder = some c.other) && (x.seen[k]).fresh
      if 4 ≤ x.missed ∧ x.role = .synced ∧ fresh then s.setRole c .unsynced 0 2 0x0B
      else if x.role = .active then s.noteMode 2 else s) s) s

/-- FAIL_N (R855, R895, R900, R902): the peer's line as it reaches the controller. It may stick asserted, but it is released only by a peer that has reached
firmware running. The unit mode is noted where an ACTIVE controller loses its standby; the loss of the ACTIVE controller is FAILOVER's, whose alarm ends with
the reset of the failed controller where FAIL_N had shown it. -/
def execFailN (t : Instant) (c : Ctl) (asserted : Bool) (s : State) : Result :=
  run t (fun s => when ((s.ctl c).running && (asserted || !(s.ctl c.other).failN)) (fun s =>
    let s := s.modCtl c fun x => { x with peerFail := asserted, peerGone := s.track asserted x.peerGone }
    let s := if asserted ∨ (s.ctl c).role ≠ .active ∨ ((s.ctl c).mram.log.lastCause 0x0102) ≠ some 2 then s
      else s.alarm c 0x0102 c.other.code false c.code 1 0
    if (s.ctl c).standby then s else s.noteMode) s) s

/-! The two-phase commit. -/

/-- The ACTIVE controller of a mirrored pair. -/
def State.mirrors (s : State) : Option Ctl :=
  match s.active with
  | some a => if (s.ctl a.other).role = .synced ∧ s.linkUp then some a else none
  | none => none

/-- PREPARE (R860): the standby writes the slot as PREPARED. -/
def execPrepare (t : Instant) (jsn : Nat) (s : State) : Result :=
  run t (fun s =>
    match s.mirrors with
    | none => s
    | some a =>
      match (s.ctl a).mram.slot jsn with
      | none => s
      | some j =>
        when (j.st = .prepared && ((s.ctl a.other).mram.slot jsn).isNone) (fun s =>
          s.modMram a.other fun m => { m with jsn := max m.jsn (jsn + 1), slots := m.slots ++ [{ j.mirrored with prepAt := s.now }] }) s) s

/-- PREP_ACK (R860): the commit point. -/
def execPrepAck (t : Instant) (jsn : Nat) (s : State) : Result :=
  run t (fun s =>
    match s.mirrors with
    | none => s
    | some a =>
      let both : Bool := ((s.ctl a).mram.slot jsn).any (·.st = .prepared) && ((s.ctl a.other).mram.slot jsn).any (·.st = .prepared)
      when both (fun s =>
        (s.commitTx a jsn false).modMram a fun m => m.modSlot jsn fun j => { j with sentAt := some s.now }) s) s

/-- COMMIT (R860): the standby writes the slot as COMMITTED, with the changes. -/
def execCommit (t : Instant) (jsn : Nat) (s : State) : Result :=
  run t (fun s =>
    match s.mirrors with
    | none => s
    | some a => when (((s.ctl a).mram.slot jsn).any fun j => j.st = .committed && j.sentAt.isSome) (fun s => s.mirrorTx a.other jsn) s) s

/-- COMMIT_ACK (R861): the effect is released; a transaction that acts on no cartridge is complete, and its slot is free at both. -/
def execCommitAck (t : Instant) (jsn : Nat) (s : State) : Result :=
  run t (fun s =>
    match s.mirrors with
    | none => s
    | some a =>
      let both : Bool := ((s.ctl a).mram.slot jsn).any (fun j => j.st = .committed && !j.released) &&
        ((s.ctl a.other).mram.slot jsn).any (·.st = .committed)
      when both (fun s =>
        let s := s.releaseTx a replyParams jsn
        if ((s.ctl a).mram.slot jsn).isNone then s.modMram a.other fun m => m.freeSlot jsn else s) s) s

/-- A swap that cannot be made (R628, R886): its request is answered CONFLICT PEER_NOT_SYNCED, and its slot freed. -/
def State.dropSwap (s : State) (a : Ctl) (j : JSlot) : State :=
  let s := match j.req with
    | some q =>
      let now := s.utime a
      let e : WinEntry := { seq := j.seq, st := .complete, status := 0x0401, opcode := j.opcode, jour := j.opcode = 0x0702, time := now,
                            digest := digestOf j.opcode q, detail := 28 }
      (s.enter a q.client e).reply a q j.opcode 0x0401 now (errParams 0xFFFF 0 28)
    | none => s
  s.modMram a fun m => m.freeSlot j.jsn

/-- MIRROR_TIMEOUT (R863, R899): an acknowledgement is missing 1 ms after its message; the standby is STANDBY_UNSYNCED, and what was under way is
completed as in SOLO. -/
def execMirrorTimeout (t : Instant) (s : State) : Result :=
  run t (fun s =>
    match s.active with
    | none => s
    | some a =>
      let lone := s.mirrors.isNone
      let waits := (s.ctl a).mram.slots.filter fun j =>
        j.st = .prepared || (j.st = .committed && j.sentAt.isSome && (!j.released || (j.kind = 6 && lone)))
      let late := waits.any fun j => if j.st = .prepared then decide (j.prepAt + msec ≤ s.now) else s.held j.sentAt msec
      when late (fun s =>
        let s := if (s.ctl a.other).role = .synced then s.setRole a.other .unsynced 0 3 0x07 else s
        overList waits (fun j s =>
          if j.kind = 6 then s.dropSwap a j
          else
            let s := if j.st = .prepared then s.commitTx a j.jsn true
              else s.modMram a fun m => m.modSlot j.jsn fun y => { y with noMirror := true }
            s.releaseTx a replyParams j.jsn) s) s) s

/-! Digests. -/

/-- What the digest covers, in the order of R872: the configuration, the staging area, key generations and states, entries of journaled requests, leases,
subscriptions, and the JSN and state of every slot; how each is laid out is the model's (log entry 82). -/
def Mram.digestBytes (m : Mram) : Bytes :=
  be 4 m.epoch ++ padTo 16 m.hash ++
  (match m.staging with
   | some st => be 1 st.holder.val ++ st.items.flatMap fun i => be 2 i.id ++ be 1 i.ix ++ be 64 i.val
   | none => [0xFF]) ++
  (m.clients.toList.flatMap fun x => x.keys.flatMap fun k =>
    be 1 k.gen ++ be 1 (match k.st with | .current => 0 | .next => 1 | .retiring => 2)) ++
  (m.clients.toList.flatMap fun x => (x.win.filter (·.jour)).flatMap fun e =>
    be 6 e.seq ++ be 1 (match e.st with | .inProgress => 0 | .scheduled => 1 | .complete => 2) ++ be 2 e.status ++ be 2 e.opcode ++ beInt 8 e.time ++ be 4 e.digest) ++
  (m.leases.toList.flatMap fun l => match l with
    | some l => be 1 l.client.val ++ beInt 8 l.stop
    | none => [0xFF]) ++
  (m.clients.toList.flatMap fun x => x.subs.flatMap fun y =>
    be 1 y.handle ++ be 1 y.stream ++ be 2 y.period ++ be 4 y.filter ++ beInt 8 y.stop) ++
  m.slots.flatMap fun j => be 8 j.jsn ++ be 1 (match j.st with | .free => 0 | .prepared => 1 | .committed => 2 | .aborted => 3)

/-- The state digest (R872): the first 8 bytes of SHA-256. -/
def Mram.digest8 (m : Mram) : Bytes := (sha256 m.digestBytes).take 8

/-- STATE_DIGEST (R872): every 100 ms. -/
def execStateDigest (t : Instant) (s : State) : Result :=
  run t (fun s =>
    match s.active with
    | none => s
    | some a => when (decide ((s.ctl a).digestAt ≤ s.now)) (fun s =>
        s.modCtl a fun x => { x with digest := some (x.mram.last, x.mram.digest8), digestAt := s.now + 100 * msec }) s) s

/-- DIGEST_MISMATCH (R872, R900): the standby holds the same JSN and a digest that differs from the one sent and from that of the same state at the ACTIVE
controller. -/
def execDigestMismatch (t : Instant) (s : State) : Result :=
  run t (fun s =>
    match s.mirrors with
    | none => s
    | some a =>
      let m := (s.ctl a.other).mram
      let act := (s.ctl a).mram
      match (s.ctl a).digest with
      | none => s
      | some (jsn, d) =>
        when (decide (jsn = m.last) && decide (act.last = m.last) && m.digest8 ≠ d && m.digest8 ≠ act.digest8) (fun s =>
          let s := (s.modCtl a fun x => { x with digestAl := true }).alarm a.other 0x010C 0 true a.other.code 0 1
          s.setRole a.other .unsynced 0 4 0x0C) s) s

/-! Resynchronisation and joining. -/

/-- The union of two copies of a client's window, with the higher H (R541); keys, subscriptions and counts as the ACTIVE controller has them. -/
def ClientSt.rejoin (own act : ClientSt) : ClientSt :=
  let h := max own.high act.high
  let extra := own.win.filter fun e => !act.win.any (fun y => y.seq = e.seq)
  { act with repMir := act.repSeq, high := h, win := (act.win ++ extra).filter fun e => h < e.seq + 64 }

/-- The logs of two controllers that rejoin (R816): the ACTIVE controller's stands; records of the other beyond the last common one are written afresh with
flag [4], where there is a common one (DESIGN CHOICE, log entry 80); the other then copies the whole. -/
def Log.rejoin (own act : Log) : Log :=
  let common := own.recs.any fun r => act.recs.contains r
  let extra := if common then (own.recs.reverse.takeWhile fun r => !act.recs.contains r).reverse else []
  extra.foldl (fun l r => (l.form { r with flags := r.flags ||| 16 }).flush) act

/-- The mirrored state as a standby copies it (R871, R873, R874). -/
def Mram.copyFrom (own act : Mram) : Mram :=
  { own.setConfig act.items act.epoch act.hash with
    staging := act.staging
    clients := Vector.ofFn fun i => (own.clients[i]).rejoin act.clients[i], leases := act.leases
    slots := act.slots.map fun j => { j.mirrored with released := false }, jsn := act.jsn, last := act.last, hosts := act.hosts, loops := act.loops
    log := { act.log with queue := [], gapAt := none }, cone := act.cone, pagesOk := true }

/-- A standby reaches STANDBY_SYNCED with everything copied (R541, R816, R873, R874): FAILOVER and DEMOTED end (R900), and the ACTIVE controller raises what
the standby has found of itself (R814). -/
def State.syncUp (s : State) (a : Ctl) : State :=
  let d := a.other
  let s := s.modMram a fun m => { m with log := ((s.ctl d).mram.log.flush).rejoin m.log.flush }
  let s := s.modMram a fun m => { m with clients := Vector.ofFn fun i => ((s.ctl d).mram.clients[i]).rejoin m.clients[i] }
  let s := s.modMram d fun m => m.copyFrom (s.ctl a).mram
  let s := s.modCtl d fun x => ({ x with exp := { x.exp with items := expItems x.mram.items }, seen := Vector.ofFn fun k =>
    { x.seen[k] with logged := ((s.ctl a).seen[k]).logged, leaveLog := ((s.ctl a).seen[k]).leaveLog } } : Ctlr).rebuild
  let s := ((s.endForeign d).modCtl a fun x => { x with digestAl := false, digest := none }).alarm a 0x010C 0 false a.code 1 0
  let s := (s.modCtl d Ctlr.dropAlarms).raiseConds a (s.ctlConds d)
  let s := (s.alarm a 0x0102 d.code false a.code 1 0).alarm a 0x0104 d.code false d.code 1 0
  s.setRole d .synced 0 0 0x07

/-- The pair may be synchronised: an ACTIVE controller, a standby that is not, a link and one schema (R873 to R875). -/
def State.mayCopy (s : State) (causes : List Nat) : Option Ctl :=
  match s.active with
  | none => none
  | some a =>
    let x := s.ctl a.other
    if x.running ∧ x.role = .unsynced ∧ causes.contains x.unsync ∧ s.linkUp ∧ (s.ctl a).mram.slots.all (·.st = .committed) then some a else none

/-- RESYNC_COMPLETE (R873). -/
def execResyncComplete (t : Instant) (s : State) : Result :=
  run t (fun s => match s.mayCopy [2, 3, 4, 6] with
    | some a => if (s.ctl a).schema = (s.ctl a.other).schema then s.syncUp a else s
    | none => s) s

/-- JOIN_COMPLETE (R874, R875): a controller of another schema receives the configuration and the keys alone. -/
def execJoinComplete (t : Instant) (s : State) : Result :=
  run t (fun s => match s.mayCopy [1, 5] with
    | some a =>
      if (s.ctl a).schema = (s.ctl a.other).schema then s.syncUp a
      else
        let m := (s.ctl a).mram
        let s := (s.endForeign a.other).modMram a.other fun y => { y.setConfig m.items m.epoch m.hash with
          staging := none, slots := []
          leases := Vector.replicate 16 none
          clients := Vector.ofFn fun i => { keys := (m.clients[i]).keys, repSeq := (m.clients[i]).repSeq, repMir := (m.clients[i]).repMir } }
        s.modCtl a.other fun x => { x with unsync := 5 }
    | none => s) s

/-! Role swaps. -/

/-- Requests under way that a swap lets complete first (R886 step 1). -/
def Ctlr.busyForSwap (x : Ctlr) : Bool :=
  (x.mram.slots.any fun j => j.kind ≠ 6 && !j.sched && !j.replied && j.req.isSome) || !x.exp.queue.isEmpty ||
  (x.gnss.snapRun.any fun r => r.req.isSome)

/-- The reply to what started the swap, by the new ACTIVE controller (R628, R633): its entry is complete at both. -/
def State.answerSwap (s : State) (d : Ctl) (j : JSlot) : State :=
  match j.req with
  | none => s
  | some q =>
    let now := s.utime d
    let e : WinEntry := { seq := j.seq, st := .complete, status := 0, opcode := j.opcode, jour := j.opcode = 0x0702, time := now, digest := digestOf j.opcode q }
    let put := fun (m : Mram) => m.modClient q.client fun x => x.putEntry e
    let s := (s.modMram d put).modMram d.other put
    s.reply d q j.opcode 0 now (if j.opcode = 0x0702 then be 1 d.code ++ zeros 3 else [])

/-- What the former ACTIVE controller does after the swap: it restarts (R633), enters SERVICE where its lever is open (R970), or stands by. -/
def State.afterSwap (s : State) (a : Ctl) (cause : Nat) : State :=
  if cause = 3 then (s.restart a).noteMode
  else if (s.ctl a).lever then (s.modCtl a fun x => { x with leverAt := none }).setRole a .service 0 0 0x03
  else s

/-- Cause of a swap transaction. -/
def JSlot.swapCause (j : JSlot) : Nat := (j.changes.findSome? fun ch => match ch with
  | .swap _ n => some n
  | _ => none).getD 0

/-- HANDOFF (R886 steps 4 to 6): the peer claims every cartridge as it is, and the roles change places in one step. -/
def execHandoff (t : Instant) (s : State) : Result :=
  run t (fun s =>
    match s.mirrors with
    | none => s
    | some a =>
      match (s.ctl a).mram.slots.find? fun j => j.kind = 6 && j.st = .committed && j.released with
      | none => s
      | some j =>
        when (!(s.ctl a).busyForSwap) (fun s =>
          let d := a.other
          let s := s.modMram a fun m => { m with log := m.log.flush, slots := m.slots.filter fun y => y.kind ≠ 6 }
          let m := (s.ctl a).mram
          let acts := (s.ctl a).acts
          let s := s.modMram d fun y => { y with
            log := { m.log with gapAt := none }, slots := m.slots, jsn := m.jsn, last := m.last
            clients := Vector.ofFn fun i => { m.clients[i] with repMir := (m.clients[i]).repSeq } }
          let s := (s.leaveActive a).roleTo a .synced 0 0 0x03
          let s := s.roleTo d .active 0 0 0x03
          let s := s.modMram a fun y => { y with slots := y.slots.map JSlot.mirrored }
          let s := s.modCtl d fun x => { x.rebuild with ready := true, swapAt := some s.now, acts := acts, claims := Vector.replicate 4 {} }
          let s := s.modCtl a fun x => { x with swapAt := some s.now }
          let s := s.adoptAll d
          let s := ((s.takeTime d).newActive d).raiseAfresh d
          let s := if j.swapCause = 2 then s.modCtl d fun x => x.setAlarm 0x0103 a.code true (s.utime d) else s
          let s := s.noteMode.answerSwap d j
          s.afterSwap a j.swapCause) s) s

/-- AUTO_ROLE_SWAP (R888): the ACTIVE controller has lost the link to a present cartridge, and its peer has not. -/
def execAutoRoleSwap (t : Instant) (s : State) : Result :=
  run t (fun s =>
    match s.mirrors with
    | none => s
    | some a =>
      let lost := allSlots.filter fun k => s.present a k && !s.reaches a k
      let peer := allSlots.all fun k => !s.present a k || s.reaches a.other k
      when (!lost.isEmpty && peer) (fun s => s.startSwap a 2) s) s

/-- SPLIT_REELECT (R895): the peer has read as unpowered, or has held FAIL_N asserted, for 10 s. -/
def execSplitReelect (t : Instant) (c : Ctl) (peerPowered : Bool) (s : State) : Result :=
  run t (fun s =>
    let x := s.ctl c
    when (x.running && x.role = .hold && x.cause = 2) (fun s =>
      let gone := s.track (x.peerFail || !peerPowered) x.peerGone
      let s := s.modCtl c fun y => { y with peerGone := gone, peerOn := peerPowered }
      if s.held gone (10 * sec) then
        ((s.modCtl c fun y => { y with elect := none }).alarm c 0x0109 0 false c.code 1 0).setRole c .electing 0 0 0x01
      else s) s) s

/-- TCXO_FAIL (R743, R855, R876): no edges, or above 100 ppm against both the backup RTC and the sample clock; the controller enters FAULTED. -/
def execTcxoFail (t : Instant) (c : Ctl) (noEdges : Bool) (ppmRtc ppmGnss : Nat) (s : State) : Result :=
  run t (fun s =>
    let x := s.ctl c
    let at_ : Bool := x.role = .active || x.standby || x.role = .hold
    when (x.running && at_ && (noEdges || (decide (100 < ppmRtc) && decide (100 < ppmGnss)))) (fun s =>
      let s := if x.role = .active then s.leaveActive c else s
      let s := (s.modCtl c fun y => { y with failN := true, time := { y.time with tcxoFail := true } }).setRole c .faulted 8 0 0x06
      s.alarm c 0x0B06 c.code true c.code 0 1 (max ppmRtc ppmGnss) 100) s) s

end Sys2Proof.Machine
end

