-- ==== Sys2Proof/Machine/PairCmds.lean ====
section
/-!
DEFINITION. Machine/PairCmds.lean: the pair group, opcodes 0x07xx (R626 to R628, R886, R893, R894).
-/
namespace Sys2Proof.Machine

/-! PAIR_STATUS. -/

def hPairStatus : Handler := {
  op := 0x0701, least := 0, own := always, hold := true, len := exactly 0
  run := fun s c _ => .done (s.pairBytes c) s }

/-- PAIR_STATUS (R627). -/
def execPairStatus (t : Instant) (q : Request) (s : State) : Result := run t (fun s => s.perform hPairStatus q) s

/-! ROLE_SWAP. -/

/-- CONFLICT PEER_NOT_SYNCED: the pair is not DUAL with this controller ACTIVE (R626, R886). -/
def State.noPeer (s : State) (c : Ctl) : Bool := !((s.ctl c.other).role = .synced && s.linkUp)

def hRoleSwap : Handler := {
  op := 0x0702, least := 2, jour := true, len := exactly 0
  conflict := fun s c _ => if s.noPeer c then some { status := 0x0401, detail := 28 } else none
  run := fun s c q => .tx (s.swapTx c 0 q.client.val) s }

/-- ROLE_SWAP (R626, R628, R886): answered by the new ACTIVE controller at the HANDOFF. -/
def execRoleSwap (t : Instant) (q : Request) (s : State) : Result := run t (fun s => s.perform hRoleSwap q) s

/-! RESOLVE_SPLIT. -/

/-- The controllers take up the resolution (R893): the winner raises its epoch and becomes ACTIVE; the other sets its configuration aside and joins. -/
def State.splitResolved (s : State) (w : Ctl) : State :=
  let d := w.other
  let old := (s.ctl d).mram.hash
  let s := s.modMram w fun m => m.setConfig m.items (min 0xFFFFFFFF (m.epoch + 1)) m.hash
  let s := s.modMram d fun m => m.joining true
  let s := (s.alarm w 0x0109 0 false w.code 1 0).alarm d 0x0109 0 false d.code 1 0
  let s := s.beActive w 0x06
  let s := s.setRole d .unsynced 0 1 0x06
  s.logEv w 0x0106 0 w.code 0 (stdBody d.code w.code (fieldInt (s.ctl w).mram.hash 0 4) (fieldInt old 0 4))

def hResolveSplit : Handler := {
  op := 0x0703, least := 3, hold := true, len := exactly 4
  range := fun _ _ q => if (ctlOf (field q.params 0 1)).isNone then some { status := 0x0303, off := 0 } else none
  conflict := fun s _ _ => if s.unitMode ≠ .split ∨ ¬s.linkUp then some { status := 0x0401, detail := 6 } else none
  run := fun s _ q => match ctlOf (field q.params 0 1) with
    | some w =>
      let s := s.splitResolved w
      .done (be 4 (s.ctl w).mram.epoch ++ padTo 16 (s.ctl w).mram.hash) s
    | none => .quiet s }

/-- RESOLVE_SPLIT (R628, R893, R894). -/
def execResolveSplit (t : Instant) (q : Request) (s : State) : Result := run t (fun s => s.perform hResolveSplit q) s

end Sys2Proof.Machine
end

