-- ==== Sys2Proof/Machine/FwCmds.lean ====
section
/-!
DEFINITION. Machine/FwCmds.lean: firmware transfers, opcodes 0x0901 to 0x0905 (R163 to R166, R631 to R633, R959).
-/
namespace Sys2Proof.Machine

/-- A controller carries out a firmware command for a target (R632, R959): itself; its peer over the pair link; or a FAULTED peer, whose recovery
loader keeps its end of the link. A FAULTED controller acts for itself alone. -/
def State.reaches_ (s : State) (c d : Ctl) : Bool :=
  let y := s.ctl d
  d = c || (y.fitted && y.powered && (s.ctl c).role ≠ .faulted && ((y.running && s.linkUp) || y.role = .faulted))

/-- A controller that is not ACTIVE and not in HOLD carries out the commands that act on itself alone (R574). -/
def State.relays (s : State) (c : Ctl) : Bool := (s.ctl c).role = .active || (s.ctl c).role = .hold

/-- The target slot of a firmware command that names one. -/
def fwTarget (q : Request) : Option Ctl := ctlOf (field q.params 0 1)

/-- RANGE for a target slot that is not 0x0A or 0x0B. -/
def fwRange : Check := fun _ _ q => if (fwTarget q).isNone then some { status := 0x0303, off := 0 } else none

/-- HW_FAULT PEER_UNREACHABLE. -/
def fwReach : Check := fun s c q => match fwTarget q with
  | some d => if s.reaches_ c d then none else some { status := 0x0501, detail := 29 }
  | none => none

/-- The command acts on the controller that received it. -/
def fwOwn (_ : State) (c : Ctl) (q : Request) : Bool := fwTarget q = some c

/-! FW_BEGIN. -/

/-- The header of a FW_BEGIN, 128 bytes. -/
def fwHeader (q : Request) : Bytes := slice q.params 4 128

/-- The hardware issue mask names an issue (R163). -/
def issueFits (hdr : Bytes) (issue : Nat) : Bool :=
  let m := field hdr 20 4
  (issue = 0x42 && bit m 0) || (issue = 0x43 && bit m 1)

def hFwBegin : Handler := {
  op := 0x0901, least := 3, own := fwOwn, hold := true, len := exactly 132
  param := fun s _ q =>
    let h := fwHeader q
    if field h 0 4 ≠ 0x43564B46 then some { status := 0x0302, off := 4 }
    else if field h 4 2 ≠ 1 then some { status := 0x0302, off := 8 }
    else if field h 12 4 > 1048448 then some { status := 0x0302, off := 16 }
    else match fwTarget q with
      | some d => if issueFits h (s.ctl d).issue then none else some { status := 0x0302, off := 24 }
      | none => none
  range := fwRange
  conflict := fun s c q => match fwTarget q with
    | some d => if s.reaches_ c d ∧ (s.ctl d).transfer.any (·.client ≠ q.client) then some { status := 0x0401 } else none
    | none => none
  hw := fwReach
  run := fun s _ q => match fwTarget q with
    | none => .quiet s
    | some d =>
      let toB := !(s.ctl d).imgB
      let h := fwHeader q
      .done (be 1 (b2n toB) ++ zeros 3)
        (s.modCtl d fun x => { x with transfer := some { client := q.client, toB := toB, hdr := h, len := field h 12 4, parts := [], at_ := s.now } }) }

/-- FW_BEGIN (R632). -/
def execFwBegin (t : Instant) (q : Request) (s : State) : Result := run t (fun s => s.perform hFwBegin q) s

/-! FW_DATA. -/

/-- Bytes put over a disjoint rising list of parts: what was received at the same offsets is replaced (R632). -/
def putPart (o : Nat) (d : Bytes) : List (Nat × Bytes) → List (Nat × Bytes)
  | [] => [(o, d)]
  | (p, b) :: l =>
    let stop := o + d.length
    if p + b.length ≤ o then (p, b) :: putPart o d l
    else if stop ≤ p then (o, d) :: (p, b) :: l
    else
      let before := if p < o then [(p, b.take (o - p))] else []
      if stop < p + b.length then before ++ (o, d) :: (stop, b.drop (stop - p)) :: l
      else before ++ putPart o d l

/-- Bytes received. -/
def Transfer.got (x : Transfer) : Nat := (x.parts.map fun p => p.2.length).sum

/-- The transfer that a client's FW_DATA and FW_COMMIT belong to: of those it has open at the controllers that the receiver acts for, the one begun
last. -/
def State.transferOf (s : State) (c : Ctl) (cl : Client) : Option (Ctl × Transfer) :=
  let own := ((s.ctl c).transfer.filter (·.client = cl)).map fun x => (c, x)
  let other := if s.relays c then ((s.ctl c.other).transfer.filter (·.client = cl)).map fun x => (c.other, x) else none
  match own, other with
  | some a, some b => if a.2.at_ < b.2.at_ then some b else some a
  | some a, none => some a
  | none, b => b

/-- CONFLICT INCOMPLETE: the client has no transfer open. -/
def noTransfer : Check := fun s c q => if (s.transferOf c q.client).isNone then some { status := 0x0401, detail := 27 } else none

def hFwData : Handler := {
  op := 0x0902, least := 3, own := always, hold := true
  len := fun b => 8 ≤ b.length && b.length = 8 + field b 4 2
  range := fun s c q =>
    let n := field q.params 4 2
    if n < 1 ∨ n > 1000 then some { status := 0x0303, off := 4 }
    else match s.transferOf c q.client with
      | some (_, x) => if field q.params 0 4 + n > x.len then some { status := 0x0303, off := 0 } else none
      | none => none
  conflict := noTransfer
  run := fun s c q => match s.transferOf c q.client with
    | some (d, x) =>
      if s.reaches_ c d then
        let y := { x with parts := putPart (field q.params 0 4) (q.params.drop 8) x.parts }
        .done (be 4 y.got) (s.modCtl d fun z => { z with transfer := some y })
      else .quiet s
    | none => .quiet s }

/-- FW_DATA (R632). -/
def execFwData (t : Instant) (q : Request) (s : State) : Result := run t (fun s => s.perform hFwData q) s

/-! FW_COMMIT. -/

/-- The image that a complete transfer holds, as a TRIAL image: `sound` when its signature verifies (R164). -/
def Transfer.image (x : Transfer) : Image :=
  let body := x.parts.flatMap (·.2)
  { st := .trial, hdr := x.hdr, sound := x.len = body.length && Config.signatureOk (field x.hdr 24 1) (x.hdr.take 64) body (slice x.hdr 64 64) }

/-- The image stored, TRIAL and preferred (R166, R167), logged, and IMAGE_INVALID ended (R193). -/
def State.storeImage (s : State) (d : Ctl) (x : Transfer) : State :=
  let old := (s.ctl d).mram.boot
  let s := s.modCtl d fun y => { y with
    transfer := none
    mram := { y.mram with boot := { y.mram.boot.setImage x.toB x.image with prefB := x.toB, trials := 0, recov := decide (y.role = Role.faulted) }.write } }
  let s := s.logEv d 0x0E05 0 d.code d.code (stdBody (b2n old.prefB) (b2n x.toB) (field x.hdr 6 2) (field x.hdr 8 2) 0 (s.ctl d).serial x.client.val)
  s.alarm d 0x0007 d.code false d.code 1 0

def hFwCommit : Handler := {
  op := 0x0903, least := 3, own := always, hold := true, len := exactly 0
  conflict := fun s c q => match s.transferOf c q.client with
    | none => some { status := 0x0401, detail := 27 }
    | some (d, x) =>
      if ¬s.reaches_ c d then none
      else if x.got ≠ x.len then some { status := 0x0401, detail := 27 }
      else if x.image.valid (s.ctl d).mram.boot (s.ctl d).issue then none
      else some { status := 0x0401, detail := 26 }
  run := fun s c q => match s.transferOf c q.client with
    | some (d, x) => if s.reaches_ c d then .done (be 1 (b2n x.toB) ++ be 1 1 ++ zeros 2) (s.storeImage d x) else .quiet s
    | none => .quiet s }

/-- FW_COMMIT (R164, R166, R632). -/
def execFwCommit (t : Instant) (q : Request) (s : State) : Result := run t (fun s => s.perform hFwCommit q) s

/-! FW_RESTART. -/

/-- FORCE. -/
def fwForce (q : Request) : Bool := bit (field q.params 1 1) 0

/-- The restart itself, after the reply (R633): the request is answered and its entry made first. -/
def State.restartNow (s : State) (c d : Ctl) (q : Request) : State :=
  let now := s.utime c
  let e : WinEntry := { seq := q.seq, st := .complete, status := 0, opcode := 0x0904, jour := false, time := now, digest := digestOf 0x0904 q }
  let s := (s.enter c q.client e).reply c q 0x0904 0 now []
  s.restart d

def hFwRestart : Handler := {
  op := 0x0904, least := 3, own := fwOwn, hold := true, len := exactly 4
  denied := fun s _ q => if fwForce q ∧ ¬s.s50 then some { status := 0x0201, detail := 13 } else none
  range := fwRange
  conflict := fun s _ q => match fwTarget q with
    | some d => if (s.ctl d).role = .active ∧ s.noPeer d ∧ ¬fwForce q then some { status := 0x0401, detail := 28 } else none
    | none => none
  run := fun s c q => match fwTarget q with
    | none => .quiet s
    | some d =>
      if (s.ctl d).role = .active ∧ ¬s.noPeer d then .tx (s.swapTx d 3 q.client.val) s
      else if s.reaches_ c d ∧ ((s.ctl d).running ∨ d = c) then .quiet (s.restartNow c d q)
      else .quiet s }

/-- FW_RESTART (R633). -/
def execFwRestart (t : Instant) (q : Request) (s : State) : Result := run t (fun s => s.perform hFwRestart q) s

/-! FW_STATUS. -/

def ImgState.code : ImgState → Nat
  | .invalid => 0 | .trial => 1 | .confirmed => 2

/-- The FW_STATUS reply (R631). -/
def Ctlr.fwBytes (x : Ctlr) : Bytes :=
  let b := x.mram.boot
  be 1 (b2n b.prefB) ++ be 1 (b2n x.imgB) ++ be 1 b.imgA.st.code ++ be 1 b.imgB.st.code ++ be 1 b.trials ++ zeros 3 ++
  padTo 64 (b.imgA.hdr.take 64) ++ padTo 64 (b.imgB.hdr.take 64)

def hFwStatus : Handler := {
  op := 0x0905, least := 3, own := fwOwn, hold := true, len := exactly 4
  range := fwRange
  hw := fwReach
  run := fun s _ q => match fwTarget q with
    | some d => .done (s.ctl d).fwBytes s
    | none => .quiet s }

/-- FW_STATUS (R631). -/
def execFwStatus (t : Instant) (q : Request) (s : State) : Result := run t (fun s => s.perform hFwStatus q) s

end Sys2Proof.Machine
end

