-- ==== Sys2Proof/Machine/KeyCmds.lean ====
section
/-!
DEFINITION. Machine/KeyCmds.lean: keys, opcodes 0x0910 to 0x0912 (R526 to R534, R631, R962).
-/
namespace Sys2Proof.Machine

/-! KEY_LOAD. -/

/-- The slot that a key command names, where it is one. -/
def keyTarget (q : Request) : Nat := field q.params 0 1

/-- The key-encryption key: the CURRENT key of the sending client, or the bootstrap key for a request accepted under it (R531, R962). -/
def State.kek (s : State) (c : Ctl) (q : Request) : Option Bytes :=
  if q.boot then some (s.bootKey c) else (((s.ctl c).mram.client q.client).current).map (·.key)

/-- The key that a KEY_LOAD carries; none where it does not unwrap. -/
def State.loadedKey (s : State) (c : Ctl) (q : Request) : Option Bytes := (s.kek c q).bind fun k => keyUnwrap k (slice q.params 4 40)

/-- The generation after `g` (R531). -/
def nextGen (g : Nat) : Nat := if g = 255 then 1 else g + 1

/-- The generations of a slot with a new key: generation 1 CURRENT in an empty slot, else the next one, NEXT (R531, R962). -/
def ClientSt.loadKey (x : ClientSt) (key : Bytes) (now : Instant) : List KeyGen :=
  let ks := x.keys.filter (·.live now)
  match x.current with
  | some k => ks ++ [{ gen := nextGen k.gen, st := .next, key := key }]
  | none => ks ++ [{ gen := 1, st := .current, key := key }]

def hKeyLoad : Handler := {
  op := 0x0910, least := 0, jour := true, hold := true, len := exactly 44
  denied := fun s c q =>
    let n := keyTarget q
    if n = q.client.val then none
    else if s.roleOf c q.client < 3 ∨ n = 0 then some { status := 0x0201, off := 0 } else none
  param := fun s c q => if (s.loadedKey c q).isNone then some { status := 0x0302, detail := 25, off := 4 } else none
  range := fun _ _ q => if 15 < keyTarget q then some { status := 0x0303, off := 0 } else none
  conflict := fun s c q =>
    if ((s.ctl c).mram.client (clientOf (keyTarget q))).keys.any (fun k => k.st ≠ .current && k.live s.now) then some { status := 0x0401 } else none
  run := fun s c q =>
    let cl := clientOf (keyTarget q)
    let x := (s.ctl c).mram.client cl
    match s.loadedKey c q with
    | none => .quiet s
    | some key =>
      let ks := x.loadKey key s.now
      let gen := ((ks.getLast?).map (·.gen)).getD 0
      .tx { changes := [.keys cl ks] ++ (if x.keys.isEmpty then [.window cl] else []) ++
        [.record (s.cmdRecord c 0x0901 cl.val 0 gen q.client)] } s }

/-- KEY_LOAD (R531, R532, R534). -/
def execKeyLoad (t : Instant) (q : Request) (s : State) : Result := run t (fun s => s.perform hKeyLoad q) s

/-! KEY_CLEAR. -/

/-- What ends with the keys of a slot (R533, R549, R561, R638): leases, subscriptions, scheduled requests, and the staging area it holds. -/
def Mram.clearSlot (m : Mram) (cl : Client) : List Change :=
  (allCh.filterMap fun ch => match m.leases[ch] with
    | some l => if l.client = cl then some (Change.lease ch none) else none
    | none => none) ++
  ((m.slots.filter fun j => j.client = cl.val && j.sched && !j.taken).map fun j => Change.withdraw j.jsn 1) ++
  (if m.staging.any (·.holder = cl) then [Change.staging none] else []) ++ [.subs cl [], .keys cl [], .window cl]

def hKeyClear : Handler := {
  op := 0x0911, least := 3, jour := true, hold := true, len := exactly 4
  denied := fun _ _ q => if keyTarget q = 0 then some { status := 0x0201, off := 0 } else none
  range := fun _ _ q => if 15 < keyTarget q then some { status := 0x0303, off := 0 } else none
  run := fun s c q =>
    let cl := clientOf (keyTarget q)
    .tx { changes := (s.ctl c).mram.clearSlot cl ++ [.record (s.cmdRecord c 0x0902 cl.val 1 0 q.client)] } s }

/-- KEY_CLEAR (R533, R534). -/
def execKeyClear (t : Instant) (q : Request) (s : State) : Result := run t (fun s => s.perform hKeyClear q) s

/-! SIGN_REVOKE. -/

/-- The key of this index signs the image that a controller runs. -/
def Ctlr.runsOn (x : Ctlr) (k : Nat) : Bool := x.running && field (if x.imgB then x.mram.boot.imgB else x.mram.boot.imgA).hdr 24 1 = k

def hSignRevoke : Handler := {
  op := 0x0912, least := 3, jour := true, hold := true, len := exactly 4
  denied := fun s _ _ => if s.s50 then none else some { status := 0x0201, detail := 13 }
  range := fun _ _ q => if 1 < field q.params 0 1 then some { status := 0x0303, off := 0 } else none
  conflict := fun s _ q =>
    if s.ctlA.runsOn (field q.params 0 1) ∨ s.ctlB.runsOn (field q.params 0 1) then some { status := 0x0401 } else none
  run := fun s c q =>
    let k := field q.params 0 1
    .tx { changes := [.revoke k, .record (s.cmdRecord c 0x0E06 k 0 1 q.client)] } s }

/-- SIGN_REVOKE (R164, R631). -/
def execSignRevoke (t : Instant) (q : Request) (s : State) : Result := run t (fun s => s.perform hSignRevoke q) s

end Sys2Proof.Machine
end

