-- ==== Sys2Proof/Machine/LogCmds.lean ====
section
/-!
DEFINITION. Machine/LogCmds.lean: the log and cone group, opcodes 0x05xx (R436, R621 to R623, R810 to R812, R817).
-/
namespace Sys2Proof.Machine

/-! Reading the log. -/

/-- The records from an index in a direction, that one first; none where the index is not held. -/
def Log.walk (l : Log) (start : Nat) (older : Bool) : List LogRec :=
  let rs := if older then l.recs.reverse else l.recs
  rs.dropWhile fun r => r.index ≠ start

/-- The records examined, with those returned: up to `n` of the classes in `mask`, and at most `fuel` examined (R810). -/
def examine (mask : Nat) : Nat → Nat → List LogRec → List LogRec × List LogRec
  | 0, _, rest => ([], rest)
  | _, 0, rest => ([], rest)
  | _, _, [] => ([], [])
  | fuel + 1, n + 1, r :: rest =>
    if bit mask (if r.bad then 0 else classOf r.code) then
      let (found, rest') := examine mask fuel n rest
      (r :: found, rest')
    else examine mask fuel (n + 1) rest

/-- Corrupt records met by a read (R817): counted in MRAM_CE, and logged at most once in 10 minutes. -/
def State.noteCorrupt (s : State) (c : Ctl) (l : List LogRec) : State :=
  match l.filter (·.bad) with
  | [] => s
  | r :: rs =>
    let n := rs.length + 1
    let s := s.modCtl c fun x => { x with mramCe := min 0xFFFFFFFF (x.mramCe + n), mram := { x.mram with log := { x.mram.log with
      corrupt := some (x.mram.log.corrupt.getD r.index), corruptN := x.mram.log.corruptN + n } } }
    let g := (s.ctl c).mram.log
    let due : Bool := match g.corruptAt with
      | some a => decide (a + 600 * sec ≤ s.now)
      | none => true
    if due then
      let s := s.logEv c 0x000E 0 c.code 0 (stdBody (g.corrupt.getD 0) g.corruptN)
      s.modMram c fun m => { m with log := { m.log with corrupt := none, corruptN := 0, corruptAt := some s.now } }
    else s

def hLogRead : Handler := {
  op := 0x0501, least := 0, own := always, hold := true, len := exactly 12
  range := fun s c q =>
    let n := field q.params 4 1
    if ((s.ctl c).mram.log.walk (field q.params 0 4) false).isEmpty then some { status := 0x0303, off := 0 }
    else if n < 1 ∨ n > 15 then some { status := 0x0303, off := 4 }
    else if field q.params 5 1 > 1 then some { status := 0x0303, off := 5 }
    else if field q.params 8 4 % 2 ^ 19 = 0 then some { status := 0x0303, off := 8 }
    else none
  run := fun s c q =>
    let older := decide (field q.params 5 1 = 1)
    let all := (s.ctl c).mram.log.walk (field q.params 0 4) older
    let (found, rest) := examine (field q.params 8 4 % 2 ^ 19) 4096 (field q.params 4 1) all
    let next := ((rest.head?).map (·.index)).getD 0xFFFFFFFF
    .done (be 4 next ++ be 1 found.length ++ zeros 3 ++ found.flatMap LogRec.bytes) (s.noteCorrupt c (all.take (all.length - rest.length))) }

/-- LOG_READ (R810, R817, R623). -/
def execLogRead (t : Instant) (q : Request) (s : State) : Result := run t (fun s => s.perform hLogRead q) s

def hLogFind : Handler := {
  op := 0x0502, least := 0, own := always, hold := true, len := exactly 8
  run := fun s c q =>
    let T := fieldInt q.params 0 8
    let r := (s.ctl c).mram.log.recs.find? fun r => !r.bad && decide (T ≤ r.time) && !bit r.flags 0
    .done (be 4 ((r.map (·.index)).getD 0xFFFFFFFF)) s }

/-- LOG_FIND (R811). -/
def execLogFind (t : Instant) (q : Request) (s : State) : Result := run t (fun s => s.perform hLogFind q) s

/-- The text of a mark (R812): printable bytes, then zeros. -/
def markOk (b : Bytes) : Bool := (b.dropWhile fun x => 0x20 ≤ x.toNat ∧ x.toNat ≤ 0x7E).all fun x => x = 0

/-- Offset of the first byte that R812 refuses. -/
def markOff (b : Bytes) : Nat :=
  let n := (b.takeWhile fun x => 0x20 ≤ x.toNat ∧ x.toNat ≤ 0x7E).length
  n + ((b.drop n).takeWhile fun x => x = 0).length

def hLogMark : Handler := {
  op := 0x0503, least := 1, jour := true, hold := true, len := exactly 32
  range := fun _ _ q => if markOk q.params then none else some { status := 0x0303, off := markOff q.params }
  run := fun s c q => .tx { changes := [.record (s.record c 0x1001 0 c.code 0 (padTo 32 q.params ++ be 1 q.client.val))] } s }

/-- LOG_MARK (R806, R812). -/
def execLogMark (t : Instant) (q : Request) (s : State) : Result := run t (fun s => s.perform hLogMark q) s

def hLogStatus : Handler := {
  op := 0x0504, least := 0, own := always, hold := true, len := exactly 0
  run := fun s c _ =>
    let l := (s.ctl c).mram.log
    let ix := fun (r : Option LogRec) => (r.map (·.index)).getD 0xFFFFFFFF
    .done (be 4 (ix l.recs.head?) ++ be 4 (ix l.recs.getLast?) ++ be 4 l.losses ++ be 1 l.queue.length ++ zeros 3) s }

/-- LOG_STATUS (R621). -/
def execLogStatus (t : Instant) (q : Request) (s : State) : Result := run t (fun s => s.perform hLogStatus q) s

/-! The cone record. -/

def hConeRead : Handler := {
  op := 0x0511, least := 0, own := always, hold := true, len := exactly 8
  range := fun _ _ q =>
    let n := field q.params 4 1
    if n < 1 ∨ n > 15 then some { status := 0x0303, off := 4 } else none
  run := fun s c q =>
    let a := field q.params 0 4
    let l := (s.ctl c).mram.cone.entries.filter fun e => a ≤ e.index && decide (e.index < a + field q.params 4 1)
    .done (be 1 l.length ++ zeros 3 ++ l.flatMap ConeEntry.bytes) s }

/-- CONE_READ (R432, R623). -/
def execConeRead (t : Instant) (q : Request) (s : State) : Result := run t (fun s => s.perform hConeRead q) s

def hConeStatus : Handler := {
  op := 0x0512, least := 0, own := always, hold := true, len := exactly 0
  run := fun s c _ => .done (s.coneStatusBytes c) s }

/-- CONE_STATUS (R622). -/
def execConeStatus (t : Instant) (q : Request) (s : State) : Result := run t (fun s => s.perform hConeStatus q) s

def hConeClear : Handler := {
  op := 0x0513, least := 3, jour := true, hold := true, len := exactly 4
  denied := fun s _ _ => if s.s50 then none else some { status := 0x0201, detail := 13 }
  conflict := fun s c q =>
    if field q.params 0 2 = (s.ctl c).mram.cone.entries.length then none else some { status := 0x0401, detail := 11, off := 0 }
  run := fun s c q =>
    let x := (s.ctl c).mram.cone
    let n := x.entries.length
    .tx { seq := n, changes := [.coneClear,
      .record (s.record c 0x0507 0 c.code 0 (stdBody n 0 x.highest 0 0 spaces12 q.client.val))] } s }

/-- CONE_CLEAR (R436, R623). -/
def execConeClear (t : Instant) (q : Request) (s : State) : Result := run t (fun s => s.perform hConeClear q) s

end Sys2Proof.Machine
end

