-- ==== Sys2Proof/Machine/MeasCmds.lean ====
section
/-!
DEFINITION. Machine/MeasCmds.lean: the measurement and housekeeping group, opcodes 0x03xx (R615 to R618), and the time and GNSS group, 0x04xx (R619,
R620, R636).
-/
namespace Sys2Proof.Machine

/-! Measurement and housekeeping. -/

def hGetChannel : Handler := {
  op := 0x0301, least := 0, own := always, len := exactly 4
  range := fun _ _ q => if field q.params 2 1 > 2 then some { status := 0x0303, off := 2 } else none
  run := fun s c q =>
    let cs := chansIn (field q.params 0 2)
    .done (be 1 cs.length ++ zeros 3 ++ cs.flatMap fun ch => be 4 ((s.ctl c).wordOf ch) ++ s.measOf ch (field q.params 2 1)) s }

/-- GET_CHANNEL (R615). -/
def execGetChannel (t : Instant) (q : Request) (s : State) : Result := run t (fun s => s.perform hGetChannel q) s

/-- Reading a twin's record clears TWIN_FORCED (R419). -/
def State.readTwin (s : State) (p : Pair) : State :=
  if (s.twin p).forced then (s.modTwin p fun w => { w with forced := false }).pairFlag p 0x0308 true false else s

def hGetTwin : Handler := {
  op := 0x0302, least := 0, len := exactly 4
  run := fun s c q =>
    let ps := pairsIn (field q.params 0 1)
    .done (be 1 ps.length ++ zeros 3 ++ ps.flatMap fun p => s.twinRecord c p) (overList ps (fun p s => s.readTwin p) s) }

/-- GET_TWIN (R615). -/
def execGetTwin (t : Instant) (q : Request) (s : State) : Result := run t (fun s => s.perform hGetTwin q) s

def hLatchMeas : Handler := {
  op := 0x0303, least := 1, len := exactly 8
  range := fun s c q =>
    let lead := fieldInt q.params 0 8 - s.utime c
    if lead < msec ∨ lead > 10 * sec then some { status := 0x0303, off := 0 } else none
  busy := fun s c _ => ((s.ctl c).latchAt).map fun T => (7, some T)
  conflict := fun s c _ => if (s.ctl c).time.st = .unset then some { status := 0x0401, detail := 16 } else none
  run := fun s c q =>
    let T := fieldInt q.params 0 8
    .done (beInt 8 T) (s.modCtl c fun x => { x with latchAt := some T, latched := none }) }

/-- LATCH_MEAS (R355, R615). -/
def execLatchMeas (t : Instant) (q : Request) (s : State) : Result := run t (fun s => s.perform hLatchMeas q) s

def hLatchRead : Handler := {
  op := 0x0304, least := 0, len := exactly 0
  conflict := fun s c _ => if (s.ctl c).latched.isNone then some { status := 0x0401, detail := 22 } else none
  run := fun s c _ => .done (s.latchBytes ((s.ctl c).latched.getD 0)) s }

/-- LATCH_READ (R615, R618). -/
def execLatchRead (t : Instant) (q : Request) (s : State) : Result := run t (fun s => s.perform hLatchRead q) s

/-- The 100 ms mean of a trigger's pairs as a record with interval code 3 (R354). -/
def State.triggerMean (s : State) (c : Ch) (b : Bool) : Bytes :=
  let x := s.chan c
  measRecord c 3 { x.meas.avg100ms with current := if b then x.gen.trgBMean else x.gen.trgAMean, power := 0, blanked := 0 }

def hGetTrigger : Handler := {
  op := 0x0305, least := 0, own := always, len := exactly 4
  range := fun _ _ q =>
    if (chNum (field q.params 0 1)).isNone then some { status := 0x0303, off := 0 }
    else if field q.params 1 1 > 1 then some { status := 0x0303, off := 1 } else none
  run := fun s _ q =>
    match chNum (field q.params 0 1) with
    | none => .quiet s
    | some ch =>
      let g := (s.chan ch).gen
      let b := decide (field q.params 1 1 = 1)
      .done (beInt 8 (if b then g.trgBTime else g.trgATime) ++ beInt 4 (if b then g.trgB1 else g.trgA1) ++ beInt 4 (if b then g.trgB2 else g.trgA2) ++
        be 1 (b2n (if b then g.trgBBlank else g.trgABlank)) ++ zeros 3 ++ s.triggerMean ch b) s }

/-- GET_TRIGGER (R354, R615). -/
def execGetTrigger (t : Instant) (q : Request) (s : State) : Result := run t (fun s => s.perform hGetTrigger q) s

def hGetEnergy : Handler := {
  op := 0x0306, least := 0, own := always, len := exactly 0
  run := fun s c _ => .done (s.ctl c).energyBytes s }

/-- GET_ENERGY (R357, R615). -/
def execGetEnergy (t : Instant) (q : Request) (s : State) : Result := run t (fun s => s.perform hGetEnergy q) s

def hGetHk : Handler := {
  op := 0x0307, least := 0, own := always, len := exactly 0
  run := fun s c _ => .done (s.ctl c).hk s }

/-- GET_HK (R617). -/
def execGetHk (t : Instant) (q : Request) (s : State) : Result := run t (fun s => s.perform hGetHk q) s

def hGetAlarms : Handler := {
  op := 0x0308, least := 0, own := always, len := exactly 4
  run := fun s c q =>
    let l := (s.ctl c).activeAlarms
    let part := (l.drop (field q.params 0 2)).take 60
    .done (be 2 l.length ++ be 1 part.length ++ zeros 1 ++ part.flatMap Alarm.bytes) s }

/-- GET_ALARMS (R615, R616). -/
def execGetAlarms (t : Instant) (q : Request) (s : State) : Result := run t (fun s => s.perform hGetAlarms q) s

def hGetPortStats : Handler := {
  op := 0x0309, least := 0, own := always, len := exactly 4
  range := fun _ _ q =>
    let port := field q.params 0 1
    if port ≠ 1 ∧ port ≠ 2 then some { status := 0x0303, off := 0 } else if field q.params 1 1 > 4 then some { status := 0x0303, off := 1 } else none
  run := fun s c q =>
    let x := (s.ctl c).phy (if field q.params 0 1 = 1 then .a else .b)
    let page := field q.params 1 1
    if page = 0 then .done (be 1 x.st.code ++ zeros 3 ++ x.cnt.bytes) s
    else
      let l := ((x.srcs ++ [x.other]).drop (17 * (page - 1))).take 17
      .done (be 1 l.length ++ zeros 3 ++ l.flatMap SrcEntry.bytes) s }

/-- GET_PORT_STATS (R511, R514, R615). -/
def execGetPortStats (t : Instant) (q : Request) (s : State) : Result := run t (fun s => s.perform hGetPortStats q) s

/-! Time and GNSS. -/

def hGetTime : Handler := {
  op := 0x0401, least := 0, own := always, len := exactly 0
  run := fun s c _ => .done (s.timeBytes c) s }

/-- GET_TIME (R619). -/
def execGetTime (t : Instant) (q : Request) (s : State) : Result := run t (fun s => s.perform hGetTime q) s

def hGetGnss : Handler := {
  op := 0x0402, least := 0, own := always, len := exactly 0
  run := fun s c _ => .done (s.gnssBytes c) s }

/-- GET_GNSS (R619). -/
def execGetGnss (t : Instant) (q : Request) (s : State) : Result := run t (fun s => s.perform hGetGnss q) s

/-- The band of a band byte. -/
def gnssBand (n : Nat) : Band := if n = 1 then .l5 else .l1

def hGetGnssMeas : Handler := {
  op := 0x0403, least := 0, own := always, len := exactly 4
  range := fun _ _ q =>
    if field q.params 0 1 > 1 then some { status := 0x0303, off := 0 } else if field q.params 1 1 > 31 then some { status := 0x0303, off := 1 } else none
  run := fun s c q => .done ((s.ctl c).gnss.measBytes (gnssBand (field q.params 0 1)) (field q.params 1 1)) s }

/-- GET_GNSS_MEAS (R619). -/
def execGetGnssMeas (t : Instant) (q : Request) (s : State) : Result := run t (fun s => s.perform hGetGnssMeas q) s

/-- The next measurement epoch after an instant (R760). -/
def nextEpochOf (u : UnitTime) (rate : Nat) : UnitTime := epochOf u rate + ((1000000000 / max 1 rate : Nat) : Int)

def hSnapCapture : Handler := {
  op := 0x0404, least := 2, len := exactly 12
  range := fun s c q =>
    let n := field q.params 0 1
    let mask := field q.params 1 1
    let T := fieldInt q.params 4 8
    let lead := T - s.utime c
    if ¬[2, 4, 8, 16, 32].contains n then some { status := 0x0303, off := 0 }
    else if mask < 1 ∨ mask > 3 then some { status := 0x0303, off := 1 }
    else if field q.params 2 1 > 1 then some { status := 0x0303, off := 2 }
    else if T ≠ 0 ∧ (lead < 10 * msec ∨ lead > 3600 * sec) then some { status := 0x0303, off := 4 }
    else none
  busy := fun s c _ => ((s.ctl c).gnss.snapRun).map fun r => (6, some (s.snapEnd c r))
  conflict := fun s c q =>
    if fieldInt q.params 4 8 ≠ 0 ∧ (s.ctl c).time.st = .unset then some { status := 0x0401, detail := 16 } else none
  run := fun s c q =>
    let T := fieldInt q.params 4 8
    let now := s.utime c
    let start := if T ≠ 0 then T else if (s.ctl c).time.st = .unset then now else nextEpochOf now (s.ctl c).gnss.rate
    let mask := field q.params 1 1
    .later (s.capture c (field q.params 0 1) (field q.params 2 1) (bit mask 0) (bit mask 1) start false (some q)) }

/-- SNAP_CAPTURE (R619, R620). -/
def execSnapCapture (t : Instant) (q : Request) (s : State) : Result := run t (fun s => s.perform hSnapCapture q) s

def hSnapRead : Handler := {
  op := 0x0405, least := 0, own := always, len := exactly 12
  range := fun s c q =>
    let n := field q.params 8 2
    match (s.ctl c).gnss.snapHeld with
    | some r =>
      if n < 1 ∨ n > 1000 then some { status := 0x0303, off := 8 }
      else if r.id = field q.params 0 2 ∧ field q.params 4 4 + n > r.file.length then some { status := 0x0303, off := 4 } else none
    | none => if n < 1 ∨ n > 1000 then some { status := 0x0303, off := 8 } else none
  conflict := fun s c q =>
    if (s.ctl c).gnss.snapHeld.any (fun r => r.id = field q.params 0 2) then none else some { status := 0x0401, detail := 23 }
  run := fun s c q =>
    let file := (((s.ctl c).gnss.snapHeld).map (·.file)).getD []
    .done (be 4 (field q.params 4 4) ++ be 2 (field q.params 8 2) ++ zeros 2 ++ slice file (field q.params 4 4) (field q.params 8 2)) s }

/-- SNAP_READ (R619, R636). -/
def execSnapRead (t : Instant) (q : Request) (s : State) : Result := run t (fun s => s.perform hSnapRead q) s

end Sys2Proof.Machine
end

