-- ==== Sys2Proof/WellFormed.lean ====
section
/-!
DEFINITION. WellFormed.lean: which commands can stand outside the unit: every operand lies within the field, the register or the frame
that carries it (R12, R15, R497, R523, R799), and every instant fits its counter.
-/
namespace Sys2Proof

/-- An unsigned number fits a field of `n` bits. -/
def fits (n v : Nat) : Bool := v < 2 ^ n

/-- A signed number fits a field of `n` bits. -/
def fitsInt (n : Nat) (v : Int) : Bool := -(2 ^ (n - 1) : Nat) ≤ v && v < (2 ^ (n - 1) : Nat)

/-- An IPv4 address and a UDP port. -/
def Endpoint.wf (e : Endpoint) : Bool := fits 32 e.ip && fits 16 e.port

/-- The fields of a packet as R523 sizes them, with at most 1024 bytes of parameters. -/
def Request.wf (q : Request) : Bool :=
  fits 8 q.gen && fits 48 q.seq && fitsInt 64 q.time && q.params.length ≤ 1024 && q.src.wf

/-- A well-formed command. -/
def Instr.wf : Instr → Bool
  | .ping t q => fits 63 t && q.wf
  | .identify t q => fits 63 t && q.wf
  | .sessionInfo t q => fits 63 t && q.wf
  | .setAddress t q => fits 63 t && q.wf
  | .subscribe t q => fits 63 t && q.wf
  | .unsubscribe t q => fits 63 t && q.wf
  | .listSubs t q => fits 63 t && q.wf
  | .setChannel t q => fits 63 t && q.wf
  | .setGroup t q => fits 63 t && q.wf
  | .setPwm t q => fits 63 t && q.wf
  | .clearTrip t q => fits 63 t && q.wf
  | .clearGlaze t q => fits 63 t && q.wf
  | .own t q => fits 63 t && q.wf
  | .release t q => fits 63 t && q.wf
  | .setLoop t q => fits 63 t && q.wf
  | .getConfig t q => fits 63 t && q.wf
  | .stageConfig t q => fits 63 t && q.wf
  | .commitConfig t q => fits 63 t && q.wf
  | .discardConfig t q => fits 63 t && q.wf
  | .getChannel t q => fits 63 t && q.wf
  | .getTwin t q => fits 63 t && q.wf
  | .latchMeas t q => fits 63 t && q.wf
  | .latchRead t q => fits 63 t && q.wf
  | .getTrigger t q => fits 63 t && q.wf
  | .getEnergy t q => fits 63 t && q.wf
  | .getHk t q => fits 63 t && q.wf
  | .getAlarms t q => fits 63 t && q.wf
  | .getPortStats t q => fits 63 t && q.wf
  | .getTime t q => fits 63 t && q.wf
  | .getGnss t q => fits 63 t && q.wf
  | .getGnssMeas t q => fits 63 t && q.wf
  | .snapCapture t q => fits 63 t && q.wf
  | .snapRead t q => fits 63 t && q.wf
  | .logRead t q => fits 63 t && q.wf
  | .logFind t q => fits 63 t && q.wf
  | .logMark t q => fits 63 t && q.wf
  | .logStatus t q => fits 63 t && q.wf
  | .coneRead t q => fits 63 t && q.wf
  | .coneStatus t q => fits 63 t && q.wf
  | .coneClear t q => fits 63 t && q.wf
  | .winRead t q => fits 63 t && q.wf
  | .winWrite t q => fits 63 t && q.wf
  | .winErase t q => fits 63 t && q.wf
  | .spiXfer t q => fits 63 t && q.wf
  | .pairStatus t q => fits 63 t && q.wf
  | .roleSwap t q => fits 63 t && q.wf
  | .resolveSplit t q => fits 63 t && q.wf
  | .regRead t q => fits 63 t && q.wf
  | .regWrite t q => fits 63 t && q.wf
  | .fwBegin t q => fits 63 t && q.wf
  | .fwData t q => fits 63 t && q.wf
  | .fwCommit t q => fits 63 t && q.wf
  | .fwRestart t q => fits 63 t && q.wf
  | .fwStatus t q => fits 63 t && q.wf
  | .keyLoad t q => fits 63 t && q.wf
  | .keyClear t q => fits 63 t && q.wf
  | .signRevoke t q => fits 63 t && q.wf
  | .debugHalt t q => fits 63 t && q.wf
  | .cartEpochReset t q => fits 63 t && q.wf
  | .scrubEn t _ _ => fits 63 t
  | .scrubNow t _ => fits 63 t
  | .oltestNow t _ mv0 mv1 => fits 63 t && fitsInt 32 mv0 && fitsInt 32 mv1
  | .hsSelftestNow t _ _ _ => fits 63 t
  | .notchEnable t _ _ _ => fits 63 t
  | .syaskegDatagram t _ _ src dst data => fits 63 t && src.wf && fits 32 dst && decide (data.length ≤ 1472)
  | .x50Transfer t _ data => fits 63 t && decide (data.length ≤ 1472)
  | .ipv4Datagram t _ _ mac data => fits 63 t && fits 48 mac && decide (data.length ≤ 1500)
  | .arpFrame t _ _ op mac ip target => fits 63 t && fits 16 op && fits 48 mac && fits 32 ip && fits 32 target
  | .icmpEchoRequest t _ _ ip dst id data => fits 63 t && fits 32 ip && fits 32 dst && fits 32 id && decide (data.length ≤ 1472)
  | .ptpSync t _ _ master domain seq _ origin => fits 63 t && fits 80 master && fits 8 domain && fits 16 seq && fitsInt 64 origin
  | .ptpFollowUp t _ _ master domain seq origin => fits 63 t && fits 80 master && fits 8 domain && fits 16 seq && fitsInt 64 origin
  | .ptpAnnounce t _ _ _ => fits 63 t
  | .ptpDelayResp t _ _ master domain seq rx => fits 63 t && fits 80 master && fits 8 domain && fits 16 seq && fitsInt 64 rx
  | .delayReq t _ => fits 63 t
  | .ptpMasterLost t _ => fits 63 t
  | .plcaBeacon t _ _ _ => fits 63 t
  | .beaconLoss t _ _ => fits 63 t
  | .rxFcs t _ _ => fits 63 t
  | .portQuiet t _ _ => fits 63 t
  | .portDown t _ _ _ => fits 63 t
  | .portUp t _ _ => fits 63 t
  | .arpRetry t _ _ ip => fits 63 t && fits 32 ip
  | .arpEntryExpiry t _ _ => fits 63 t
  | .gratuitousArp t _ _ => fits 63 t
  | .dupEntryExpiry t _ => fits 63 t
  | .strangerTrafficClear t _ _ => fits 63 t
  | .addressChangeEffect t _ => fits 63 t
  | .keyRetiringErase t _ => fits 63 t
  | .leaseExpiry t _ => fits 63 t
  | .subscriptionEnd t _ handle => fits 63 t && fits 3 handle
  | .streamReport t _ handle => fits 63 t && fits 3 handle
  | .stageHoldExpiry t => fits 63 t
  | .reportSeqMirror t => fits 63 t
  | .scheduleArm t jsn => fits 63 t && fits 64 jsn
  | .armedApply t _ => fits 63 t
  | .scheduleUnarmedApply t jsn => fits 63 t && fits 64 jsn
  | .scheduledSetLoop t jsn => fits 63 t && fits 64 jsn
  | .logicPowerUp t _ _ => fits 63 t
  | .firmwareRunning t _ => fits 63 t
  | .elect t _ => fits 63 t
  | .electSend t _ => fits 63 t
  | .electTimeout t _ _ => fits 63 t
  | .claimReq t _ _ => fits 63 t
  | .claimAck t _ _ => fits 63 t
  | .claimGo t _ _ => fits 63 t
  | .claimArmTimeout t _ => fits 63 t
  | .claimRetry t _ _ => fits 63 t
  | .commandReady t _ => fits 63 t
  | .imageConfirmed t _ => fits 63 t
  | .logicDip t _ mv => fits 63 t && fitsInt 32 mv
  | .powerFail t _ => fits 63 t
  | .powerFailRestart t _ _ => fits 63 t
  | .holdupExhausted t _ steps => fits 63 t && fits 32 steps
  | .holdupCharged t _ => fits 63 t
  | .holdupPrediction t _ ms => fits 63 t && fits 32 ms
  | .logicInputState t _ _ mv => fits 63 t && fitsInt 32 mv
  | .powerBusBand t _ mv => fits 63 t && fitsInt 32 mv
  | .uvloFreewheelCap t _ => fits 63 t
  | .ovOff t _ => fits 63 t
  | .ovOffExit t _ => fits 63 t
  | .restartStagger t _ => fits 63 t
  | .cartridgeStart t _ mv serial => fits 63 t && fitsInt 32 mv && decide (serial.length = 12)
  | .insertionHoldEnd t _ => fits 63 t
  | .cellInserted t _ => fits 63 t
  | .cellQualificationEnd t _ ohm mv => fits 63 t && fits 32 ohm && fitsInt 32 mv
  | .prechargeDone t _ mv => fits 63 t && fitsInt 32 mv
  | .cellRemoved t _ => fits 63 t
  | .cellLoadTest t _ minMv dropMv => fits 63 t && fitsInt 32 minMv && fitsInt 32 dropMv
  | .chargerControl t _ mv ua => fits 63 t && fitsInt 32 mv && fits 32 ua
  | .chargerFault t _ mv => fits 63 t && fitsInt 32 mv
  | .housekeepingRound t _ => fits 63 t
  | .shed t => fits 63 t
  | .shedResume t => fits 63 t
  | .chDerateExceeded t _ => fits 63 t
  | .derateStep t => fits 63 t
  | .fanTrayTimeout t => fits 63 t
  | .fanStartCheck t _ rpm => fits 63 t && fits 32 rpm
  | .fanTachFault t _ rpm pct => fits 63 t && fits 32 rpm && fits 32 pct
  | .fanTachRecovery t _ rpm => fits 63 t && fits 32 rpm
  | .fanRetry t _ => fits 63 t
  | .fanTrayPresence t _ => fits 63 t
  | .dieThermalShutdown t _ _ temp => fits 63 t && fitsInt 32 temp
  | .dieThermalExit t _ _ temp => fits 63 t && fitsInt 32 temp
  | .ctrlTsd t _ temp => fits 63 t && fitsInt 32 temp
  | .ctrlTsdRelease t _ temp _ => fits 63 t && fitsInt 32 temp
  | .coneCollect t _ => fits 63 t
  | .setpointFrame t _ _ _ => fits 63 t
  | .statusFrame t _ _ _ => fits 63 t
  | .frameSlot t _ => fits 63 t
  | .cartHoldExpiry t _ => fits 63 t
  | .turnOn t _ _ _ => fits 63 t
  | .turnOff t _ => fits 63 t
  | .decayCurrentLow t _ ma => fits 63 t && fitsInt 32 ma
  | .decayCap t _ ma => fits 63 t && fitsInt 32 ma
  | .offStateTest t _ mv0 mv1 => fits 63 t && fitsInt 32 mv0 && fitsInt 32 mv1
  | .onStateOpenLoad t _ => fits 63 t
  | .reverse t _ ma => fits 63 t && fitsInt 32 ma
  | .reverseHoldEnd t _ => fits 63 t
  | .reverseFlagClear t _ => fits 63 t
  | .startEnd t _ mv => fits 63 t && fitsInt 32 mv
  | .prechargeTimeout t _ mv => fits 63 t && fitsInt 32 mv
  | .prechargeEnergy t _ mj => fits 63 t && fits 32 mj
  | .heaterDrift t _ mv => fits 63 t && fitsInt 32 mv
  | .hardShort t _ shunt mirror => fits 63 t && fitsInt 32 shunt && fitsInt 32 mirror
  | .regulationEngage t _ ma => fits 63 t && fitsInt 32 ma
  | .regulationEnd t _ ma enhanced _ => fits 63 t && fitsInt 32 ma && fits 32 enhanced
  | .limitTime t _ => fits 63 t
  | .limitTimerReset t _ => fits 63 t
  | .wireI2t t _ => fits 63 t
  | .stuckOn t _ ns conf intervals => fits 63 t && fits 32 ns && fits 32 conf && fits 32 intervals
  | .disconnectFailed t _ ns => fits 63 t && fits 32 ns
  | .stuckOff t _ sw ns intervals => fits 63 t && fitsInt 32 sw && fits 32 ns && fits 32 intervals
  | .gateMonFault t _ ns => fits 63 t && fits 32 ns
  | .retryAttempt t _ => fits 63 t
  | .retryCounterReset t _ => fits 63 t
  | .protStateSave t _ => fits 63 t
  | .periodBoundary t _ => fits 63 t
  | .pwmCompare t _ => fits 63 t
  | .freewheelOn t _ sw ns _ => fits 63 t && fitsInt 32 sw && fits 32 ns
  | .freewheelOffAhead t _ offNs waitNs => fits 63 t && fits 32 offNs && fits 32 waitNs
  | .freewheelLowCurrent t _ ma => fits 63 t && fitsInt 32 ma
  | .swCmpFault t _ ma _ => fits 63 t && fitsInt 32 ma
  | .triggerFire t _ _ u1 u2 => fits 63 t && fitsInt 64 u1 && fitsInt 64 u2
  | .blankWindowStart t _ _ _ _ => fits 63 t
  | .blankWindowEnd t _ _ => fits 63 t
  | .delayLineCalibration t _ n => fits 63 t && fits 32 n
  | .debugResume t _ => fits 63 t
  | .averageIntervalEnd t _ k x mirror => fits 63 t && (if k = 0 then decide (1 ≤ x.length && x.length ≤ 20) else x.isEmpty) && fitsInt 32 mirror
  | .latchInstant t _ _ => fits 63 t
  | .latchComplete t => fits 63 t
  | .energySave t _ => fits 63 t
  | .visitStart t _ _ => fits 63 t
  | .visitEnd t _ => fits 63 t
  | .visitAbandoned t _ _ => fits 63 t
  | .offsetLearn t _ => fits 63 t
  | .pathComparison t _ => fits 63 t
  | .crazingClear t _ => fits 63 t
  | .pathFail t _ _ _ => fits 63 t
  | .voltageCalibration t _ _ uv => fits 63 t && fitsInt 64 uv
  | .sharingLoop t _ drift => fits 63 t && fitsInt 64 drift
  | .twinUnbalanced t _ => fits 63 t
  | .leverOpen t _ => fits 63 t
  | .leverClose t _ => fits 63 t
  | .left t _ => fits 63 t
  | .slotLeft t _ => fits 63 t
  | .slotLost t _ => fits 63 t
  | .twinJoin t _ => fits 63 t
  | .loopUpdate t _ => fits 63 t
  | .take t _ => fits 63 t
  | .loopStageTimeout t _ _ => fits 63 t
  | .compliance t _ _ ua mv => fits 63 t && fits 32 ua && fitsInt 32 mv
  | .loopProbe t _ mv35 mv36 => fits 63 t && fitsInt 32 mv35 && fitsInt 32 mv36
  | .loopHostTmo t _ => fits 63 t
  | .tachEdge t _ => fits 63 t
  | .tachEvaluation t _ => fits 63 t
  | .tachSpinupEnd t _ => fits 63 t
  | .tachStall t _ => fits 63 t
  | .tachOverrange t _ _ => fits 63 t
  | .timeEvaluation t _ => fits 63 t
  | .sourceQualified t _ _ => fits 63 t
  | .timeStep t _ => fits 63 t
  | .timeArbitration t _ _ => fits 63 t
  | .suspectExpiry t _ _ => fits 63 t
  | .holdoverExpiry t _ => fits 63 t
  | .taiUtcChange t _ => fits 63 t
  | .ppsEdge t _ => fits 63 t
  | .timeReport t _ f => fits 63 t && fits 32 f
  | .ppsDelayCalibration t _ n => fits 63 t && fits 32 n
  | .timePairDiff t => fits 63 t
  | .tcxoFail t _ _ ppmRtc ppmGnss => fits 63 t && fits 32 ppmRtc && fits 32 ppmGnss
  | .sampleFrame t _ _ _ magPct ppm agc1 agc5 _ => fits 63 t && fits 32 magPct && fitsInt 32 ppm && fits 8 agc1 && fits 8 agc5
  | .acquisitionSearch t _ _ peak next code _ => fits 63 t && fits 16 peak && fits 16 next && fits 64 code
  | .handOver t _ _ _ _ cn0 => fits 63 t && fits 16 cn0
  | .lossOfLock t _ _ _ cn0 pli => fits 63 t && fits 32 cn0 && fits 32 pli
  | .sidePeakShift t _ _ _ side prompt => fits 63 t && fits 32 side && fits 32 prompt
  | .measurementEpoch t _ _ => fits 63 t
  | .spectralMonitor t _ _ khz above track0 track1 power => fits 63 t && fitsInt 64 khz && fits 32 above && fits 32 track0 && fits 32 track1 && fitsInt 64 power
  | .ephemerisDecoded t _ sat ref _ _ => fits 63 t && fits 7 sat && fitsInt 64 ref
  | .almanacWrite t _ _ => fits 63 t
  | .snapStored t _ data => fits 63 t && decide (data.length ≤ 654720)
  | .snapProcessed t _ _ => fits 63 t
  | .scheduledCapture t _ => fits 63 t
  | .fftSelfTest t _ _ => fits 63 t
  | .gnssCardPresence t _ => fits 63 t
  | .antOpen t ma => fits 63 t && fits 32 ma
  | .antShort t ma => fits 63 t && fits 32 ma
  | .antBiasReapply t => fits 63 t
  | .logRecord t code flags source object body => fits 63 t && fits 16 code && fits 8 flags && fits 8 source && fits 8 object && decide (body.length ≤ 40)
  | .loss t => fits 63 t
  | .voyage t _ => fits 63 t
  | .voyageAck t _ => fits 63 t
  | .mirrorGapTimeout t _ => fits 63 t
  | .lineSample t _ _ lineMv railMv => fits 63 t && fits 32 lineMv && fits 32 railMv
  | .contactChange t _ _ => fits 63 t
  | .lineState t _ _ => fits 63 t
  | .fltAssert t _ _ k ns => fits 63 t && fits 32 k && fits 32 ns
  | .fltRelease t _ _ k ns => fits 63 t && fits 32 k && fits 32 ns
  | .limpDemand t _ => fits 63 t
  | .soakEnd t _ => fits 63 t
  | .handoverRampEnd t _ => fits 63 t
  | .heartbeatSend t _ => fits 63 t
  | .heartbeat t _ _ _ => fits 63 t
  | .heartbeatMissed t _ _ => fits 63 t
  | .failN t _ _ => fits 63 t
  | .lockstepMismatch t _ _ => fits 63 t
  | .watchdogExpiry t _ _ => fits 63 t
  | .failover t _ => fits 63 t
  | .prepare t jsn => fits 63 t && fits 64 jsn
  | .prepAck t jsn => fits 63 t && fits 64 jsn
  | .commit t jsn => fits 63 t && fits 64 jsn
  | .commitAck t jsn => fits 63 t && fits 64 jsn
  | .mirrorTimeout t => fits 63 t
  | .stateDigest t => fits 63 t
  | .digestMismatch t => fits 63 t
  | .resyncComplete t => fits 63 t
  | .joinComplete t => fits 63 t
  | .handoff t => fits 63 t
  | .autoRoleSwap t => fits 63 t
  | .splitReelect t _ _ => fits 63 t
  | .controllerLeverOpen t _ => fits 63 t
  | .leverWaitExpiry t _ => fits 63 t
  | .controllerLeverClose t _ => fits 63 t
  | .codePlugCheck t _ _ => fits 63 t
  | .s50Change t _ => fits 63 t
  | .x50Attach t _ => fits 63 t
  | .scrubPass t _ mram sram => fits 63 t && fits 32 mram && fits 32 sram
  | .doubleBitError t _ addr => fits 63 t && fits 32 addr
  | .seriesTest t _ out mid => fits 63 t && fitsInt 32 out && fitsInt 32 mid
  | .dailySelftest t _ => fits 63 t
  | .winPoll t _ status => fits 63 t && fits 32 status
  | .winTimeout t _ status => fits 63 t && fits 32 status
  | .winProbe t _ _ => fits 63 t
  | .expSupply t ma => fits 63 t && fits 32 ma
  | .logicRailDipOnset t _ mv store => fits 63 t && fitsInt 32 mv && store ≤ 1000
  | .ppsPulseEnd t _ => fits 63 t
  | .spiTransactionEnd t _ rx => fits 63 t && decide (rx.length ≤ 1024)
  | .energyCounterWrite t _ => fits 63 t
  | .notApplied t jsn => fits 63 t && fits 64 jsn
  | .busCollisions t _ _ rate => fits 63 t && fits 32 rate
  | .plcaDegradedClear t _ _ => fits 63 t
  | .addrConflictCleared t _ _ => fits 63 t
  | .antOpenCleared t ma => fits 63 t && fits 32 ma
  | .antShortCleared t ma => fits 63 t && fits 32 ma
  | .expSupplyCleared t ma => fits 63 t && fits 32 ma
  | .cartridgeLinkLoss t _ _ => fits 63 t

/-- The instant at which a command happens (log entry 1). -/
def Instr.instant : Instr → Instant
  | .ping t _ => t
  | .identify t _ => t
  | .sessionInfo t _ => t
  | .setAddress t _ => t
  | .subscribe t _ => t
  | .unsubscribe t _ => t
  | .listSubs t _ => t
  | .setChannel t _ => t
  | .setGroup t _ => t
  | .setPwm t _ => t
  | .clearTrip t _ => t
  | .clearGlaze t _ => t
  | .own t _ => t
  | .release t _ => t
  | .setLoop t _ => t
  | .getConfig t _ => t
  | .stageConfig t _ => t
  | .commitConfig t _ => t
  | .discardConfig t _ => t
  | .getChannel t _ => t
  | .getTwin t _ => t
  | .latchMeas t _ => t
  | .latchRead t _ => t
  | .getTrigger t _ => t
  | .getEnergy t _ => t
  | .getHk t _ => t
  | .getAlarms t _ => t
  | .getPortStats t _ => t
  | .getTime t _ => t
  | .getGnss t _ => t
  | .getGnssMeas t _ => t
  | .snapCapture t _ => t
  | .snapRead t _ => t
  | .logRead t _ => t
  | .logFind t _ => t
  | .logMark t _ => t
  | .logStatus t _ => t
  | .coneRead t _ => t
  | .coneStatus t _ => t
  | .coneClear t _ => t
  | .winRead t _ => t
  | .winWrite t _ => t
  | .winErase t _ => t
  | .spiXfer t _ => t
  | .pairStatus t _ => t
  | .roleSwap t _ => t
  | .resolveSplit t _ => t
  | .regRead t _ => t
  | .regWrite t _ => t
  | .fwBegin t _ => t
  | .fwData t _ => t
  | .fwCommit t _ => t
  | .fwRestart t _ => t
  | .fwStatus t _ => t
  | .keyLoad t _ => t
  | .keyClear t _ => t
  | .signRevoke t _ => t
  | .debugHalt t _ => t
  | .cartEpochReset t _ => t
  | .scrubEn t _ _ => t
  | .scrubNow t _ => t
  | .oltestNow t _ _ _ => t
  | .hsSelftestNow t _ _ _ => t
  | .notchEnable t _ _ _ => t
  | .syaskegDatagram t _ _ _ _ _ => t
  | .x50Transfer t _ _ => t
  | .ipv4Datagram t _ _ _ _ => t
  | .arpFrame t _ _ _ _ _ _ => t
  | .icmpEchoRequest t _ _ _ _ _ _ => t
  | .ptpSync t _ _ _ _ _ _ _ => t
  | .ptpFollowUp t _ _ _ _ _ _ => t
  | .ptpAnnounce t _ _ _ => t
  | .ptpDelayResp t _ _ _ _ _ _ => t
  | .delayReq t _ => t
  | .ptpMasterLost t _ => t
  | .plcaBeacon t _ _ _ => t
  | .beaconLoss t _ _ => t
  | .rxFcs t _ _ => t
  | .portQuiet t _ _ => t
  | .portDown t _ _ _ => t
  | .portUp t _ _ => t
  | .arpRetry t _ _ _ => t
  | .arpEntryExpiry t _ _ => t
  | .gratuitousArp t _ _ => t
  | .dupEntryExpiry t _ => t
  | .strangerTrafficClear t _ _ => t
  | .addressChangeEffect t _ => t
  | .keyRetiringErase t _ => t
  | .leaseExpiry t _ => t
  | .subscriptionEnd t _ _ => t
  | .streamReport t _ _ => t
  | .stageHoldExpiry t => t
  | .reportSeqMirror t => t
  | .scheduleArm t _ => t
  | .armedApply t _ => t
  | .scheduleUnarmedApply t _ => t
  | .scheduledSetLoop t _ => t
  | .logicPowerUp t _ _ => t
  | .firmwareRunning t _ => t
  | .elect t _ => t
  | .electSend t _ => t
  | .electTimeout t _ _ => t
  | .claimReq t _ _ => t
  | .claimAck t _ _ => t
  | .claimGo t _ _ => t
  | .claimArmTimeout t _ => t
  | .claimRetry t _ _ => t
  | .commandReady t _ => t
  | .imageConfirmed t _ => t
  | .logicDip t _ _ => t
  | .powerFail t _ => t
  | .powerFailRestart t _ _ => t
  | .holdupExhausted t _ _ => t
  | .holdupCharged t _ => t
  | .holdupPrediction t _ _ => t
  | .logicInputState t _ _ _ => t
  | .powerBusBand t _ _ => t
  | .uvloFreewheelCap t _ => t
  | .ovOff t _ => t
  | .ovOffExit t _ => t
  | .restartStagger t _ => t
  | .cartridgeStart t _ _ _ => t
  | .insertionHoldEnd t _ => t
  | .cellInserted t _ => t
  | .cellQualificationEnd t _ _ _ => t
  | .prechargeDone t _ _ => t
  | .cellRemoved t _ => t
  | .cellLoadTest t _ _ _ => t
  | .chargerControl t _ _ _ => t
  | .chargerFault t _ _ => t
  | .housekeepingRound t _ => t
  | .shed t => t
  | .shedResume t => t
  | .chDerateExceeded t _ => t
  | .derateStep t => t
  | .fanTrayTimeout t => t
  | .fanStartCheck t _ _ => t
  | .fanTachFault t _ _ _ => t
  | .fanTachRecovery t _ _ => t
  | .fanRetry t _ => t
  | .fanTrayPresence t _ => t
  | .dieThermalShutdown t _ _ _ => t
  | .dieThermalExit t _ _ _ => t
  | .ctrlTsd t _ _ => t
  | .ctrlTsdRelease t _ _ _ => t
  | .coneCollect t _ => t
  | .setpointFrame t _ _ _ => t
  | .statusFrame t _ _ _ => t
  | .frameSlot t _ => t
  | .cartHoldExpiry t _ => t
  | .turnOn t _ _ _ => t
  | .turnOff t _ => t
  | .decayCurrentLow t _ _ => t
  | .decayCap t _ _ => t
  | .offStateTest t _ _ _ => t
  | .onStateOpenLoad t _ => t
  | .reverse t _ _ => t
  | .reverseHoldEnd t _ => t
  | .reverseFlagClear t _ => t
  | .startEnd t _ _ => t
  | .prechargeTimeout t _ _ => t
  | .prechargeEnergy t _ _ => t
  | .heaterDrift t _ _ => t
  | .hardShort t _ _ _ => t
  | .regulationEngage t _ _ => t
  | .regulationEnd t _ _ _ _ => t
  | .limitTime t _ => t
  | .limitTimerReset t _ => t
  | .wireI2t t _ => t
  | .stuckOn t _ _ _ _ => t
  | .disconnectFailed t _ _ => t
  | .stuckOff t _ _ _ _ => t
  | .gateMonFault t _ _ => t
  | .retryAttempt t _ => t
  | .retryCounterReset t _ => t
  | .protStateSave t _ => t
  | .periodBoundary t _ => t
  | .pwmCompare t _ => t
  | .freewheelOn t _ _ _ _ => t
  | .freewheelOffAhead t _ _ _ => t
  | .freewheelLowCurrent t _ _ => t
  | .swCmpFault t _ _ _ => t
  | .triggerFire t _ _ _ _ => t
  | .blankWindowStart t _ _ _ _ => t
  | .blankWindowEnd t _ _ => t
  | .delayLineCalibration t _ _ => t
  | .debugResume t _ => t
  | .averageIntervalEnd t _ _ _ _ => t
  | .latchInstant t _ _ => t
  | .latchComplete t => t
  | .energySave t _ => t
  | .visitStart t _ _ => t
  | .visitEnd t _ => t
  | .visitAbandoned t _ _ => t
  | .offsetLearn t _ => t
  | .pathComparison t _ => t
  | .crazingClear t _ => t
  | .pathFail t _ _ _ => t
  | .voltageCalibration t _ _ _ => t
  | .sharingLoop t _ _ => t
  | .twinUnbalanced t _ => t
  | .leverOpen t _ => t
  | .leverClose t _ => t
  | .left t _ => t
  | .slotLeft t _ => t
  | .slotLost t _ => t
  | .twinJoin t _ => t
  | .loopUpdate t _ => t
  | .take t _ => t
  | .loopStageTimeout t _ _ => t
  | .compliance t _ _ _ _ => t
  | .loopProbe t _ _ _ => t
  | .loopHostTmo t _ => t
  | .tachEdge t _ => t
  | .tachEvaluation t _ => t
  | .tachSpinupEnd t _ => t
  | .tachStall t _ => t
  | .tachOverrange t _ _ => t
  | .timeEvaluation t _ => t
  | .sourceQualified t _ _ => t
  | .timeStep t _ => t
  | .timeArbitration t _ _ => t
  | .suspectExpiry t _ _ => t
  | .holdoverExpiry t _ => t
  | .taiUtcChange t _ => t
  | .ppsEdge t _ => t
  | .timeReport t _ _ => t
  | .ppsDelayCalibration t _ _ => t
  | .timePairDiff t => t
  | .tcxoFail t _ _ _ _ => t
  | .sampleFrame t _ _ _ _ _ _ _ _ => t
  | .acquisitionSearch t _ _ _ _ _ _ => t
  | .handOver t _ _ _ _ _ => t
  | .lossOfLock t _ _ _ _ _ => t
  | .sidePeakShift t _ _ _ _ _ => t
  | .measurementEpoch t _ _ => t
  | .spectralMonitor t _ _ _ _ _ _ _ => t
  | .ephemerisDecoded t _ _ _ _ _ => t
  | .almanacWrite t _ _ => t
  | .snapStored t _ _ => t
  | .snapProcessed t _ _ => t
  | .scheduledCapture t _ => t
  | .fftSelfTest t _ _ => t
  | .gnssCardPresence t _ => t
  | .antOpen t _ => t
  | .antShort t _ => t
  | .antBiasReapply t => t
  | .logRecord t _ _ _ _ _ => t
  | .loss t => t
  | .voyage t _ => t
  | .voyageAck t _ => t
  | .mirrorGapTimeout t _ => t
  | .lineSample t _ _ _ _ => t
  | .contactChange t _ _ => t
  | .lineState t _ _ => t
  | .fltAssert t _ _ _ _ => t
  | .fltRelease t _ _ _ _ => t
  | .limpDemand t _ => t
  | .soakEnd t _ => t
  | .handoverRampEnd t _ => t
  | .heartbeatSend t _ => t
  | .heartbeat t _ _ _ => t
  | .heartbeatMissed t _ _ => t
  | .failN t _ _ => t
  | .lockstepMismatch t _ _ => t
  | .watchdogExpiry t _ _ => t
  | .failover t _ => t
  | .prepare t _ => t
  | .prepAck t _ => t
  | .commit t _ => t
  | .commitAck t _ => t
  | .mirrorTimeout t => t
  | .stateDigest t => t
  | .digestMismatch t => t
  | .resyncComplete t => t
  | .joinComplete t => t
  | .handoff t => t
  | .autoRoleSwap t => t
  | .splitReelect t _ _ => t
  | .controllerLeverOpen t _ => t
  | .leverWaitExpiry t _ => t
  | .controllerLeverClose t _ => t
  | .codePlugCheck t _ _ => t
  | .s50Change t _ => t
  | .x50Attach t _ => t
  | .scrubPass t _ _ _ => t
  | .doubleBitError t _ _ => t
  | .seriesTest t _ _ _ => t
  | .dailySelftest t _ => t
  | .winPoll t _ _ => t
  | .winTimeout t _ _ => t
  | .winProbe t _ _ => t
  | .expSupply t _ => t
  | .logicRailDipOnset t _ _ _ => t
  | .ppsPulseEnd t _ => t
  | .spiTransactionEnd t _ _ => t
  | .energyCounterWrite t _ => t
  | .notApplied t _ => t
  | .busCollisions t _ _ _ => t
  | .plcaDegradedClear t _ _ => t
  | .addrConflictCleared t _ _ => t
  | .antOpenCleared t _ => t
  | .antShortCleared t _ => t
  | .expSupplyCleared t _ => t
  | .cartridgeLinkLoss t _ _ => t

end Sys2Proof
end

