-- ==== Sys2Proof/Machine/Operands.lean ====
section
/-!
DEFINITION. Machine/Operands.lean: the operand forms of the commands: a request of a client (R523), a packet's bytes as they arrive, and the
parts of an IPv4, ARP or UDP frame (R497 to R500).
-/
namespace Sys2Proof.Machine

/-- What a Syaskeg packet's bytes spell once its length, version and flags are right (R509 checks 1 to 3): the request, its opcode, its
flags byte, its status and its tag. -/
structure PacketIn where
  /-- Flags byte. -/
  flags  : Nat
  /-- Client slot as it stands. -/
  client : Nat
  /-- Key generation. -/
  gen    : Nat
  /-- Sequence. -/
  seq    : Nat
  /-- Opcode. -/
  opcode : Nat
  /-- Status. -/
  status : Nat
  /-- Requested unit time. -/
  time   : UnitTime
  /-- Parameters. -/
  params : Bytes
  /-- The bytes the tag covers. -/
  head   : Bytes
  /-- Tag. -/
  tag    : Bytes
deriving DecidableEq, Repr

/-- The packet that some bytes spell (R523): at least 40 bytes, version 2, and exactly as long as its parameter length says. -/
def packetOf (b : Bytes) : Option PacketIn :=
  let l := field b 12 2
  if b.length < 40 ∨ l > 1024 ∨ b.length ≠ 40 + l ∨ field b 0 1 ≠ 2 then none
  else some
    { flags := field b 1 1, client := field b 2 1, gen := field b 3 1, seq := field b 4 6, opcode := field b 10 2
      status := field b 14 2, time := fieldInt b 16 8, params := slice b 24 l, head := b.take (24 + l), tag := slice b (24 + l) 16 }

end Sys2Proof.Machine
end

