-- ==== Sys2Proof/Machine/Service.lean ====
section
/-!
DEFINITION. Machine/Service.lean: in-service replacement and the service port (chapter 24): debug halt and claim-epoch reset, the ejector levers of the
controllers, the code plug socket, key switch S50 and the attachment of X50.
-/
namespace Sys2Proof.Machine

/-! DEBUG_HALT and CART_EPOCH_RESET. -/

/-- Accepted only over X50 with S50 at ENABLE (R634). -/
def x50Only : Check := fun s _ q =>
  if q.via ≠ .x50 then some { status := 0x0201, detail := 14 }
  else if ¬s.s50 then some { status := 0x0201, detail := 13 }
  else none

/-- The cartridge slot that the parameters name. -/
def cartTarget (q : Request) : Option Slot :=
  let n := field q.params 0 1
  if h : 1 ≤ n ∧ n ≤ 4 then some ⟨n - 1, by omega⟩ else none

/-- HW_FAULT CARTRIDGE_ABSENT: slot empty or link silent (R639). -/
def cartThere : Check := fun s _ q => match cartTarget q with
  | some k => if (s.cart k).powered then none else some { status := 0x0501, detail := 17 }
  | none => none

/-- A debug halt begins (R205, R224, R281, R327, R963, R965): the engine stands still, an output that is OFF becomes HIGH_Z with the cause of the halt, and
running auxiliary windows end. -/
def State.halt (s : State) (k : Slot) : State :=
  let x := s.cart k
  if x.frozen then s
  else
    let s := s.modCart k fun y => { y with frozen := true, frozenAt := s.now, at_ := y.at_.map (·.close s.now) }
    let s := overList (chansOf k) (fun c s => s.modStage c fun g =>
      if g.output = .off then { g with output := .highZ, cause := 0x0E } else g) s
    s.logUnit 0x0E02 0 (k.val + 1) (k.val + 1) (stdBody 0 1 0 0 0 x.serial)

def hDebugHalt : Handler := {
  op := 0x0920, least := 3, hold := true, len := exactly 4
  denied := x50Only
  range := fun _ _ q =>
    if (cartTarget q).isNone then some { status := 0x0303, off := 0 }
    else if 1 < field q.params 1 1 then some { status := 0x0303, off := 1 } else none
  hw := cartThere
  run := fun s c q => match cartTarget q with
    | none => .quiet s
    | some k =>
      let s := if field q.params 1 1 = 1 then s.halt k else s.resume k
      let s := s.see c k
      .done ((s.ctl c).stateList (chansOf k)) s }

/-- DEBUG_HALT (R634, R963, R964). -/
def execDebugHalt (t : Instant) (q : Request) (s : State) : Result := run t (fun s => s.perform hDebugHalt q) s

def hCartEpochReset : Handler := {
  op := 0x0921, least := 3, hold := true, len := exactly 4
  denied := x50Only
  range := fun _ _ q => if (cartTarget q).isNone then some { status := 0x0303, off := 0 } else none
  hw := cartThere
  run := fun s c q => match cartTarget q with
    | none => .quiet s
    | some k =>
      let st := ((s.ctl c).claims[k]).st
      let busy : Bool := st = .requested || st = .acked || st = .sent
      .done (be 4 0) (if busy then s.modClaim c k fun y => { y with reset := true } else s.resetEpoch c k) }

/-- CART_EPOCH_RESET (R634, R966, R970): during a claim it acts when the claim ends. -/
def execCartEpochReset (t : Instant) (q : Request) (s : State) : Result := run t (fun s => s.perform hCartEpochReset q) s

/-! The attachment of X50. -/

/-- The controller that attaches to X50 (R957). -/
def State.x50Choice (s : State) : Option Ctl :=
  let free := fun (c : Ctl) => (s.ctl c).fitted && !(s.ctl c).failN
  match s.active with
  | some a => some a
  | none =>
    if free .a then some .a
    else if free .b then some .b
    else if s.ctlA.fitted then some .a
    else if s.ctlB.fitted then some .b
    else none

/-- Every debug halt ends (R960, R964). -/
def State.resumeAll (s : State) : State := overList allSlots (fun k s => s.resume k) s

/-- Slot code of an attached controller, 0 for none. -/
def attachCode (c : Option Ctl) : Nat := (c.map Ctl.code).getD 0

/-- X50_ATTACH (R957, R964): the cable comes or goes, or the controller to attach has changed; a new one attaches 200 ms after the old one. -/
def execX50Attach (t : Instant) (cable : Bool) (s : State) : Result :=
  run t (fun s =>
    let old := s.x50.ctl
    let new := if cable then s.x50Choice else none
    let from_ := if old = new then s.x50.from_ else if old.isNone then s.now else s.now + 200 * msec
    let s := { s with x50 := { s.x50 with cable := cable, ctl := new, from_ := from_ } }
    when (old ≠ new) (fun s =>
      s.resumeAll.logUnit 0x0E07 0 (attachCode (new.orElse fun _ => old)) 0 (stdBody (attachCode old) (attachCode new))) s) s

/-- An end of R964 stands for a cartridge: S50 at RUN, X50 detached or about to change controllers, its lever open, or DARK. -/
def State.haltEnds (s : State) (k : Slot) : Bool :=
  !s.s50 || !s.x50.cable || s.x50.ctl ≠ s.x50Choice || (s.cart k).lever || (s.cart k).band = .dark

/-- DEBUG_RESUME (R964, R328): the engine of a halted cartridge resumes once an end of the halt stands. -/
def execDebugResume (t : Instant) (k : Slot) (s : State) : Result :=
  run t (fun s => when (s.haltEnds k) (fun s => s.resume k) s) s

/-! The code plug. -/

/-- A blank plug written by the ACTIVE controller (R955): serial, hash and addresses; carrier record and bootstrap key stay. Each identity copy is
rewritten, and CODEPLUG_ABSENT ends. -/
def State.fillPlug (s : State) (c : Ctl) : State :=
  match s.plug, (s.ctl c).mram.ident with
  | some p, some i =>
    if p.blank ∧ s.s50 ∧ (s.ctl c).role = .active then
      let p := { p with serial := i.serial, hash := (s.ctl c).mram.hash, addrA := i.addrA, addrB := i.addrB, ok := true, blank := false }
      let s := { s with plug := some p }
      let put := fun (s : State) (d : Ctl) => if (s.ctl d).running then s.modMram d fun m => { m with ident := some p } else s
      (put (put s .a) .b).alarm c 0x0008 0 false c.code 1 0
    else s
  | _, _ => s

/-- What a check finds in the socket: contents that are known stay as they are. -/
def State.socket (s : State) (k : Socket) : Option Plug :=
  match k with
  | .empty => none
  | .blank => match s.plug with
    | some p => if p.blank then some p else some { blank := true, ok := true }
    | none => some { blank := true, ok := true }
  | .bad => match s.plug with
    | some p => some { p with ok := false, blank := false }
    | none => some { ok := false }
  | .plug serial => match s.plug with
    | some p => if p.serial = serial ∧ p.ok ∧ ¬p.blank then some p else some { serial := serial }
    | none => some { serial := serial }

/-- FOREIGN stands while the plug in the socket names another unit, and where the configuration has been set aside for it (R193, R956). -/
def State.foreignPlug (s : State) (c : Ctl) (other : Bool) : State :=
  let f := other || (s.ctl c).mram.foreign
  s.alarm c 0x0009 c.code f c.code (b2n (!f)) (b2n f)

/-- A valid plug read while the unit runs (R168, R956): of this unit, or where no identity is held, it renews the identity copy; a foreign one is
logged and not adopted. -/
def State.plugSeen (s : State) (c : Ctl) (p : Plug) : State :=
  if ((s.ctl c).mram.ident).all (·.serial = p.serial) then
    ((s.modMram c fun m => { m with ident := some p }).alarm c 0x0008 0 false c.code 1 0).foreignPlug c false
  else s.foreignPlug c true

/-- CODE_PLUG_CHECK (R954 to R956): every 1 s. -/
def execCodePlugCheck (t : Instant) (c : Ctl) (k : Socket) (s : State) : Result :=
  run t (fun s => when (s.ctl c).running (fun s =>
    let s := { s with plug := s.socket k }
    match k with
    | .plug _ => match s.plug with
      | some p => s.plugSeen c p
      | none => s
    | .blank =>
      let s := (s.foreignPlug c false).fillPlug c
      if s.plug.any (·.blank) then s.alarm c 0x0008 0 true c.code 0 1 else s
    | _ => (s.foreignPlug c false).alarm c 0x0008 0 true c.code 0 1) s) s

/-! S50. -/

/-- S50_CHANGE (R960): at RUN every debug halt ends; at ENABLE a blank plug that stands in the socket is written (R955, R970). -/
def execS50Change (t : Instant) (enable : Bool) (s : State) : Result :=
  run t (fun s => when (s.s50 ≠ enable) (fun s =>
    let was := s.s50
    let s := ({ s with s50 := enable } : State).logUnit 0x0E01 0 s.lead.code 0 (stdBody (b2n was) (b2n enable))
    if enable then (match s.active with
      | some a => s.fillPlug a
      | none => s)
    else s.resumeAll) s) s

/-! The front indicators. -/

/-- What the front indicator of a controller shows (R943). -/
inductive Indicator where
  | dark | green | white | amber | amberFlashing | redFlashing | blue | red
deriving DecidableEq, Repr

/-- The front indicator of a controller (R943): it follows the role, and the wait of R945. Without a supply it is dark. -/
def State.indicator (s : State) (c : Ctl) : Indicator :=
  let x := s.ctl c
  if ¬(x.fitted ∧ x.powered) then .dark
  else match x.role with
    | .active => if x.lever then .redFlashing else .green
    | .synced => .white
    | .unsynced => .amber
    | .electing => .amber
    | .hold => .amber
    | .booting => .amberFlashing
    | .service => .blue
    | .faulted => .red

/-- The front indicator of a cartridge shows steady blue: it is LEFT (R410, R947). -/
def State.showsLeft (s : State) (k : Slot) : Bool := (s.cart k).left

/-! The levers of the controllers. -/

/-- An IN_PROGRESS transaction completed before its controller leaves service (R944 step 1), at both controllers of a mirrored pair. -/
def State.finishTx (s : State) (c : Ctl) (j : JSlot) : State :=
  let dual : Bool := (s.ctl c.other).role = .synced && s.linkUp
  let s := if dual ∧ ((s.ctl c.other).mram.slot j.jsn).isNone then
      s.modMram c.other fun m => { m with jsn := max m.jsn (j.jsn + 1), slots := m.slots ++ [{ j.mirrored with prepAt := s.now }] }
    else s
  let s := s.commitTx c j.jsn (!dual)
  let s := if dual then s.mirrorTx c.other j.jsn else s
  let s := s.releaseTx c replyParams j.jsn
  if j.sched then s else s.completeTx c replyParams j.jsn (s.utime c)

/-- The lever of a controller leaves nothing to it (R944): requests under way completed, queue and counters written, RELINQUISH sent, and SERVICE entered. -/
def State.enterService (s : State) (c : Ctl) : State :=
  let active : Bool := (s.ctl c).role = .active
  let open_ := (s.ctl c).mram.slots.filter fun j => j.kind ≠ 6 && (!j.released || (!j.sched && !j.replied))
  let s := if active then overList open_ (fun j s => s.finishTx c j) s else s
  let s := s.modMram c fun m => { m with log := m.log.flush, energy := m.energy.map Energy.save }
  let s := if active then (s.modCtl c fun x => { x with beatTx := some (s.beatOf c true) }).leaveActive c else s
  let s := s.modCtl c fun x => { x with leverAt := none }
  let left : Bool := active && (s.ctl c.other).running && (s.ctl c.other).standby
  if left then s.roleTo c .service 0 0 0x07 else s.setRole c .service 0 0 0x07

/-- The peer of an ACTIVE controller can take over from it (R945). -/
def State.hasStandby (s : State) (c : Ctl) : Bool := (s.ctl c.other).running && (s.ctl c.other).standby

/-- CONTROLLER_LEVER_OPEN (R944, R945): an ACTIVE controller without a standby waits; a swap under way completes first (R970). -/
def execControllerLeverOpen (t : Instant) (c : Ctl) (s : State) : Result :=
  run t (fun s =>
    let x := s.ctl c
    when (x.fitted && !x.lever) (fun s =>
      let s := s.modCtl c fun y => { y with lever := true }
      if ¬x.running ∨ x.role = .service then s
      else if x.role = .active ∧ (¬s.hasStandby c ∨ x.mram.swapping) then s.modCtl c fun y => { y with leverAt := some s.now }
      else s.enterService c) s) s

/-- LEVER_WAIT_EXPIRY (R945, R970): 10 s after the lever opened, or when a standby has come; a role swap that runs ends first. -/
def execLeverWaitExpiry (t : Instant) (c : Ctl) (s : State) : Result :=
  run t (fun s =>
    let x := s.ctl c
    when (x.running && x.role = .active && x.leverAt.isSome && !x.mram.swapping && (s.held x.leverAt (10 * sec) || s.hasStandby c)) (fun s => s.enterService c) s) s

/-- CONTROLLER_LEVER_CLOSE (R946): a controller in SERVICE elects anew. -/
def execControllerLeverClose (t : Instant) (c : Ctl) (s : State) : Result :=
  run t (fun s =>
    let x := s.ctl c
    when (x.fitted && x.lever) (fun s =>
      let s := s.modCtl c fun y => { y with lever := false, leverAt := none }
      if x.running ∧ x.role = .service then
        (s.modCtl c fun y => { y with elect := none, electTx := none }).setRole c .electing 0 0 0x01
      else s) s) s

end Sys2Proof.Machine
end

