-- ==== Sys2Proof/Machine/Datagram.lean ====
section
/-!
DEFINITION. Machine/Datagram.lean: what comes from outside as bytes: an IPv4 datagram (R497 to R502, R515), a Syaskeg packet on a bus port
(R502, R504, R509 to R512) and one on X50 (R958, R961, R969). What passes every check is executed by its opcode's handler.
-/
namespace Sys2Proof.Machine

/-- The opcodes of the Command Reference, group by group (R586). -/
def handlers : List Handler :=
  [hPing, hIdentify, hSessionInfo, hSetAddress, hSubscribe, hUnsubscribe, hListSubs] ++
  [hSetChannel, hSetGroup, hSetPwm, hClearTrip, hClearGlaze, hOwn, hRelease, hSetLoop] ++
  [hGetConfig, hStageConfig, hCommitConfig, hDiscardConfig] ++
  [hGetChannel, hGetTwin, hLatchMeas, hLatchRead, hGetTrigger, hGetEnergy, hGetHk, hGetAlarms, hGetPortStats] ++
  [hGetTime, hGetGnss, hGetGnssMeas, hSnapCapture, hSnapRead] ++
  [hLogRead, hLogFind, hLogMark, hLogStatus, hConeRead, hConeStatus, hConeClear] ++
  [hWinRead, hWinWrite, hWinErase, hSpiXfer] ++
  [hPairStatus, hRoleSwap, hResolveSplit] ++
  [hRegRead, hRegWrite] ++
  [hFwBegin, hFwData, hFwCommit, hFwRestart, hFwStatus, hKeyLoad, hKeyClear, hSignRevoke, hDebugHalt, hCartEpochReset]

/-- Check 7 of R509: the handler of the opcode, or BAD_OPCODE. -/
def State.request (s : State) (op : Nat) (q : Request) : State :=
  match handlers.find? (fun h => h.op = op) with
  | some h => s.perform h q
  | none => s.badOpcode op q

/-- The request that a packet spells (R523, R524). -/
def PacketIn.request (k : PacketIn) (c : Ctl) (via : Via) (toUnit : Bool) (src : Endpoint) (boot : Bool) : Request :=
  { ctl := c, via := via, toUnit := toUnit, src := src, client := clientOf k.client, gen := k.gen, seq := k.seq
    group := bit k.flags 1, noReply := bit k.flags 2, retrans := bit k.flags 3, boot := boot, time := k.time, params := k.params }

/-! Token buckets. -/

/-- A bucket of thousandths of a token, refilled by one thousandth in `ns` each up to 100 tokens (R510, R958). -/
def refill (tokens ns since now : Nat) : Nat := min 100000 (tokens + (now - since) / ns)

/-- The instant up to which a refill has counted. -/
def refilled (ns since now : Nat) : Nat := since + (now - since) / ns * ns

/-- A PHY with both buckets refilled (R510). -/
def Phy.fill (x : Phy) (now : Instant) : Phy :=
  { x with known := refill x.known 1000 x.refillAt now, open_ := refill x.open_ 1000 x.refillAt now, refillAt := refilled 1000 x.refillAt now }

/-- KNOWN (R510): this address was the source of the slot's last packet to pass its tag check here, in the last 60 s. -/
def Phy.knows (x : Phy) (cl : Client) (ip : Nat) (now : Instant) : Bool :=
  (x.lastSrc[cl]).any fun e => e.1.ip = ip && decide (now ≤ e.2 + 60 * sec)

/-- One token drawn, from the KNOWN bucket or the OPEN one. -/
def Phy.draw (x : Phy) (known : Bool) : Phy :=
  if known then { x with known := x.known - 1000 } else { x with open_ := x.open_ - 1000 }

/-! A packet on a bus port. -/

/-- A controller answers Syaskeg at an address of its port (R495). -/
def State.serves (s : State) (c : Ctl) (p : Bus) (dst : Nat) : Bool :=
  let x := s.ctl c
  s.answersAt c p dst && match x.role with
    | .active => x.ready || ((x.addr p).all fun a => dst = a.own c)
    | .synced => true
    | .unsynced => true
    | .hold => true
    | .service => true
    | _ => false

/-- A duplicate of a kept entry on the other port (R504). -/
def Ctlr.dup (x : Ctlr) (p : Bus) (k : PacketIn) (now : Instant) : Bool :=
  x.dups.any fun d => d.bus ≠ p && d.client.val = k.client && d.seq = k.seq && d.tag = k.tag && decide (now < d.at_ + sec)

/-- What a packet leaves that has passed its tag check on a port (R504, R506, R510, R530). -/
def State.passed (s : State) (c : Ctl) (p : Bus) (src : Endpoint) (k : PacketIn) : State :=
  let cl := clientOf k.client
  let s := s.modCtl c fun x => { x with dups := x.dups ++ [{ client := cl, seq := k.seq, tag := k.tag, bus := p, at_ := s.now }] }
  s.modPhy c p fun x => { x with lastSrc := setV x.lastSrc cl (some (src, s.now)) }

/-- Checks 6 and 7 of R509: the window, then the opcode. A retransmission of a request that is still executed is no WINDOW_DROP (R539). -/
def State.checkWindow (s : State) (c : Ctl) (k : PacketIn) (q : Request) (drop : State → State) : State :=
  let m := (s.ctl (s.winCtl c)).mram
  match m.window q.client q.seq q.retrans with
  | .drop => if q.retrans ∧ m.working q.client q.seq then s else drop s
  | _ => s.request k.opcode q

/-- Checks 5 to 7 of R509 on a bus port, under a key. -/
def State.checkTag (s : State) (c : Ctl) (p : Bus) (src : Endpoint) (toUnit : Bool) (k : PacketIn) (key : Bytes) : State :=
  if tagOf key k.head ≠ k.tag then s.dropAt c p src.ip .tagFail
  else
    let q := k.request c (.bus p) toUnit src false
    let s := (s.passed c p src k).useKey c q.client q.gen
    if bit k.flags 0 then s.count c p fun n => { n with malformed := wrap32 n.malformed }
    else s.checkWindow c k q fun s => s.dropAt c p src.ip .window

/-- A datagram to port 48720, checked in the order of R509. -/
def State.syaskeg (s : State) (c : Ctl) (p : Bus) (src : Endpoint) (dst : Nat) (data : Bytes) : State :=
  match packetOf data with
  | none => s.count c p fun n => { n with malformed := wrap32 n.malformed }
  | some k =>
    if (s.ctl c).dup p k s.now then s.count c p fun n => { n with dup := wrap32 n.dup }
    else
      match (if k.client < 16 then (s.ctl c).key (clientOf k.client) k.gen s.now else none) with
      | none => s.dropAt c p src.ip .unknown
      | some key =>
        let s := s.modPhy c p fun x => x.fill s.now
        let x := (s.ctl c).phy p
        let known := x.knows (clientOf k.client) src.ip s.now
        if (if known then x.known else x.open_) < 1000 then s.dropAt c p src.ip .budget
        else
          let toUnit : Bool := match (s.ctl c).addr p with
            | some a => dst = a.unit
            | none => false
          (s.modPhy c p fun x => x.draw known).checkTag c p src toUnit k key.key

/-- A datagram to port 48720 at an address (R495, R497): for an address that the controller has but serves no Syaskeg at, nothing happens. -/
def State.toSyaskeg (s : State) (c : Ctl) (p : Bus) (src : Endpoint) (dst : Nat) (data : Bytes) : State :=
  if ¬s.answersAt c p dst ∨ ¬s.takes c p src.ip then s.notFor c p
  else if s.serves c p dst then s.syaskeg c p src dst data
  else s

/-- SYASKEG_DATAGRAM (R497, R502, R509): the payload of a UDP datagram to port 48720; by its operand it fits the MTU. -/
def execSyaskegDatagram (t : Instant) (c : Ctl) (p : Bus) (src : Endpoint) (dst : Nat) (data : Bytes) (s : State) : Result :=
  run t (fun s => when (s.listens c p) (fun s => (s.heard c p).toSyaskeg c p src dst data) s) s

/-! An IPv4 datagram. -/

/-- The header of an IPv4 datagram that the unit takes (R497): version 4, 20 bytes, its checksum correct, whole, and no fragment. -/
def headerOk (b : Bytes) : Bool :=
  decide (20 ≤ b.length) && field b 0 1 = 0x45 && sum16 (b.take 20) = 0xFFFF && field b 6 2 % 2 ^ 14 = 0 &&
  decide (20 ≤ field b 2 2) && decide (field b 2 2 ≤ b.length)

/-- The checksum of a UDP datagram, where it is not 0, over its pseudo-header too (R498). -/
def udpOk (src dst : Nat) (u : Bytes) : Bool :=
  field u 6 2 = 0 || sum16 (be 4 src ++ be 4 dst ++ be 2 17 ++ be 2 u.length ++ u) = 0xFFFF

/-- 224.0.1.129, the multicast group of PTP (R501). -/
def ptpGroup : Nat := 0xE0000181

/-- A UDP datagram (R498, R501): port 48720 at an address of the controller is Syaskeg; the PTP ports are taken, and what their messages do is the
PTP commands'; every other is not for the unit. -/
def State.udp (s : State) (c : Ctl) (p : Bus) (src dst : Nat) (b : Bytes) : State :=
  let len := field b 4 2
  let u := b.take len
  let port := field b 2 2
  if len < 8 ∨ b.length < len ∨ ¬udpOk src dst u then s.notFor c p
  else if port = 48720 then s.toSyaskeg c p ⟨src, field b 0 2⟩ dst (u.drop 8)
  else if (port = 319 ∨ port = 320) ∧ (dst = ptpGroup ∨ s.answersAt c p dst) then s
  else s.notFor c p

/-- An IPv4 datagram whose header is right (R497, R500, R501). -/
def State.ipv4 (s : State) (c : Ctl) (p : Bus) (b : Bytes) : State :=
  let src := field b 12 4
  let dst := field b 16 4
  let body := (b.take (field b 2 2)).drop 20
  if ¬s.takes c p src ∨ (¬s.answersAt c p dst ∧ dst ≠ ptpGroup) then s.notFor c p
  else if field b 9 1 = 17 then s.udp c p src dst body
  else if field b 9 1 = 1 ∧ field body 0 2 = 0x0800 ∧ 8 ≤ body.length ∧ sum16 body = 0xFFFF ∧ s.answersAt c p dst then
    s.echo c p src dst (field body 4 4) (body.drop 8)
  else s.notFor c p

/-- IPV4_DATAGRAM (R497, R515): a datagram longer than the MTU, or that R497 does not take, is dropped as NOT_FOR_UNIT. -/
def execIpv4Datagram (t : Instant) (c : Ctl) (p : Bus) (mac : Nat) (data : Bytes) (s : State) : Result :=
  run t (fun s =>
    when (s.listens c p) (fun s =>
      let s := s.heardFrom c p mac
      if 1500 < data.length ∨ ¬headerOk data then s.notFor c p else s.ipv4 c p data) s) s

/-! A packet on X50. -/

/-- A change of the drop counts of X50. -/
def State.x50Count (s : State) (f : PortCounts → PortCounts) : State := { s with x50 := { s.x50 with cnt := f s.x50.cnt } }

/-- What a packet accepted under the bootstrap key may be (R961): PING, IDENTIFY, or KEY_LOAD naming slot 0. -/
def PacketIn.bootOk (k : PacketIn) : Bool := k.opcode = 0x0000 || k.opcode = 0x0001 || (k.opcode = 0x0910 && k.params.length ≠ 0 && field k.params 0 1 = 0)

/-- The bootstrap key may be tried for a packet (R961): S50 at ENABLE, slot 0, generation 1 while the slot is empty and else the CURRENT one. -/
def State.mayBoot (s : State) (c : Ctl) (k : PacketIn) : Bool :=
  s.s50 && k.client = 0 && match ((s.ctl c).mram.client 0).current with
    | some g => k.gen = g.gen
    | none => ((s.ctl c).mram.client 0).keys.isEmpty && k.gen = 1

/-- Checks 5 to 7 of R509 on X50: under the key of the named generation, else under the bootstrap key (R958, R961). -/
def State.x50Tag (s : State) (c : Ctl) (k : PacketIn) (key : Option KeyGen) : State :=
  let own : Bool := key.any fun g => tagOf g.key k.head = k.tag
  let boot : Bool := !own && s.mayBoot c k && decide (tagOf (s.bootKey c) k.head = k.tag)
  if ¬own ∧ ¬(boot ∧ k.bootOk) then s.x50Count (·.add .tagFail)
  else
    let q := k.request c .x50 false ⟨0, 0⟩ boot
    let s := if own then s.useKey c q.client q.gen else s
    if bit k.flags 0 then s.x50Count fun n => { n with malformed := wrap32 n.malformed }
    else s.checkWindow c k q fun s => s.x50Count (·.add .window)

/-- Checks 1, 3 and 4 of R509 on X50, with one budget of 2000 tag checks in a second (R958, R969). -/
def State.x50Packet (s : State) (c : Ctl) (data : Bytes) : State :=
  match packetOf data with
  | none => s.x50Count fun n => { n with malformed := wrap32 n.malformed }
  | some k =>
    let key := if k.client < 16 then (s.ctl c).key (clientOf k.client) k.gen s.now else none
    if key.isNone ∧ ¬s.mayBoot c k then s.x50Count (·.add .unknown)
    else
      let s := { s with x50 := { s.x50 with tokens := refill s.x50.tokens 500 s.x50.fillAt s.now, fillAt := refilled 500 s.x50.fillAt s.now } }
      if s.x50.tokens < 1000 then s.x50Count (·.add .budget)
      else State.x50Tag { s with x50 := { s.x50 with tokens := s.x50.tokens - 1000 } } c k key

/-- X50_TRANSFER (R957, R958, R961, R969): one packet to the attached controller. -/
def execX50Transfer (t : Instant) (c : Ctl) (data : Bytes) (s : State) : Result :=
  run t (fun s =>
    when (s.x50.cable && decide (s.x50.ctl = some c) && decide (s.x50.from_ ≤ s.now) && (s.ctl c).powered && !(s.ctl c).sup.failing)
      (fun s => s.x50Packet c data) s) s

end Sys2Proof.Machine
end

