-- ==== Sys2Proof/Machine/Reports.lean ====
section
/-!
DEFINITION. Machine/Reports.lean: stream reports (R506, R513, R517, R568 to R573, R598, R599).
-/
namespace Sys2Proof.Machine

/-- A report that is due: its content, the instant it describes, whether it carries several changes, and the subscription after it. -/
structure Due where
  /-- Content after the prefix. -/
  content : Bytes
  /-- The instant described. -/
  time    : UnitTime
  /-- Flag [1] of the prefix. -/
  merged  : Bool := false
  /-- The subscription as the report leaves it. -/
  sub     : Sub

/-- A period has passed since the last report. -/
def Sub.elapsed (y : Sub) (ns : Nat) (now : Instant) : Bool := y.sentAt.all fun a => decide (a + ns ≤ now)

/-- A report every period. -/
def Sub.every (y : Sub) (now : Instant) (content : Bytes) (time : UnitTime) : Option Due :=
  if y.elapsed (y.period * 100 * msec) now then some { content := content, time := time, sub := y } else none

/-- The number of places in which two lists differ. -/
def differ (l m : List Nat) : Nat := ((l.zip m).filter fun x => x.1 ≠ x.2).length + (l.length - m.length) + (m.length - l.length)

/-- CHANNEL: the channels of the mask whose state word changed; at first all of them. What is kept of the report before it is the sixteen words and
the sixteen counts of their changes; more than one change makes a merged report. -/
def State.channelDue (s : State) (c : Ctl) (y : Sub) : Option Due :=
  let words := allCh.map fun ch => (s.ctl c).wordOf ch
  let moves := allCh.map fun ch => ((s.ctl c).seen[slotOf ch]).moves.getD (posOf ch).val 0
  let mine := (chansIn y.filter).filter fun ch => y.first || y.last.getD ch.val 0 ≠ words.getD ch.val 0
  let changes := (mine.map fun ch => moves.getD ch.val 0 - y.last.getD (16 + ch.val) 0).sum
  if mine.isEmpty ∧ ¬y.first then none
  else some { content := (s.ctl c).stateList mine, time := s.utime c, merged := !y.first && decide (1 < changes), sub := { y with last := words ++ moves } }

/-- TWIN: the records of the pairs of the mask, each period or when one of them has changed. -/
def State.twinDue (s : State) (c : Ctl) (y : Sub) : Option Due :=
  let recs := (pairsIn y.filter).map fun p => s.twinRecord c p
  let now := recs.map natOf
  if 0 < y.period then y.every s.now recs.flatten (s.utime c)
  else if y.first ∨ y.last ≠ now then
    some { content := recs.flatten, time := s.utime c, merged := !y.first && decide (1 < differ y.last now), sub := { y with last := now } }
  else none

/-- PAIR. -/
def State.pairDue (s : State) (c : Ctl) (y : Sub) : Option Due :=
  let b := s.pairBytes c
  if y.first ∨ y.last ≠ [natOf b] then some { content := b, time := s.utime c, sub := { y with last := [natOf b] } } else none

/-- MEAS: one record for each channel of the mask. -/
def State.measDue (s : State) (c : Ctl) (y : Sub) : Option Due :=
  let code := y.filter >>> 16
  let chs := chansIn (y.filter % 65536)
  let time := ((chs.head?).map fun ch => ((s.chan ch).meas.avgOf code).time).getD (s.utime c)
  y.every s.now (chs.flatMap fun ch => s.measOf ch code) time

/-- ALARM: at first all active alarms, later each raising and clearing, in their order, 60 to a report. -/
def State.alarmDue (s : State) (c : Ctl) (y : Sub) : Option Due :=
  let l := if y.first then (s.ctl c).activeAlarms.map (fun a => natOf a.bytes) else y.last
  if l.isEmpty ∧ ¬y.first then none
  else some { content := (l.take 60).flatMap (be 16), time := s.utime c, sub := { y with last := l.drop 60 } }

/-- LOG: the records of the class mask from the cursor on, 15 to a report. -/
def State.logDue (s : State) (c : Ctl) (y : Sub) : Option Due :=
  let log := (s.ctl c).mram.log
  let l := (log.recs.filter fun r => decide ((r.index + 2 ^ 32 - y.cursor.toNat) % 2 ^ 32 < 2 ^ 31) && bit y.filter (if r.bad then 0 else classOf r.code)).take 15
  if l.isEmpty then none
  else
    let next := if l.length < 15 then log.next else (((l.getLast?).map (·.index)).getD 0 + 1) % 2 ^ 32
    some { content := l.flatMap LogRec.bytes, time := s.utime c, sub := { y with cursor := next } }

/-- TIME_REPORT: once for each PPS edge. -/
def State.ppsDue (s : State) (c : Ctl) (y : Sub) : Option Due :=
  match (s.ctl c).time.report with
  | some r => if y.cursor < r.edge then some { content := r.content, time := r.edge, sub := { y with cursor := r.edge } } else none
  | none => none

/-- The reports of one measurement epoch: one for each band of the mask and each 30 trackers that have a record (R598). -/
def Gnss.pages (g : Gnss) (mask : Nat) : List Bytes :=
  [(0, Band.l1), (1, Band.l5)].flatMap fun x =>
    if bit mask x.1 then
      let l := g.trk.toList.filterMap fun k => (k.band x.2).record
      let page := fun (l : List Bytes) => beInt 8 (g.epochAt.getD 0) ++ be 1 l.length ++ zeros 3 ++ l.flatten
      if l.length ≤ 30 then [page l] else [page (l.take 30), page (l.drop 30)]
    else []

/-- GNSS_MEAS: the reports of each measurement epoch, one after another. -/
def State.gnssDue (s : State) (c : Ctl) (y : Sub) : Option Due :=
  let g := (s.ctl c).gnss
  match g.epochAt with
  | none => none
  | some e =>
    let l := g.pages y.filter
    let i := if y.cursor < e then 0 else y.last.headD l.length
    (l[i]?).map fun b => { content := b, time := e, sub := { y with cursor := e, last := [i + 1] } }

/-- LATCH: once for each completed latch. -/
def State.latchDue (s : State) (c : Ctl) (y : Sub) : Option Due :=
  match (s.ctl c).latched with
  | some T => if y.cursor < T then some { content := s.latchBytes T, time := T, sub := { y with cursor := T } } else none
  | none => none

/-- The report of a subscription that is due now (R598, R599): on change at most one in 10 ms. -/
def State.dueOf (s : State) (c : Ctl) (y : Sub) : Option Due :=
  if y.period = 0 ∧ ¬y.elapsed (10 * msec) s.now then none
  else match y.stream with
    | 0x00 => s.channelDue c y
    | 0x01 => s.measDue c y
    | 0x02 => s.twinDue c y
    | 0x03 => s.alarmDue c y
    | 0x04 => s.logDue c y
    | 0x05 => s.ppsDue c y
    | 0x06 => s.gnssDue c y
    | 0x07 => s.latchDue c y
    | 0x08 => y.every s.now (s.ctl c).hk s.cool.roundAt
    | 0x09 => s.pairDue c y
    | 0x0A => y.every s.now (s.ctl c).energyBytes (s.utime c)
    | _ => none

/-- The packet of a report (R570): its prefix, and the tag under the CURRENT key. -/
def reportPacket (key : KeyGen) (cl : Client) (y : Sub) (x : ClientSt) (d : Due) : Packet :=
  let pre := be 1 y.handle ++ be 1 y.stream ++ be 1 (b2n y.first ||| (b2n d.merged <<< 1)) ++ zeros 1 ++ be 4 x.repLoss
  mkPacket key.key 1 cl key.gen x.repSeq (0xC000 + y.stream) 0 d.time (pre ++ d.content)

/-- The ports that reports to a client go out on, with the address on each (R506). -/
def Ctlr.reportPorts (x : Ctlr) (cl : Client) (now : Instant) : List (Bus × Endpoint) :=
  let at_ := fun (p : Bus) => ((x.phy p).lastSrc[cl])
  let near := [Bus.a, Bus.b].filterMap fun p => match at_ p with
    | some (e, a) => if now ≤ a + 10 * sec then some (p, e) else none
    | none => none
  if near.isEmpty then [Bus.a, Bus.b].filterMap fun p => if (x.phy p).st = .up then (at_ p).map fun e => (p, e.1) else none
  else near

/-- A PHY takes a report: it is not DOWN, and has room on its queue (R508, R517). -/
def Ctlr.takesReport (x : Ctlr) (p : Bus) (now : Instant) : Bool := (x.phy p).st ≠ .down && (x.phy p).run && decide ((x.phy p).queued now < 16)

/-- A report formed for a client and sent where it can be (R506, R517, R571, R572). -/
def State.sendReport (s : State) (c : Ctl) (cl : Client) (key : KeyGen) (y : Sub) (d : Due) : State :=
  let x := s.ctl c
  let k := reportPacket key cl y (x.mram.client cl) d
  let ports := (x.reportPorts cl s.now).filter fun e => x.takesReport e.1 s.now
  let lost := ports.isEmpty
  let s := s.modMram c fun m => m.modClient cl fun z => { z with
    repSeq := (z.repSeq + 1) % 2 ^ 48, repLoss := if lost then wrap32 z.repLoss else z.repLoss
    subs := z.subs.map fun w => if w.handle = y.handle then { d.sub with first := false, sentAt := some s.now } else w }
  ports.foldl (fun s e => s.sendOn c e.1 e.2.ip (40 + k.params.length) (.report c e.1 e.2 k)) s

/-- STREAM_REPORT (R513, R568 to R573, R598, R599): the ACTIVE controller alone serves subscriptions. -/
def execStreamReport (t : Instant) (cl : Client) (handle : Nat) (s : State) : Result :=
  run t (fun s =>
    match s.active with
    | none => s
    | some c =>
      let x := (s.ctl c).mram.client cl
      match x.subs.find? (fun y => y.handle = handle), x.current with
      | some y, some key =>
        when (!(s.ctl c).sup.failing && decide (s.utime c < y.stop)) (fun s => match s.dueOf c y with
          | some d => s.sendReport c cl key y d
          | none => s) s
      | _, _ => s) s

end Sys2Proof.Machine
end

