-- ==== Sys2Proof/Machine/Dispatch.lean ====
section
/-!
DEFINITION. Machine/Dispatch.lean: the meaning of each command, one arm for each row of the table.
-/
namespace Sys2Proof.Machine

/-- The effect of one command on everything but the queue. -/
def exec (i : Instr) (s : State) : Host.Outcome State Fault Refusal :=
  match i with
  | .ping t q => Sys2Proof.Machine.execPing t q s
  | .identify t q => Sys2Proof.Machine.execIdentify t q s
  | .sessionInfo t q => Sys2Proof.Machine.execSessionInfo t q s
  | .setAddress t q => Sys2Proof.Machine.execSetAddress t q s
  | .subscribe t q => Sys2Proof.Machine.execSubscribe t q s
  | .unsubscribe t q => Sys2Proof.Machine.execUnsubscribe t q s
  | .listSubs t q => Sys2Proof.Machine.execListSubs t q s
  | .setChannel t q => Sys2Proof.Machine.execSetChannel t q s
  | .setGroup t q => Sys2Proof.Machine.execSetGroup t q s
  | .setPwm t q => Sys2Proof.Machine.execSetPwm t q s
  | .clearTrip t q => Sys2Proof.Machine.execClearTrip t q s
  | .clearGlaze t q => Sys2Proof.Machine.execClearGlaze t q s
  | .own t q => Sys2Proof.Machine.execOwn t q s
  | .release t q => Sys2Proof.Machine.execRelease t q s
  | .setLoop t q => Sys2Proof.Machine.execSetLoop t q s
  | .getConfig t q => Sys2Proof.Machine.execGetConfig t q s
  | .stageConfig t q => Sys2Proof.Machine.execStageConfig t q s
  | .commitConfig t q => Sys2Proof.Machine.execCommitConfig t q s
  | .discardConfig t q => Sys2Proof.Machine.execDiscardConfig t q s
  | .getChannel t q => Sys2Proof.Machine.execGetChannel t q s
  | .getTwin t q => Sys2Proof.Machine.execGetTwin t q s
  | .latchMeas t q => Sys2Proof.Machine.execLatchMeas t q s
  | .latchRead t q => Sys2Proof.Machine.execLatchRead t q s
  | .getTrigger t q => Sys2Proof.Machine.execGetTrigger t q s
  | .getEnergy t q => Sys2Proof.Machine.execGetEnergy t q s
  | .getHk t q => Sys2Proof.Machine.execGetHk t q s
  | .getAlarms t q => Sys2Proof.Machine.execGetAlarms t q s
  | .getPortStats t q => Sys2Proof.Machine.execGetPortStats t q s
  | .getTime t q => Sys2Proof.Machine.execGetTime t q s
  | .getGnss t q => Sys2Proof.Machine.execGetGnss t q s
  | .getGnssMeas t q => Sys2Proof.Machine.execGetGnssMeas t q s
  | .snapCapture t q => Sys2Proof.Machine.execSnapCapture t q s
  | .snapRead t q => Sys2Proof.Machine.execSnapRead t q s
  | .logRead t q => Sys2Proof.Machine.execLogRead t q s
  | .logFind t q => Sys2Proof.Machine.execLogFind t q s
  | .logMark t q => Sys2Proof.Machine.execLogMark t q s
  | .logStatus t q => Sys2Proof.Machine.execLogStatus t q s
  | .coneRead t q => Sys2Proof.Machine.execConeRead t q s
  | .coneStatus t q => Sys2Proof.Machine.execConeStatus t q s
  | .coneClear t q => Sys2Proof.Machine.execConeClear t q s
  | .winRead t q => Sys2Proof.Machine.execWinRead t q s
  | .winWrite t q => Sys2Proof.Machine.execWinWrite t q s
  | .winErase t q => Sys2Proof.Machine.execWinErase t q s
  | .spiXfer t q => Sys2Proof.Machine.execSpiXfer t q s
  | .pairStatus t q => Sys2Proof.Machine.execPairStatus t q s
  | .roleSwap t q => Sys2Proof.Machine.execRoleSwap t q s
  | .resolveSplit t q => Sys2Proof.Machine.execResolveSplit t q s
  | .regRead t q => Sys2Proof.Machine.execRegRead t q s
  | .regWrite t q => Sys2Proof.Machine.execRegWrite t q s
  | .fwBegin t q => Sys2Proof.Machine.execFwBegin t q s
  | .fwData t q => Sys2Proof.Machine.execFwData t q s
  | .fwCommit t q => Sys2Proof.Machine.execFwCommit t q s
  | .fwRestart t q => Sys2Proof.Machine.execFwRestart t q s
  | .fwStatus t q => Sys2Proof.Machine.execFwStatus t q s
  | .keyLoad t q => Sys2Proof.Machine.execKeyLoad t q s
  | .keyClear t q => Sys2Proof.Machine.execKeyClear t q s
  | .signRevoke t q => Sys2Proof.Machine.execSignRevoke t q s
  | .debugHalt t q => Sys2Proof.Machine.execDebugHalt t q s
  | .cartEpochReset t q => Sys2Proof.Machine.execCartEpochReset t q s
  | .scrubEn t c on => Sys2Proof.Machine.execScrubEn t c on s
  | .scrubNow t c => Sys2Proof.Machine.execScrubNow t c s
  | .oltestNow t c mv0 mv1 => Sys2Proof.Machine.execOltestNow t c mv0 mv1 s
  | .hsSelftestNow t sl shunt mirror => Sys2Proof.Machine.execHsSelftestNow t sl shunt mirror s
  | .notchEnable t c b on => Sys2Proof.Machine.execNotchEnable t c b on s
  | .syaskegDatagram t c p src dst data => Sys2Proof.Machine.execSyaskegDatagram t c p src dst data s
  | .x50Transfer t c data => Sys2Proof.Machine.execX50Transfer t c data s
  | .ipv4Datagram t c p mac data => Sys2Proof.Machine.execIpv4Datagram t c p mac data s
  | .arpFrame t c p op mac ip target => Sys2Proof.Machine.execArpFrame t c p op mac ip target s
  | .icmpEchoRequest t c p ip dst id data => Sys2Proof.Machine.execIcmpEchoRequest t c p ip dst id data s
  | .ptpSync t c p master domain seq twoStep origin => Sys2Proof.Machine.execPtpSync t c p master domain seq twoStep origin s
  | .ptpFollowUp t c p master domain seq origin => Sys2Proof.Machine.execPtpFollowUp t c p master domain seq origin s
  | .ptpAnnounce t c p a => Sys2Proof.Machine.execPtpAnnounce t c p a s
  | .ptpDelayResp t c p master domain seq rx => Sys2Proof.Machine.execPtpDelayResp t c p master domain seq rx s
  | .delayReq t c => Sys2Proof.Machine.execDelayReq t c s
  | .ptpMasterLost t c => Sys2Proof.Machine.execPtpMasterLost t c s
  | .plcaBeacon t c p heard => Sys2Proof.Machine.execPlcaBeacon t c p heard s
  | .beaconLoss t c p => Sys2Proof.Machine.execBeaconLoss t c p s
  | .rxFcs t c p => Sys2Proof.Machine.execRxFcs t c p s
  | .portQuiet t c p => Sys2Proof.Machine.execPortQuiet t c p s
  | .portDown t c p diag => Sys2Proof.Machine.execPortDown t c p diag s
  | .portUp t c p => Sys2Proof.Machine.execPortUp t c p s
  | .arpRetry t c p ip => Sys2Proof.Machine.execArpRetry t c p ip s
  | .arpEntryExpiry t c p => Sys2Proof.Machine.execArpEntryExpiry t c p s
  | .gratuitousArp t c p => Sys2Proof.Machine.execGratuitousArp t c p s
  | .dupEntryExpiry t c => Sys2Proof.Machine.execDupEntryExpiry t c s
  | .strangerTrafficClear t c p => Sys2Proof.Machine.execStrangerTrafficClear t c p s
  | .addressChangeEffect t c => Sys2Proof.Machine.execAddressChangeEffect t c s
  | .keyRetiringErase t cl => Sys2Proof.Machine.execKeyRetiringErase t cl s
  | .leaseExpiry t c => Sys2Proof.Machine.execLeaseExpiry t c s
  | .subscriptionEnd t cl handle => Sys2Proof.Machine.execSubscriptionEnd t cl handle s
  | .streamReport t cl handle => Sys2Proof.Machine.execStreamReport t cl handle s
  | .stageHoldExpiry t => Sys2Proof.Machine.execStageHoldExpiry t s
  | .reportSeqMirror t => Sys2Proof.Machine.execReportSeqMirror t s
  | .scheduleArm t jsn => Sys2Proof.Machine.execScheduleArm t jsn s
  | .armedApply t sl => Sys2Proof.Machine.execArmedApply t sl s
  | .scheduleUnarmedApply t jsn => Sys2Proof.Machine.execScheduleUnarmedApply t jsn s
  | .scheduledSetLoop t jsn => Sys2Proof.Machine.execScheduledSetLoop t jsn s
  | .logicPowerUp t c selfTest => Sys2Proof.Machine.execLogicPowerUp t c selfTest s
  | .firmwareRunning t c => Sys2Proof.Machine.execFirmwareRunning t c s
  | .elect t c => Sys2Proof.Machine.execElect t c s
  | .electSend t c => Sys2Proof.Machine.execElectSend t c s
  | .electTimeout t c peerPowered => Sys2Proof.Machine.execElectTimeout t c peerPowered s
  | .claimReq t c sl => Sys2Proof.Machine.execClaimReq t c sl s
  | .claimAck t c sl => Sys2Proof.Machine.execClaimAck t c sl s
  | .claimGo t c sl => Sys2Proof.Machine.execClaimGo t c sl s
  | .claimArmTimeout t sl => Sys2Proof.Machine.execClaimArmTimeout t sl s
  | .claimRetry t c sl => Sys2Proof.Machine.execClaimRetry t c sl s
  | .commandReady t c => Sys2Proof.Machine.execCommandReady t c s
  | .imageConfirmed t c => Sys2Proof.Machine.execImageConfirmed t c s
  | .logicDip t c mv => Sys2Proof.Machine.execLogicDip t c mv s
  | .powerFail t c => Sys2Proof.Machine.execPowerFail t c s
  | .powerFailRestart t c selfTest => Sys2Proof.Machine.execPowerFailRestart t c selfTest s
  | .holdupExhausted t c steps => Sys2Proof.Machine.execHoldupExhausted t c steps s
  | .holdupCharged t c => Sys2Proof.Machine.execHoldupCharged t c s
  | .holdupPrediction t c ms => Sys2Proof.Machine.execHoldupPrediction t c ms s
  | .logicInputState t c ix mv => Sys2Proof.Machine.execLogicInputState t c ix mv s
  | .powerBusBand t sl mv => Sys2Proof.Machine.execPowerBusBand t sl mv s
  | .uvloFreewheelCap t c => Sys2Proof.Machine.execUvloFreewheelCap t c s
  | .ovOff t sl => Sys2Proof.Machine.execOvOff t sl s
  | .ovOffExit t sl => Sys2Proof.Machine.execOvOffExit t sl s
  | .restartStagger t c => Sys2Proof.Machine.execRestartStagger t c s
  | .cartridgeStart t sl mv serial => Sys2Proof.Machine.execCartridgeStart t sl mv serial s
  | .insertionHoldEnd t c => Sys2Proof.Machine.execInsertionHoldEnd t c s
  | .cellInserted t c => Sys2Proof.Machine.execCellInserted t c s
  | .cellQualificationEnd t c ohm mv => Sys2Proof.Machine.execCellQualificationEnd t c ohm mv s
  | .prechargeDone t c mv => Sys2Proof.Machine.execPrechargeDone t c mv s
  | .cellRemoved t c => Sys2Proof.Machine.execCellRemoved t c s
  | .cellLoadTest t c minMv dropMv => Sys2Proof.Machine.execCellLoadTest t c minMv dropMv s
  | .chargerControl t c mv ua => Sys2Proof.Machine.execChargerControl t c mv ua s
  | .chargerFault t c mv => Sys2Proof.Machine.execChargerFault t c mv s
  | .housekeepingRound t r => Sys2Proof.Machine.execHousekeepingRound t r s
  | .shed t => Sys2Proof.Machine.execShed t s
  | .shedResume t => Sys2Proof.Machine.execShedResume t s
  | .chDerateExceeded t c => Sys2Proof.Machine.execChDerateExceeded t c s
  | .derateStep t => Sys2Proof.Machine.execDerateStep t s
  | .fanTrayTimeout t => Sys2Proof.Machine.execFanTrayTimeout t s
  | .fanStartCheck t f rpm => Sys2Proof.Machine.execFanStartCheck t f rpm s
  | .fanTachFault t f rpm pct => Sys2Proof.Machine.execFanTachFault t f rpm pct s
  | .fanTachRecovery t f rpm => Sys2Proof.Machine.execFanTachRecovery t f rpm s
  | .fanRetry t f => Sys2Proof.Machine.execFanRetry t f s
  | .fanTrayPresence t present => Sys2Proof.Machine.execFanTrayPresence t present s
  | .dieThermalShutdown t c fw temp => Sys2Proof.Machine.execDieThermalShutdown t c fw temp s
  | .dieThermalExit t c fw temp => Sys2Proof.Machine.execDieThermalExit t c fw temp s
  | .ctrlTsd t c temp => Sys2Proof.Machine.execCtrlTsd t c temp s
  | .ctrlTsdRelease t c temp selfTest => Sys2Proof.Machine.execCtrlTsdRelease t c temp selfTest s
  | .coneCollect t sl => Sys2Proof.Machine.execConeCollect t sl s
  | .setpointFrame t c sl ok => Sys2Proof.Machine.execSetpointFrame t c sl ok s
  | .statusFrame t c sl ok => Sys2Proof.Machine.execStatusFrame t c sl ok s
  | .frameSlot t c => Sys2Proof.Machine.execFrameSlot t c s
  | .cartHoldExpiry t sl => Sys2Proof.Machine.execCartHoldExpiry t sl s
  | .turnOn t c mid serOk => Sys2Proof.Machine.execTurnOn t c mid serOk s
  | .turnOff t c => Sys2Proof.Machine.execTurnOff t c s
  | .decayCurrentLow t c ma => Sys2Proof.Machine.execDecayCurrentLow t c ma s
  | .decayCap t c ma => Sys2Proof.Machine.execDecayCap t c ma s
  | .offStateTest t c mv0 mv1 => Sys2Proof.Machine.execOffStateTest t c mv0 mv1 s
  | .onStateOpenLoad t c => Sys2Proof.Machine.execOnStateOpenLoad t c s
  | .reverse t c ma => Sys2Proof.Machine.execReverse t c ma s
  | .reverseHoldEnd t c => Sys2Proof.Machine.execReverseHoldEnd t c s
  | .reverseFlagClear t c => Sys2Proof.Machine.execReverseFlagClear t c s
  | .startEnd t c mv => Sys2Proof.Machine.execStartEnd t c mv s
  | .prechargeTimeout t c mv => Sys2Proof.Machine.execPrechargeTimeout t c mv s
  | .prechargeEnergy t c mj => Sys2Proof.Machine.execPrechargeEnergy t c mj s
  | .heaterDrift t c mv => Sys2Proof.Machine.execHeaterDrift t c mv s
  | .hardShort t c shunt mirror => Sys2Proof.Machine.execHardShort t c shunt mirror s
  | .regulationEngage t c ma => Sys2Proof.Machine.execRegulationEngage t c ma s
  | .regulationEnd t c ma enhanced period => Sys2Proof.Machine.execRegulationEnd t c ma enhanced period s
  | .limitTime t c => Sys2Proof.Machine.execLimitTime t c s
  | .limitTimerReset t c => Sys2Proof.Machine.execLimitTimerReset t c s
  | .wireI2t t c => Sys2Proof.Machine.execWireI2t t c s
  | .stuckOn t c ns conf intervals => Sys2Proof.Machine.execStuckOn t c ns conf intervals s
  | .disconnectFailed t c ns => Sys2Proof.Machine.execDisconnectFailed t c ns s
  | .stuckOff t c sw ns intervals => Sys2Proof.Machine.execStuckOff t c sw ns intervals s
  | .gateMonFault t c ns => Sys2Proof.Machine.execGateMonFault t c ns s
  | .retryAttempt t c => Sys2Proof.Machine.execRetryAttempt t c s
  | .retryCounterReset t c => Sys2Proof.Machine.execRetryCounterReset t c s
  | .protStateSave t sl => Sys2Proof.Machine.execProtStateSave t sl s
  | .periodBoundary t c => Sys2Proof.Machine.execPeriodBoundary t c s
  | .pwmCompare t c => Sys2Proof.Machine.execPwmCompare t c s
  | .freewheelOn t c sw ns fwdOff => Sys2Proof.Machine.execFreewheelOn t c sw ns fwdOff s
  | .freewheelOffAhead t c offNs waitNs => Sys2Proof.Machine.execFreewheelOffAhead t c offNs waitNs s
  | .freewheelLowCurrent t c ma => Sys2Proof.Machine.execFreewheelLowCurrent t c ma s
  | .swCmpFault t c ma ceiling => Sys2Proof.Machine.execSwCmpFault t c ma ceiling s
  | .triggerFire t c trgB u1 u2 => Sys2Proof.Machine.execTriggerFire t c trgB u1 u2 s
  | .blankWindowStart t sl k src event => Sys2Proof.Machine.execBlankWindowStart t sl k src event s
  | .blankWindowEnd t sl k => Sys2Proof.Machine.execBlankWindowEnd t sl k s
  | .delayLineCalibration t c n => Sys2Proof.Machine.execDelayLineCalibration t c n s
  | .debugResume t sl => Sys2Proof.Machine.execDebugResume t sl s
  | .averageIntervalEnd t c k x mirror => Sys2Proof.Machine.execAverageIntervalEnd t c k x mirror s
  | .latchInstant t k x => Sys2Proof.Machine.execLatchInstant t k x s
  | .latchComplete t => Sys2Proof.Machine.execLatchComplete t s
  | .energySave t sl => Sys2Proof.Machine.execEnergySave t sl s
  | .visitStart t sl pos => Sys2Proof.Machine.execVisitStart t sl pos s
  | .visitEnd t k => Sys2Proof.Machine.execVisitEnd t k s
  | .visitAbandoned t sl sat => Sys2Proof.Machine.execVisitAbandoned t sl sat s
  | .offsetLearn t c => Sys2Proof.Machine.execOffsetLearn t c s
  | .pathComparison t c => Sys2Proof.Machine.execPathComparison t c s
  | .crazingClear t c => Sys2Proof.Machine.execCrazingClear t c s
  | .pathFail t c path2 bad => Sys2Proof.Machine.execPathFail t c path2 bad s
  | .voltageCalibration t sl input uv => Sys2Proof.Machine.execVoltageCalibration t sl input uv s
  | .sharingLoop t p drift => Sys2Proof.Machine.execSharingLoop t p drift s
  | .twinUnbalanced t p => Sys2Proof.Machine.execTwinUnbalanced t p s
  | .leverOpen t sl => Sys2Proof.Machine.execLeverOpen t sl s
  | .leverClose t sl => Sys2Proof.Machine.execLeverClose t sl s
  | .left t sl => Sys2Proof.Machine.execLeft t sl s
  | .slotLeft t sl => Sys2Proof.Machine.execSlotLeft t sl s
  | .slotLost t sl => Sys2Proof.Machine.execSlotLost t sl s
  | .twinJoin t c => Sys2Proof.Machine.execTwinJoin t c s
  | .loopUpdate t q => Sys2Proof.Machine.execLoopUpdate t q s
  | .take t c => Sys2Proof.Machine.execTake t c s
  | .loopStageTimeout t c q => Sys2Proof.Machine.execLoopStageTimeout t c q s
  | .compliance t c q ua mv => Sys2Proof.Machine.execCompliance t c q ua mv s
  | .loopProbe t q mv35 mv36 => Sys2Proof.Machine.execLoopProbe t q mv35 mv36 s
  | .loopHostTmo t q => Sys2Proof.Machine.execLoopHostTmo t q s
  | .tachEdge t q => Sys2Proof.Machine.execTachEdge t q s
  | .tachEvaluation t q => Sys2Proof.Machine.execTachEvaluation t q s
  | .tachSpinupEnd t q => Sys2Proof.Machine.execTachSpinupEnd t q s
  | .tachStall t q => Sys2Proof.Machine.execTachStall t q s
  | .tachOverrange t q above => Sys2Proof.Machine.execTachOverrange t q above s
  | .timeEvaluation t c => Sys2Proof.Machine.execTimeEvaluation t c s
  | .sourceQualified t c ptp => Sys2Proof.Machine.execSourceQualified t c ptp s
  | .timeStep t c => Sys2Proof.Machine.execTimeStep t c s
  | .timeArbitration t c oneBand => Sys2Proof.Machine.execTimeArbitration t c oneBand s
  | .suspectExpiry t c ptp => Sys2Proof.Machine.execSuspectExpiry t c ptp s
  | .holdoverExpiry t c => Sys2Proof.Machine.execHoldoverExpiry t c s
  | .taiUtcChange t c => Sys2Proof.Machine.execTaiUtcChange t c s
  | .ppsEdge t c => Sys2Proof.Machine.execPpsEdge t c s
  | .timeReport t c f => Sys2Proof.Machine.execTimeReport t c f s
  | .ppsDelayCalibration t c n => Sys2Proof.Machine.execPpsDelayCalibration t c n s
  | .timePairDiff t => Sys2Proof.Machine.execTimePairDiff t s
  | .tcxoFail t c noEdges ppmRtc ppmGnss => Sys2Proof.Machine.execTcxoFail t c noEdges ppmRtc ppmGnss s
  | .sampleFrame t c ok agcLimit magPct ppm agc1 agc5 dumps => Sys2Proof.Machine.execSampleFrame t c ok agcLimit magPct ppm agc1 agc5 dumps s
  | .acquisitionSearch t c k peak next code bin => Sys2Proof.Machine.execAcquisitionSearch t c k peak next code bin s
  | .handOver t c k locked cand cn0 => Sys2Proof.Machine.execHandOver t c k locked cand cn0 s
  | .lossOfLock t c k b cn0 pli => Sys2Proof.Machine.execLossOfLock t c k b cn0 pli s
  | .sidePeakShift t c k late side prompt => Sys2Proof.Machine.execSidePeakShift t c k late side prompt s
  | .measurementEpoch t c obs => Sys2Proof.Machine.execMeasurementEpoch t c obs s
  | .spectralMonitor t c b khz above track0 track1 power => Sys2Proof.Machine.execSpectralMonitor t c b khz above track0 track1 power s
  | .ephemerisDecoded t c sat ref healthy ok => Sys2Proof.Machine.execEphemerisDecoded t c sat ref healthy ok s
  | .almanacWrite t c tai => Sys2Proof.Machine.execAlmanacWrite t c tai s
  | .snapStored t c data => Sys2Proof.Machine.execSnapStored t c data s
  | .snapProcessed t c found => Sys2Proof.Machine.execSnapProcessed t c found s
  | .scheduledCapture t c => Sys2Proof.Machine.execScheduledCapture t c s
  | .fftSelfTest t c pass => Sys2Proof.Machine.execFftSelfTest t c pass s
  | .gnssCardPresence t present => Sys2Proof.Machine.execGnssCardPresence t present s
  | .antOpen t ma => Sys2Proof.Machine.execAntOpen t ma s
  | .antShort t ma => Sys2Proof.Machine.execAntShort t ma s
  | .antBiasReapply t => Sys2Proof.Machine.execAntBiasReapply t s
  | .logRecord t code flags source object body => Sys2Proof.Machine.execLogRecord t code flags source object body s
  | .loss t => Sys2Proof.Machine.execLoss t s
  | .voyage t c => Sys2Proof.Machine.execVoyage t c s
  | .voyageAck t sl => Sys2Proof.Machine.execVoyageAck t sl s
  | .mirrorGapTimeout t c => Sys2Proof.Machine.execMirrorGapTimeout t c s
  | .lineSample t w ix lineMv railMv => Sys2Proof.Machine.execLineSample t w ix lineMv railMv s
  | .contactChange t w ix => Sys2Proof.Machine.execContactChange t w ix s
  | .lineState t w ix => Sys2Proof.Machine.execLineState t w ix s
  | .fltAssert t sl ix k ns => Sys2Proof.Machine.execFltAssert t sl ix k ns s
  | .fltRelease t sl ix k ns => Sys2Proof.Machine.execFltRelease t sl ix k ns s
  | .limpDemand t sl => Sys2Proof.Machine.execLimpDemand t sl s
  | .soakEnd t c => Sys2Proof.Machine.execSoakEnd t c s
  | .handoverRampEnd t c => Sys2Proof.Machine.execHandoverRampEnd t c s
  | .heartbeatSend t c => Sys2Proof.Machine.execHeartbeatSend t c s
  | .heartbeat t c lane0 lane1 => Sys2Proof.Machine.execHeartbeat t c lane0 lane1 s
  | .heartbeatMissed t c peerPowered => Sys2Proof.Machine.execHeartbeatMissed t c peerPowered s
  | .failN t c asserted => Sys2Proof.Machine.execFailN t c asserted s
  | .lockstepMismatch t c selfTest => Sys2Proof.Machine.execLockstepMismatch t c selfTest s
  | .watchdogExpiry t c selfTest => Sys2Proof.Machine.execWatchdogExpiry t c selfTest s
  | .failover t c => Sys2Proof.Machine.execFailover t c s
  | .prepare t jsn => Sys2Proof.Machine.execPrepare t jsn s
  | .prepAck t jsn => Sys2Proof.Machine.execPrepAck t jsn s
  | .commit t jsn => Sys2Proof.Machine.execCommit t jsn s
  | .commitAck t jsn => Sys2Proof.Machine.execCommitAck t jsn s
  | .mirrorTimeout t => Sys2Proof.Machine.execMirrorTimeout t s
  | .stateDigest t => Sys2Proof.Machine.execStateDigest t s
  | .digestMismatch t => Sys2Proof.Machine.execDigestMismatch t s
  | .resyncComplete t => Sys2Proof.Machine.execResyncComplete t s
  | .joinComplete t => Sys2Proof.Machine.execJoinComplete t s
  | .handoff t => Sys2Proof.Machine.execHandoff t s
  | .autoRoleSwap t => Sys2Proof.Machine.execAutoRoleSwap t s
  | .splitReelect t c peerPowered => Sys2Proof.Machine.execSplitReelect t c peerPowered s
  | .controllerLeverOpen t c => Sys2Proof.Machine.execControllerLeverOpen t c s
  | .leverWaitExpiry t c => Sys2Proof.Machine.execLeverWaitExpiry t c s
  | .controllerLeverClose t c => Sys2Proof.Machine.execControllerLeverClose t c s
  | .codePlugCheck t c k => Sys2Proof.Machine.execCodePlugCheck t c k s
  | .s50Change t enable => Sys2Proof.Machine.execS50Change t enable s
  | .x50Attach t cable => Sys2Proof.Machine.execX50Attach t cable s
  | .scrubPass t w mram sram => Sys2Proof.Machine.execScrubPass t w mram sram s
  | .doubleBitError t w addr => Sys2Proof.Machine.execDoubleBitError t w addr s
  | .seriesTest t c out mid => Sys2Proof.Machine.execSeriesTest t c out mid s
  | .dailySelftest t c => Sys2Proof.Machine.execDailySelftest t c s
  | .winPoll t c status => Sys2Proof.Machine.execWinPoll t c status s
  | .winTimeout t c status => Sys2Proof.Machine.execWinTimeout t c status s
  | .winProbe t c p => Sys2Proof.Machine.execWinProbe t c p s
  | .expSupply t ma => Sys2Proof.Machine.execExpSupply t ma s
  | .logicRailDipOnset t c mv store => Sys2Proof.Machine.execLogicRailDipOnset t c mv store s
  | .ppsPulseEnd t c => Sys2Proof.Machine.execPpsPulseEnd t c s
  | .spiTransactionEnd t c rx => Sys2Proof.Machine.execSpiTransactionEnd t c rx s
  | .energyCounterWrite t c => Sys2Proof.Machine.execEnergyCounterWrite t c s
  | .notApplied t jsn => Sys2Proof.Machine.execNotApplied t jsn s
  | .busCollisions t c p rate => Sys2Proof.Machine.execBusCollisions t c p rate s
  | .plcaDegradedClear t c p => Sys2Proof.Machine.execPlcaDegradedClear t c p s
  | .addrConflictCleared t c p => Sys2Proof.Machine.execAddrConflictCleared t c p s
  | .antOpenCleared t ma => Sys2Proof.Machine.execAntOpenCleared t ma s
  | .antShortCleared t ma => Sys2Proof.Machine.execAntShortCleared t ma s
  | .expSupplyCleared t ma => Sys2Proof.Machine.execExpSupplyCleared t ma s
  | .cartridgeLinkLoss t c sl => Sys2Proof.Machine.execCartridgeLinkLoss t c sl s

end Sys2Proof.Machine
end

