-- ==== Sys2Proof/Safety.lean ====
section
/-!
DEFINITION. Safety.lean: the terms in which claims are stated: that a command completes and what holds of the state it leaves, what a command
leaves as it was, and what a safe run is.
-/
namespace Sys2Proof.Machine

/-- A command completes, and the state it leaves has a property. -/
def Gives (o : Result) (P : State → Prop) : Prop := ∃ u, o = .next u ∧ P u

/-- One step from a state goes on. -/
def Safe (s : State) : Prop := Gives (step s) fun _ => True

/-- From every state that meets a condition at the command's instant, the command completes and leaves a state in a relation to it. The state
at the command's instant, `s.begin i.instant`, is `s` with the clock moved on and nothing sent yet. -/
def Does (i : Instr) (cond : State → Prop) (res : State → State → Prop) : Prop :=
  ∀ s, cond (s.begin i.instant) → Gives (exec i s) (res (s.begin i.instant))

/-! What a command leaves as it was. Each says of two states `s` and `u`, at a command's instant and after it, that they differ in
nothing but the part named. -/

/-- A controller's state is changed in its log, its list of alarms and what its subscriptions have waiting, and in nothing else. -/
def Ctlr.Logged (x y : Ctlr) : Prop :=
  (∀ i : Client, y.mram.client i = { x.mram.client i with subs := (y.mram.client i).subs }) ∧
  y = { x with alarms := y.alarms, mram := { x.mram with log := y.mram.log, clients := y.mram.clients } }

/-- Both controllers have at most logged. -/
def Logged (s u : State) : Prop := ∀ c, Ctlr.Logged (s.ctl c) (u.ctl c)

/-- Logs alone have changed. -/
def OnlyLog (s u : State) : Prop := Logged s u ∧ u = { s with ctlA := u.ctlA, ctlB := u.ctlB }

/-- One channel has changed. -/
def OnlyChan (c : Ch) (s u : State) : Prop := (∀ d, d ≠ c → u.chan d = s.chan d) ∧ u = { s with chans := u.chans }

/-- One channel and the logs have changed. -/
def OnlyChanLog (c : Ch) (s u : State) : Prop :=
  (∀ d, d ≠ c → u.chan d = s.chan d) ∧ Logged s u ∧ u = { s with chans := u.chans, ctlA := u.ctlA, ctlB := u.ctlB }

/-- One channel, the logs, and the blanking selections that the cartridges' timers use have changed. -/
def OnlyChanTimers (c : Ch) (s u : State) : Prop :=
  (∀ d, d ≠ c → u.chan d = s.chan d) ∧ (∀ k, u.cart k = { s.cart k with at_ := (u.cart k).at_ }) ∧ Logged s u ∧
  u = { s with chans := u.chans, carts := u.carts, ctlA := u.ctlA, ctlB := u.ctlB }

/-- The channels of one cartridge have changed. -/
def OnlyChansOf (k : Slot) (s u : State) : Prop := (∀ d, slotOf d ≠ k → u.chan d = s.chan d) ∧ u = { s with chans := u.chans }

/-- One cartridge has changed. -/
def OnlyCart (k : Slot) (s u : State) : Prop := (∀ j, j ≠ k → u.cart j = s.cart j) ∧ u = { s with carts := u.carts }

/-- One cartridge and the logs have changed. -/
def OnlyCartLog (k : Slot) (s u : State) : Prop :=
  (∀ j, j ≠ k → u.cart j = s.cart j) ∧ Logged s u ∧ u = { s with carts := u.carts, ctlA := u.ctlA, ctlB := u.ctlB }

/-- One cartridge and its channels have changed. -/
def OnlySlot (k : Slot) (s u : State) : Prop :=
  (∀ d, slotOf d ≠ k → u.chan d = s.chan d) ∧ (∀ j, j ≠ k → u.cart j = s.cart j) ∧ u = { s with carts := u.carts, chans := u.chans }

/-- One cartridge, its channels and the logs have changed. -/
def OnlySlotLog (k : Slot) (s u : State) : Prop :=
  (∀ d, slotOf d ≠ k → u.chan d = s.chan d) ∧ (∀ j, j ≠ k → u.cart j = s.cart j) ∧ Logged s u ∧
  u = { s with carts := u.carts, chans := u.chans, ctlA := u.ctlA, ctlB := u.ctlB }

/-- One cartridge, its channels, the logs and the unit mode have changed, and what the model counts of free values. -/
def OnlySlotMode (k : Slot) (s u : State) : Prop :=
  (∀ d, slotOf d ≠ k → u.chan d = s.chan d) ∧ (∀ j, j ≠ k → u.cart j = s.cart j) ∧ Logged s u ∧
  u = { s with carts := u.carts, chans := u.chans, ctlA := u.ctlA, ctlB := u.ctlB, mode := u.mode, free := u.free }

/-- The cartridges and their channels stand as they did. -/
def OutputsKept (s u : State) : Prop := u.carts = s.carts ∧ u.chans = s.chans

/-- The controllers have changed. -/
def OnlyCtls (s u : State) : Prop := u = { s with ctlA := u.ctlA, ctlB := u.ctlB }

/-- One controller has changed. -/
def OnlyCtl (c : Ctl) (s u : State) : Prop := u.ctl c.other = s.ctl c.other ∧ OnlyCtls s u

/-- One controller has changed, and the other has at most logged. -/
def OnlyCtlLog (c : Ctl) (s u : State) : Prop := Ctlr.Logged (s.ctl c.other) (u.ctl c.other) ∧ OnlyCtls s u

/-- One controller has changed, and with it the unit mode and the antenna's bias; the other has at most logged, and free values may have been drawn. -/
def OnlyCtlMode (c : Ctl) (s u : State) : Prop :=
  Ctlr.Logged (s.ctl c.other) (u.ctl c.other) ∧ u = { s with ctlA := u.ctlA, ctlB := u.ctlB, mode := u.mode, ant := u.ant, free := u.free }

/-- The controllers have changed, and what the unit sends. -/
def OnlyCtlsOut (s u : State) : Prop := u = { s with out := u.out, ctlA := u.ctlA, ctlB := u.ctlB }

/-- One controller's stage of one loop output has changed. -/
def OnlyStage (c : Ctl) (q : Quad) (s u : State) : Prop :=
  (∀ p, p ≠ q → u.loop p = s.loop p) ∧ u.loop q = { s.loop q with stages := (u.loop q).stages } ∧
  (u.loop q).stages[c.other.ix] = (s.loop q).stages[c.other.ix] ∧ u = { s with loops := u.loops }

/-- One controller's stage of one loop output and the logs have changed. -/
def OnlyStageLog (c : Ctl) (q : Quad) (s u : State) : Prop :=
  (∀ p, p ≠ q → u.loop p = s.loop p) ∧ u.loop q = { s.loop q with stages := (u.loop q).stages } ∧
  (u.loop q).stages[c.other.ix] = (s.loop q).stages[c.other.ix] ∧ Logged s u ∧
  u = { s with loops := u.loops, ctlA := u.ctlA, ctlB := u.ctlB }

/-- One speed input and the logs have changed, and what the model counts of free values. -/
def OnlyTachLog (q : Quad) (s u : State) : Prop :=
  (∀ p, p ≠ q → u.tach p = s.tach p) ∧ Logged s u ∧ u = { s with tachs := u.tachs, ctlA := u.ctlA, ctlB := u.ctlB, free := u.free }

/-- One PHY has changed, and what it sends. -/
def OnlyPhy (c : Ctl) (p : Bus) (s u : State) : Prop :=
  (∀ d r, d ≠ c ∨ r ≠ p → (u.ctl d).phy r = (s.ctl d).phy r) ∧
  (∀ d, u.ctl d = { s.ctl d with phyA := (u.ctl d).phyA, phyB := (u.ctl d).phyB }) ∧ u = { s with out := u.out, ctlA := u.ctlA, ctlB := u.ctlB }

/-- One PHY and the logs have changed, and what it sends. -/
def OnlyPhyLog (c : Ctl) (p : Bus) (s u : State) : Prop :=
  (∀ d r, d ≠ c ∨ r ≠ p → (u.ctl d).phy r = (s.ctl d).phy r) ∧
  (∀ d, Ctlr.Logged { s.ctl d with phyA := (u.ctl d).phyA, phyB := (u.ctl d).phyB } (u.ctl d)) ∧
  u = { s with out := u.out, ctlA := u.ctlA, ctlB := u.ctlB }

/-- A controller's time keeping has changed, and what the unit sends. -/
def OnlyTime (c : Ctl) (s u : State) : Prop :=
  u.ctl c = { s.ctl c with time := (u.ctl c).time } ∧ u.ctl c.other = s.ctl c.other ∧ u = { s with out := u.out, ctlA := u.ctlA, ctlB := u.ctlB }

/-- A controller's time keeping and the logs have changed. -/
def OnlyTimeLog (c : Ctl) (s u : State) : Prop :=
  Ctlr.Logged { s.ctl c with time := (u.ctl c).time } (u.ctl c) ∧ Ctlr.Logged (s.ctl c.other) (u.ctl c.other) ∧ OnlyCtls s u

/-- A controller's GNSS baseband has changed. -/
def OnlyGnss (c : Ctl) (s u : State) : Prop :=
  u.ctl c = { s.ctl c with gnss := (u.ctl c).gnss } ∧ OnlyCtl c s u

/-- A controller's GNSS baseband, what it measures of time, and the logs have changed, and what the model counts of free values. -/
def OnlyGnssLog (c : Ctl) (s u : State) : Prop :=
  Ctlr.Logged { s.ctl c with gnss := (u.ctl c).gnss, time := (u.ctl c).time } (u.ctl c) ∧ Ctlr.Logged (s.ctl c.other) (u.ctl c.other) ∧
  u = { s with ctlA := u.ctlA, ctlB := u.ctlB, free := u.free }

/-- One tracker of a controller's baseband has changed. -/
def OnlyTrk (c : Ctl) (k : Tracker) (s u : State) : Prop :=
  (∀ j : Tracker, j ≠ k → (u.ctl c).gnss.trk[j] = (s.ctl c).gnss.trk[j]) ∧ OnlyGnss c s u

/-- The antenna's bias and the logs have changed. -/
def OnlyAntLog (s u : State) : Prop := Logged s u ∧ u = { s with ant := u.ant, ctlA := u.ctlA, ctlB := u.ctlB }

/-! Claims and starts. -/

/-- A CLAIM_GO goes to this cartridge alone (R178): the controller is command-ready, or no other claim is under way. -/
abbrev State.goesAlone (s : State) (c : Ctl) (k : Slot) : Prop :=
  (s.ctl c).ready = true ∨ ∀ j : Slot, j ≠ k → ((s.ctl c).claims[j]).st ≠ .requested ∧ ((s.ctl c).claims[j]).st ≠ .acked


/-- The bisque stage boots the preferred image (R164, R165, R194): no reset has come before firmware running, a copy of the boot record is good, and that
image is CONFIRMED and valid. -/
abbrev Ctlr.Bootable (x : Ctlr) : Prop :=
  let b := x.mram.boot.read
  x.bootRst = [] ∧ x.mram.boot.best.isSome = true ∧ x.mram.boot.recov = false ∧ (b.image b.prefB).st = .confirmed ∧
  (b.image b.prefB).valid b x.issue = true

/-- A controller starts as BOOTING from its preferred image, with FAIL_N asserted, and nothing else has changed but its loop stages, the unit mode and the
antenna's bias, which follow its role and its supply, and what its peer logs. -/
def Starts (c : Ctl) (cause : BootCause) (s u : State) : Prop :=
  (u.ctl c).powered = true ∧ (u.ctl c).role = .booting ∧ (u.ctl c).boot = cause ∧ (u.ctl c).refAt = s.now ∧ (u.ctl c).failN = true ∧
  (u.ctl c).ready = false ∧ (u.ctl c).imgB = (s.ctl c).mram.boot.read.prefB ∧ (u.ctl c).mram.items = (s.ctl c).mram.items ∧
  Ctlr.Logged (s.ctl c.other) (u.ctl c.other) ∧ u = { s with loops := u.loops, ctlA := u.ctlA, ctlB := u.ctlB, mode := u.mode, ant := u.ant }

end Sys2Proof.Machine

namespace Sys2Proof

/-- The request that a command of a client is, with what its opcode's row gives; none for a command that no client sends. -/
def Instr.asked : Instr → Option (Machine.Handler × Request)
  | .ping _ q => some (Machine.hPing, q)
  | .identify _ q => some (Machine.hIdentify, q)
  | .sessionInfo _ q => some (Machine.hSessionInfo, q)
  | .setAddress _ q => some (Machine.hSetAddress, q)
  | .subscribe _ q => some (Machine.hSubscribe, q)
  | .unsubscribe _ q => some (Machine.hUnsubscribe, q)
  | .listSubs _ q => some (Machine.hListSubs, q)
  | .setChannel _ q => some (Machine.hSetChannel, q)
  | .setGroup _ q => some (Machine.hSetGroup, q)
  | .setPwm _ q => some (Machine.hSetPwm, q)
  | .clearTrip _ q => some (Machine.hClearTrip, q)
  | .clearGlaze _ q => some (Machine.hClearGlaze, q)
  | .own _ q => some (Machine.hOwn, q)
  | .release _ q => some (Machine.hRelease, q)
  | .setLoop _ q => some (Machine.hSetLoop, q)
  | .getConfig _ q => some (Machine.hGetConfig, q)
  | .stageConfig _ q => some (Machine.hStageConfig, q)
  | .commitConfig _ q => some (Machine.hCommitConfig, q)
  | .discardConfig _ q => some (Machine.hDiscardConfig, q)
  | .getChannel _ q => some (Machine.hGetChannel, q)
  | .getTwin _ q => some (Machine.hGetTwin, q)
  | .latchMeas _ q => some (Machine.hLatchMeas, q)
  | .latchRead _ q => some (Machine.hLatchRead, q)
  | .getTrigger _ q => some (Machine.hGetTrigger, q)
  | .getEnergy _ q => some (Machine.hGetEnergy, q)
  | .getHk _ q => some (Machine.hGetHk, q)
  | .getAlarms _ q => some (Machine.hGetAlarms, q)
  | .getPortStats _ q => some (Machine.hGetPortStats, q)
  | .getTime _ q => some (Machine.hGetTime, q)
  | .getGnss _ q => some (Machine.hGetGnss, q)
  | .getGnssMeas _ q => some (Machine.hGetGnssMeas, q)
  | .snapCapture _ q => some (Machine.hSnapCapture, q)
  | .snapRead _ q => some (Machine.hSnapRead, q)
  | .logRead _ q => some (Machine.hLogRead, q)
  | .logFind _ q => some (Machine.hLogFind, q)
  | .logMark _ q => some (Machine.hLogMark, q)
  | .logStatus _ q => some (Machine.hLogStatus, q)
  | .coneRead _ q => some (Machine.hConeRead, q)
  | .coneStatus _ q => some (Machine.hConeStatus, q)
  | .coneClear _ q => some (Machine.hConeClear, q)
  | .winRead _ q => some (Machine.hWinRead, q)
  | .winWrite _ q => some (Machine.hWinWrite, q)
  | .winErase _ q => some (Machine.hWinErase, q)
  | .spiXfer _ q => some (Machine.hSpiXfer, q)
  | .pairStatus _ q => some (Machine.hPairStatus, q)
  | .roleSwap _ q => some (Machine.hRoleSwap, q)
  | .resolveSplit _ q => some (Machine.hResolveSplit, q)
  | .regRead _ q => some (Machine.hRegRead, q)
  | .regWrite _ q => some (Machine.hRegWrite, q)
  | .fwBegin _ q => some (Machine.hFwBegin, q)
  | .fwData _ q => some (Machine.hFwData, q)
  | .fwCommit _ q => some (Machine.hFwCommit, q)
  | .fwRestart _ q => some (Machine.hFwRestart, q)
  | .fwStatus _ q => some (Machine.hFwStatus, q)
  | .keyLoad _ q => some (Machine.hKeyLoad, q)
  | .keyClear _ q => some (Machine.hKeyClear, q)
  | .signRevoke _ q => some (Machine.hSignRevoke, q)
  | .debugHalt _ q => some (Machine.hDebugHalt, q)
  | .cartEpochReset _ q => some (Machine.hCartEpochReset, q)
  | _ => none

end Sys2Proof

namespace Sys2Proof.Machine

/-! Promises that every command keeps. -/

/-- A channel that conducts stands under no trip (R220, R243, R261). -/
def State.Untripped (s : State) : Prop := ∀ c : Ch, (s.chan c).stage.output.conducts = true → (s.chan c).prot.trip = .none

/-- Every transaction that a controller's journal holds has a JSN below its next one (R857). -/
def State.JournalFresh (s : State) : Prop := ∀ c : Ctl, ∀ j ∈ (s.ctl c).mram.slots, j.jsn < (s.ctl c).mram.jsn

/-- The clock fits its 63 bits, and every command that waits is well formed. -/
def State.InTime (s : State) : Prop := s.now < 2 ^ 63 ∧ ∀ i ∈ s.pending, i.wf = true

/-- An overload calls for shedding, of a feed or of the unit (R141, R445). -/
abbrev State.shedding (s : State) : Prop := s.sheds.1[(0 : Fin 2)] = true ∨ s.sheds.1[(1 : Fin 2)] = true ∨ s.sheds.2 = true

/-! Requests at check 7. -/

/-- A new request has been admitted: its key generation is used, and its sequence raises its client's window (R530, R536). -/
def State.letIn (s : State) (q : Request) : State :=
  let s := s.useKey q.ctl q.client q.gen
  s.modMram (s.winCtl q.ctl) fun m => m.modClient q.client fun x => x.raise q.seq

/-- A request passes: the controller answers it, it is new to its window, and every check of its opcode lets it through (R574). -/
abbrev Passes (h : Handler) (q : Request) (s : State) : Prop :=
  s.answers h.op q = true ∧
  ((s.useKey q.ctl q.client q.gen).ctl ((s.useKey q.ctl q.client q.gen).winCtl q.ctl)).mram.window q.client q.seq q.retrans = .fresh ∧
  (s.letIn q).notActive h q = false ∧ firstOf [h.deniedAt, h.paramAt, h.rangeAt] (s.letIn q) q.ctl q = none ∧
  (s.letIn q).bounded h q.ctl q = none ∧ firstOf [h.conflictAt, h.hw] (s.letIn q) q.ctl q = none

/-- The window entry of a request that has passed at a state (R537): DONE, of that instant. -/
def State.doneEntry (a : State) (h : Handler) (q : Request) : WinEntry :=
  { seq := q.seq, st := .complete, status := 0, opcode := h.op, jour := h.jour, time := a.utime q.ctl, digest := digestOf h.op q }

/-- A request has been answered DONE with reply parameters: its entry is made in the state its execution left, and its reply sent. `a` is the
state in which it passed, `d` what its execution left of it, and beyond these nothing has changed. -/
def AnsweredDone (h : Handler) (q : Request) (a d : State) (params : Bytes) (u : State) : Prop :=
  u = a.keep ((d.enter q.ctl q.client (a.doneEntry h q)).reply q.ctl q h.op 0 (a.utime q.ctl) params)

/-- A request has been taken into the journal (R858): its changes, the cartridges they act on and the value its reply needs stand in a transaction
that is prepared, with its entry, which is SCHEDULED with ACCEPTED where the request carries a time (R550). `a` is the state in which it passed, `d` what
its execution left of it. -/
def Journaled (h : Handler) (q : Request) (a d : State) (mask : Vector Bool 4) (mark : Nat) (changes : List Change) (u : State) : Prop :=
  u = a.keep (d.prepareTx q.ctl replyParams {
    client := q.client.val, seq := q.seq, opcode := h.op, time := q.time, sched := q.time ≠ 0, req := some q, mask := mask
    changes := changes ++ [.entry q.client (if q.time ≠ 0
      then { a.doneEntry h q with mark := mark, st := .scheduled, status := 1, time := q.time }
      else { a.doneEntry h q with mark := mark })] })

/-- A channel has tripped with a cause (R243, R261): it no longer conducts, and its output's cause is the trip's. -/
def Tripped (c : Ch) (cause : Nat) (u : State) : Prop :=
  (u.chan c).prot.trip ≠ .none ∧ (u.chan c).prot.tripCause = cause ∧ (u.chan c).stage.cause = cause ∧ (u.chan c).stage.output.conducts = false

end Sys2Proof.Machine
end

