-- ==== Sys2Proof/Certificates/Slice0/Obligations.lean ====
section
/-!
DEFINITION. Obligations.lean: the statements about the unit, from the numbered rules of the spec.
-/

open Sys2Proof Sys2Proof.Machine

/-- R207, R208: a channel whose level calls for it, with nothing that holds it off and its MID comparator quiet, turns on: it conducts in phase START
from 20 µs on, with its series switch closed. Under R255 a MID comparator that is not quiet at the first step trips it, STUCK_ON. R210: a conducting
channel whose level calls for OFF or FREEWHEEL, or has called for it since the turn-off began (R998), turns off: its forward switch opens and its load
current decays, until the current has fallen below 50 mA, when every switch is off or the freewheel switch alone is on; 20 ms after a slow decay began the rest of it goes into the clamp. -/
def Obligations.ChannelsTurnOnAndOff : Prop :=
  (∀ t c, Does (.turnOn t c false true)
    (fun b => b.mayTurnOn c = true ∧ (b.chan c).ctrl.wantsOn = true ∧ (b.chan c).stage.output.conducts = false ∧ (b.chan c).ctrl.source ≠ .open ∧
      (b.chan c).ctrl.noStart = false)
    (fun b u => (u.chan c).stage.output.conducts = true ∧ (u.chan c).stage.phase = .start ∧ (u.chan c).stage.startAt = b.now + 20000 ∧
      (u.chan c).stage.ser = true ∧ (u.chan c).stage.fw = false ∧ OnlyChanLog c b u)) ∧
  (∀ t c ok, Does (.turnOn t c true ok)
    (fun b => b.mayTurnOn c = true ∧ (b.chan c).ctrl.wantsOn = true ∧ (b.chan c).stage.output.conducts = false ∧ (b.chan c).ctrl.source ≠ .open ∧
      (b.chan c).prot.gateMon = false ∧ b.blanked c 2 = false)
    (fun b u => Tripped c 0x14 u ∧ (u.chan c).prot.trip = .locked ∧ OnlyChan c b u)) ∧
  (∀ t c, Does (.turnOff t c)
    (fun b => (b.chan c).stage.output.conducts = true ∧ ((b.chan c).wantsOff = true ∨ (b.chan c).stage.offDue = true) ∧
      (b.cart (slotOf c)).frozen = false ∧ (b.chan c).ctrl.source ≠ .open)
    (fun b u => (u.chan c).stage.output = .decay ∧ (u.chan c).stage.fwd = false ∧ (u.chan c).gen.enabled = false ∧
      (u.chan c).stage.cause = (b.chan c).ctrl.why ∧ (u.chan c).stage.decayAt = b.now ∧ OnlyChan c b u)) ∧
  (∀ t c ma, Does (.decayCurrentLow t c ma)
    (fun b => (b.chan c).stage.output = .decay ∧ ma.natAbs < 50 ∧ (b.cart (slotOf c)).frozen = false)
    (fun b u => (u.chan c).stage.output = (if (b.chan c).stage.toFw then .freewheel else .off) ∧ (u.chan c).stage.ser = false ∧
      (u.chan c).stage.fw = ((b.chan c).stage.toFw && (b.chan c).stage.fw) ∧ OnlyChan c b u)) ∧
  (∀ t c ma, Does (.decayCap t c ma)
    (fun b => (b.chan c).stage.output = .decay ∧ (b.chan c).stage.slow = true ∧ (b.chan c).stage.toFw = false ∧
      (b.chan c).stage.decayAt + 20000000 ≤ b.now ∧ 50 ≤ ma.natAbs)
    (fun b u => (u.chan c).stage.fw = false ∧ (u.chan c).stage.slow = false ∧ (u.chan c).stage.output = .decay ∧ OnlyChan c b u)) ∧
  (∀ t c, Does (.uvloFreewheelCap t c)
    (fun b => (b.cart (slotOf c)).band = .uvlo ∧ (b.chan c).stage.output = .decay ∧ (b.cart (slotOf c)).bandAt + 20000000 ≤ b.now)
    (fun b u => (u.chan c).stage.output = .off ∧ (u.chan c).stage.fw = false ∧ (u.chan c).stage.fwd = false ∧ (u.chan c).stage.ser = false ∧
      OnlyChan c b u))

/-- R216 to R219, R229: the load checks. An off-state test that finds 3 V or more with the source off sets EXT_VOLTAGE; one that finds less, and 4 V
or more with it on, sets OPEN_LOAD. An on-state average below OL_ON_I for 1 s sets OPEN_LOAD; a heater outside its tolerance for 10 s sets
HEATER_DRIFT. Nothing but the channel and the log changes. R214, R215: reverse current beyond 2 A opens every switch at once and holds the channel off
for 100 ms; then it may turn on afresh, or takes FREEWHEEL, and its flag clears after it has run for 10 s with no further event. R229, R119, R412: START
ends in RUN, or in HOLD for a SOLENOID at level ON; a restart delay and an insertion hold end at their instants. -/
def Obligations.LoadChecksAndWaitsAct : Prop :=
  (∀ t c mv0 mv1, Does (.offStateTest t c mv0 mv1)
    (fun b => b.offTestable c = true ∧ (b.chan c).stage.testAt ≤ b.now)
    (fun b u => (3000 ≤ mv0 → (u.chan c).stage.extV = true) ∧ (mv0 < 3000 → 4000 ≤ mv1 → (u.chan c).stage.olOff = true) ∧
      (u.chan c).stage.testAt = b.now + 1000000000 ∧ (u.chan c).stage.output = .off ∧ OnlyChanLog c b u)) ∧
  (∀ t c mv0 mv1, Does (.oltestNow t c mv0 mv1)
    (fun b => b.offTestable c = true)
    (fun b u => (3000 ≤ mv0 → (u.chan c).stage.extV = true) ∧ (mv0 < 3000 → 4000 ≤ mv1 → (u.chan c).stage.olOff = true) ∧
      (u.chan c).stage.output = .off ∧ OnlyChanLog c b u)) ∧
  (∀ t c a, Does (.onStateOpenLoad t c)
    (fun b => (b.chan c).stage.running = true ∧ (b.chan c).meas.avg100ms.current.getD 0 / 1000 < b.shared c (b.chItem c 0x0105 * 10) ∧ b.shared c (b.chItem c 0x0105 * 10) ≠ 0 ∧
      (b.cart (slotOf c)).frozen = false ∧ (b.chan c).stage.olOn = false ∧ (b.chan c).stage.olSince = some a ∧ a + 1000000000 ≤ b.now)
    (fun b u => (u.chan c).stage.olOn = true ∧ (u.chan c).stage.output = (b.chan c).stage.output ∧ OnlyChanLog c b u)) ∧
  (∀ t c mv a, Does (.heaterDrift t c mv)
    (fun b => (b.chan c).stage.profile = 5 ∧ (b.chan c).stage.phase = .run ∧ (b.chan c).stage.output = .on ∧ b.chItem c 0x0110 ≠ 0 ∧
      (b.cart (slotOf c)).frozen = false ∧
      (b.chItem c 0x0110 : Int) * (100 + b.chItem c 0x0111) * ((b.chan c).meas.avg1s.current.getD 0 / 1000) < mv * 10000 ∧
      (b.chan c).stage.drift = false ∧ (b.chan c).stage.driftSince = some a ∧ a + 10000000000 ≤ b.now)
    (fun b u => (u.chan c).stage.drift = true ∧ (u.chan c).stage.output = .on ∧ OnlyChanLog c b u)) ∧
  (∀ t c ma, Does (.reverse t c ma)
    (fun b => (b.chan c).stage.ser = true ∧ ma < -2000 ∧ (b.cart (slotOf c)).powered = true ∧ (b.cart (slotOf c)).frozen = false ∧
      (b.chan c).prot.trip = .none)
    (fun b u => (u.chan c).stage.output = .off ∧ (u.chan c).stage.fwd = false ∧ (u.chan c).stage.ser = false ∧ (u.chan c).stage.cause = 0x0A ∧
      (u.chan c).stage.reverse = true ∧ (u.chan c).stage.revUntil = some (b.now + 100000000) ∧ OnlyChanLog c b u)) ∧
  (∀ t c e, Does (.reverseHoldEnd t c)
    (fun b => (b.chan c).stage.revUntil = some e ∧ e ≤ b.now)
    (fun b u => (u.chan c).stage.revUntil = none ∧ OnlyChan c b u ∧
      ((b.chan c).stage.output = .off → (b.chan c).ctrl.level ≠ .freewheel →
        u.chan c = (b.chan c).modStage (fun g => { g with revUntil := none })) ∧
      ((b.chan c).stage.output = .off → (b.chan c).ctrl.level = .freewheel → (b.chan c).ctrl.source ≠ .open → (b.chan c).barred = false →
        (b.cart (slotOf c)).mayDrive = true → (b.cart (slotOf c)).frozen = false → (u.chan c).stage.output = .freewheel))) ∧
  (∀ t c, Does (.reverseFlagClear t c)
    (fun b => (b.chan c).stage.reverse = true ∧ (b.chan c).stage.output.conducts = true ∧ (b.chan c).stage.revAt + 10000000000 ≤ b.now ∧
      (b.chan c).stage.onAt + 10000000000 ≤ b.now)
    (fun b u => u.chan c = (b.chan c).modStage (fun g => { g with reverse := false }) ∧ OnlyChanLog c b u)) ∧
  (∀ t c mv, Does (.startEnd t c mv)
    (fun b => (b.chan c).stage.phase = .start ∧ (b.chan c).stage.output.conducts = true ∧ (b.chan c).stage.offDue = false ∧ b.startOver c mv = true ∧
      (b.cart (slotOf c)).frozen = false)
    (fun b u => (u.chan c).stage.phase = (if (b.chan c).stage.profile = 4 ∧ (b.chan c).ctrl.level = .on then .hold else .run) ∧
      (u.chan c).stage.output = (b.chan c).stage.output ∧ OnlyChan c b u)) ∧
  (∀ t c e, Does (.restartStagger t c)
    (fun b => (b.chan c).stage.restartAt = some e ∧ e ≤ b.now)
    (fun b u => u.chan c = (b.chan c).modStage (fun g => { g with restartAt := none }) ∧ OnlyChan c b u)) ∧
  (∀ t c e, Does (.insertionHoldEnd t c)
    (fun b => (b.chan c).ctrl.insHold = some e ∧ e ≤ b.now)
    (fun b u => u.chan c = (b.chan c).modCtrl (fun x => { x with insHold := none }) ∧ OnlyChan c b u))

/-- R243 to R261: each protection, at its condition, trips a channel that stands under no trip, with its own cause code, and touches nothing but the
channel: HARD_SHORT 0x10, LIMIT_TIME 0x11, WIRE_I2T 0x12, STUCK_ON 0x14, STUCK_OFF 0x15, PRECHARGE_TIMEOUT 0x0B, PRECHARGE_ENERGY 0x0C. -/
def Obligations.ProtectionsTrip : Prop :=
  (∀ t c shunt mirror, Does (.hardShort t c shunt mirror)
    (fun b => (b.chan c).prot.trip = .none ∧ (b.cart (slotOf c)).powered = true ∧ (90000 ≤ shunt ∨ 90000 ≤ mirror))
    (fun b u => Tripped c 0x10 u ∧ OnlyChan c b u)) ∧
  (∀ t c, Does (.limitTime t c)
    (fun b => (b.chan c).prot.trip = .none ∧ b.engine c = true ∧ (b.chan c).prot.limiting = true ∧
      b.chItem c 0x0113 * 1000000 ≤ (b.chan c).prot.limTimer + (b.now - (b.chan c).prot.regAt))
    (fun b u => Tripped c 0x11 u ∧ OnlyChan c b u)) ∧
  (∀ t c, Does (.wireI2t t c)
    (fun b => (b.chan c).prot.trip = .none ∧ b.engine c = true ∧ (b.chan c).stage.output.conducts = true ∧
      2 ^ 60 ≤ wireStep (b.chan c).prot.x (b.chan c).wireMa (b.chItem c 0x0114) (b.chItem c 0x0115))
    (fun b u => Tripped c 0x12 u ∧ (u.chan c).prot.x = wireStep (b.chan c).prot.x (b.chan c).wireMa (b.chItem c 0x0114) (b.chItem c 0x0115) ∧ OnlyChan c b u)) ∧
  (∀ t c ns conf n, Does (.stuckOn t c ns conf n)
    (fun b => (b.chan c).prot.trip = .none ∧ (b.cart (slotOf c)).powered = true ∧ (b.chan c).prot.gateMon = false ∧ b.blanked c 2 = false ∧
      b.stuckOn c ns conf n = true)
    (fun b u => Tripped c 0x14 u ∧ (u.chan c).prot.trip = .locked ∧ (u.chan c).stage.ser = false ∧ OnlyChan c b u)) ∧
  (∀ t c sw ns n, Does (.stuckOff t c sw ns n)
    (fun b => (b.chan c).prot.trip = .none ∧ b.engine c = true ∧ (b.chan c).stage.running = true ∧ (b.chan c).prot.gateMon = false ∧
      (b.chan c).prot.limiting = false ∧ b.blanked c 2 = false ∧ sw * 2 < (b.cart (slotOf c)).busMv ∧
      (((b.chan c).stage.output = .on ∧ 2000000 ≤ ns) ∨ ((b.chan c).stage.output = .pwm ∧ 8 ≤ n ∧ 10000 ≤ (b.chan c).gen.onNs)))
    (fun b u => Tripped c 0x15 u ∧ (u.chan c).prot.trip = .locked ∧ OnlyChan c b u)) ∧
  (∀ t c mv, Does (.prechargeTimeout t c mv)
    (fun b => (b.chan c).prot.trip = .none ∧ (b.chan c).stage.profile = 3 ∧ (b.chan c).stage.phase = .start ∧
      (b.chan c).stage.output.conducts = true ∧ (b.chan c).stage.startAt + (b.chan c).stage.p 6 * 1000000 ≤ b.now ∧
      mv * 10 < (b.cart (slotOf c)).busMv * 9 ∧ (b.cart (slotOf c)).frozen = false)
    (fun b u => Tripped c 0x0B u ∧ OnlyChan c b u)) ∧
  (∀ t c mj, Does (.prechargeEnergy t c mj)
    (fun b => (b.chan c).prot.trip = .none ∧ (b.chan c).stage.profile = 3 ∧ (b.chan c).stage.phase = .start ∧
      (b.chan c).stage.output.conducts = true ∧ 5000 < mj ∧ (b.cart (slotOf c)).frozen = false)
    (fun b u => Tripped c 0x0C u ∧ (u.chan c).stage.preMj = mj ∧ OnlyChan c b u))

/-- R245 to R248: regulation engages at the limit, and outside START counts as LIMITING from then; it ends when the switch has been fully enhanced for
100 µs with the current at most 95 % of the limit; 100 ms without it reset the limit timer. R264 to R269, R282, R283: an attempt that is due ends the
trip and keeps n where the channel may run; 60 s, or the retry interval where that is longer, of clean running clear n; the save of every 1 s stores
what the restart needs; a disconnect that fails and a gate monitor that fails are marked and logged. -/
def Obligations.RegulationAndRetriesAct : Prop :=
  (∀ t c ma, Does (.regulationEngage t c ma)
    (fun b => b.engine c = true ∧ (b.chan c).stage.output.conducts = true ∧ (b.chan c).prot.reg = false ∧ (b.limitMa c : Int) ≤ ma ∧ b.limHeld c = false)
    (fun b u => (u.chan c).prot.reg = true ∧ ((u.chan c).prot.limiting = true ↔ (b.chan c).stage.phase ≠ .start) ∧ (u.chan c).prot.regAt = b.now ∧
      (u.chan c).stage = (b.chan c).stage ∧ OnlyChan c b u)) ∧
  (∀ t c ma ns period, Does (.regulationEnd t c ma ns period)
    (fun b => b.engine c = true ∧ (b.chan c).prot.reg = true ∧ 100000 ≤ ns ∧ ma * 100 ≤ b.shared c (b.chItem c 0x0112 * 100) * 95 ∧
      ((b.chan c).stage.output = .pwm → period = true))
    (fun b u => (u.chan c).prot.reg = false ∧ (u.chan c).prot.limiting = false ∧ (u.chan c).prot.regEnd = b.now ∧
      (u.chan c).stage = (b.chan c).stage ∧ OnlyChan c b u)) ∧
  (∀ t c, Does (.limitTimerReset t c)
    (fun b => b.engine c = true ∧ (b.chan c).prot.reg = false ∧ (b.chan c).prot.regEnd + 100000000 ≤ b.now)
    (fun b u => u.chan c = (b.chan c).modProt (fun p => { p with limTimer := 0 }) ∧ OnlyChan c b u)) ∧
  (∀ t c, Does (.retryAttempt t c)
    (fun b => b.engine c = true ∧ b.retryDue c = true ∧ b.retryWaits c = false ∧ (b.chan c).ctrl.source ≠ .open ∧ (b.cart (slotOf c)).mayDrive = true ∧
      (b.chan c).ctrl.level.isOn = true)
    (fun b u => (u.chan c).prot.trip = .none ∧ (u.chan c).prot.tripCause = 0 ∧ (u.chan c).prot.retrying = true ∧ (u.chan c).prot.n = (b.chan c).prot.n ∧
      OnlyChanLog c b u)) ∧
  (∀ t c a, Does (.retryCounterReset t c)
    (fun b => b.engine c = true ∧ (b.chan c).stage.running = true ∧ (b.chan c).prot.trip = .none ∧ (b.chan c).prot.cleanSince = some a ∧
      a + 60000000000 ≤ b.now ∧ a + (b.chan c).prot.interval ≤ b.now)
    (fun b u => u.chan c = (b.chan c).modProt (fun p => { p with n := 0, retrying := false }) ∧ OnlyChan c b u)) ∧
  (∀ t k, Does (.protStateSave t k)
    (fun b => (b.cart k).powered = true)
    (fun b u => (∀ p : Fin 4, u.chan (chOf k p) = (b.chan (chOf k p)).modProt (·.save b.now)) ∧ OnlyChansOf k b u)) ∧
  (∀ t c ns, Does (.disconnectFailed t c ns)
    (fun b => (b.cart (slotOf c)).powered = true ∧ (b.chan c).prot.trip = .locked ∧ (b.chan c).prot.tripCause = 0x14 ∧ (b.chan c).prot.discFail = 0 ∧
      20000 < ns)
    (fun b u => u.chan c = (b.chan c).modProt (fun p => { p with discFail := 1 }) ∧ OnlyChanLog c b u)) ∧
  (∀ t c ns, Does (.gateMonFault t c ns)
    (fun b => (b.cart (slotOf c)).powered = true ∧ (b.chan c).prot.gateMon = false ∧ 2000 < ns)
    (fun b u => u.chan c = (b.chan c).modProt (fun p => { p with gateMon := true }) ∧ OnlyChanLog c b u))

/-- R289 to R315, R339: the generator. A pending set written at least 2 ticks before a boundary passes there, also beneath a force; the forward switch
is commanded on and off at the placed edges of the period; the freewheel switch follows after the dead time, is off ahead of the next on edge, and turns
off at low current; the eighth period in a row without its confirmation disables the generator; faults of its comparator and of the delay line are found
by their counts. -/
def Obligations.GeneratorActs : Prop :=
  (∀ t c, Does (.periodBoundary t c)
    (fun b => b.engine c = true ∧ (b.chan c).gen.enabled = true ∧ (b.chan c).gen.boundAt ≤ 4 * b.now ∧ (b.chan c).gen.pending = true ∧
      (b.chan c).gen.early = none ∧ 4 * (b.chan c).gen.shadowAt + 50 ≤ (b.chan c).gen.boundAt ∧ (b.chan c).ctrl.source = .open)
    (fun b u => (u.chan c).gen.act = (b.chan c).gen.shadow ∧ (u.chan c).gen.pending = false ∧
      (u.chan c).gen.enabled = (b.chan c).gen.shadow.en ∧
      ((b.chan c).gen.shadow.en = true → (u.chan c).gen.boundAt = (b.chan c).gen.boundAt + 25 * (b.chan c).gen.shadow.per) ∧
      (u.chan c).stage = (b.chan c).stage ∧ OnlyChanTimers c b u)) ∧
  (∀ t c, Does (.periodBoundary t c)
    (fun b => b.engine c = true ∧ (b.chan c).gen.enabled = true ∧ (b.chan c).gen.boundAt ≤ 4 * b.now ∧ (b.chan c).gen.pending = false ∧
      (b.chan c).gen.early = none ∧ (b.chan c).ctrl.source = .host ∧ (b.chan c).ctrl.level = .pwm ∧ (b.chan c).ctrl.ramp = none ∧
      (b.chan c).stage.phase = .run ∧ (b.chan c).stage.output = .pwm ∧ (b.chan c).gen.act.en = true)
    (fun b u =>
      let on := (u.chan c).gen.applied ≠ 0 ∧ ((b.chan c).gen.act.per * 64 ≤ (u.chan c).gen.applied ∨ (b.chan c).gen.act.centre = false)
      (u.chan c).gen.applied = clampOn (b.chan c).gen.act.per (b.chItem c 0x011A * 512) (b.chan c).gen.act.cmpa ∧
      (u.chan c).gen.governs = true ∧ (u.chan c).stage.output = .pwm ∧
      (u.chan c).gen.boundAt = (b.chan c).gen.boundAt + 25 * (b.chan c).gen.act.per ∧
      (¬on → (u.chan c).stage.fwd = false) ∧ (on → (b.chan c).gen.ahead = false → (u.chan c).stage.fwd = true) ∧
      (on → (b.chan c).gen.ahead = true → 500 < (b.chan c).gen.fwWait → (u.chan c).stage.fwd = false) ∧ OnlyChanTimers c b u)) ∧
  (∀ t c, Does (.pwmCompare t c)
    (fun b => b.engine c = true ∧ (b.chan c).gen.enabled = true ∧ (b.chan c).gen.governs = true ∧ (b.chan c).stage.output = .pwm ∧
      (b.chan c).stage.offDue = false ∧ (b.chan c).gen.applied ≠ 0 ∧ (b.chan c).gen.edges = 1 ∧ (b.chan c).gen.edged = true ∧
      (b.chan c).gen.edgeAt (b.chan c).gen.offPos ≤ 4 * b.now)
    (fun b u => (u.chan c).stage.fwd = false ∧ (u.chan c).gen.edges = 2 ∧ (u.chan c).stage.output = .pwm ∧ OnlyChan c b u)) ∧
  (∀ t c, Does (.pwmCompare t c)
    (fun b => b.engine c = true ∧ (b.chan c).gen.enabled = true ∧ (b.chan c).gen.governs = true ∧ (b.chan c).stage.output = .pwm ∧
      (b.chan c).stage.offDue = false ∧ (b.chan c).gen.applied ≠ 0 ∧ (b.chan c).gen.edges = 0 ∧
      (b.chan c).gen.edgeAt (b.chan c).gen.onPos +
        (if (b.chan c).gen.ahead = true ∧ (b.chan c).gen.fwWait ≤ 500 then 4 * (b.chan c).gen.fwWait else 0) ≤ 4 * b.now)
    (fun b u => ((u.chan c).stage.fwd = true ↔ (b.chan c).gen.ahead = false ∨ (b.chan c).gen.fwWait ≤ 500) ∧ (u.chan c).stage.fw = false ∧
      (u.chan c).gen.edges = 1 ∧ (u.chan c).stage.output = .pwm ∧ OnlyChan c b u)) ∧
  (∀ t c sw ns off, Does (.freewheelOn t c sw ns off)
    (fun b => (b.chan c).stage.output = .pwm ∧ (b.chan c).gen.governs = true ∧ (b.chan c).stage.fwd = false ∧ (b.chan c).stage.fw = false ∧
      (b.chan c).gen.fwDone = false ∧ (b.chan c).gen.offInterval = true ∧ (b.cart (slotOf c)).powered = true ∧ sw < 2000 ∧ 20 ≤ ns ∧ ns < 500 ∧
      ns + (b.chan c).gen.fwOffNs + 20 ≤ (b.chan c).gen.offNs)
    (fun b u => u.chan c = (b.chan c).modStage (fun g => { g with fw := true }) ∧ OnlyChan c b u)) ∧
  (∀ t c sw ns off, Does (.freewheelOn t c sw ns off)
    (fun b => (b.chan c).fwHeld = true ∧ b.engine c = true ∧ sw < 2000 ∧ 20 ≤ ns)
    (fun b u => u.chan c = (b.chan c).modStage (fun g => { g with fw := true }) ∧ OnlyChan c b u)) ∧
  (∀ t c offNs waitNs, Does (.freewheelOffAhead t c offNs waitNs)
    (fun b => b.engine c = true ∧ (b.chan c).stage.output = .pwm ∧ (b.chan c).gen.governs = true ∧ (b.chan c).stage.fwd = false ∧
      (b.chan c).gen.ahead = false ∧ 4 * b.now ≤ (b.chan c).gen.nextOn ∧ (b.chan c).gen.nextOn ≤ 4 * (b.now + (b.chan c).gen.fwOffNs + 20) ∧
      waitNs ≤ 500)
    (fun b u => (u.chan c).stage.fw = false ∧ (u.chan c).gen.ahead = true ∧ (u.chan c).gen.fwWait = waitNs ∧ (u.chan c).gen.fwOffNs = offNs ∧
      (u.chan c).gen.fwSkips = 0 ∧ OnlyChan c b u)) ∧
  (∀ t c offNs waitNs, Does (.freewheelOffAhead t c offNs waitNs)
    (fun b => b.engine c = true ∧ (b.chan c).stage.output = .pwm ∧ (b.chan c).gen.governs = true ∧ (b.chan c).stage.fwd = false ∧
      (b.chan c).gen.ahead = false ∧ 4 * b.now ≤ (b.chan c).gen.nextOn ∧ (b.chan c).gen.nextOn ≤ 4 * (b.now + (b.chan c).gen.fwOffNs + 20) ∧
      500 < waitNs ∧ (b.chan c).gen.fwSkips = 7)
    (fun b u => (u.chan c).gen.enabled = false ∧ (u.chan c).gen.fwGate = true ∧ OnlyChanLog c b u)) ∧
  (∀ t c ma, Does (.freewheelLowCurrent t c ma)
    (fun b => (b.chan c).stage.output = .pwm ∧ (b.chan c).stage.fw = true ∧ ma < 50)
    (fun b u => (u.chan c).stage.fw = false ∧ (u.chan c).gen.fwDone = true ∧ OnlyChan c b u)) ∧
  (∀ t c ma a, Does (.swCmpFault t c ma true)
    (fun b => b.engine c = true ∧ (b.chan c).gen.governs = true ∧ 1000 < ma ∧ (b.chan c).gen.swCmpSince = some a ∧ a + 1000000000 ≤ b.now)
    (fun b u => (u.chan c).gen.swCmp = true ∧ (u.chan c).stage = (b.chan c).stage ∧ OnlyChanLog c b u)) ∧
  (∀ t c n, Does (.delayLineCalibration t c n)
    (fun b => b.engine c = true ∧ (b.chan c).gen.calDue ≤ b.now ∧ (b.chan c).gen.quiet b.now = true)
    (fun b u => (80 ≤ n → n ≤ 120 → (u.chan c).gen.nCal = n) ∧
      (n < 80 ∨ 120 < n → (u.chan c).gen.nCal = (b.chan c).gen.nCal ∧ (1 ≤ (b.chan c).gen.calBad → (u.chan c).gen.dlyFault = true)) ∧
      (u.chan c).stage = (b.chan c).stage ∧ OnlyChanLog c b u))

/-- R594 to R599: the session group. A request that passes is answered DONE with its reply, or journaled: PING with no parameters, IDENTIFY with the
identity record, SESSION_INFO and LIST_SUBS with their tables; SET_ADDRESS journals the addresses and its log record, SUBSCRIBE a new or renewed
subscription, UNSUBSCRIBE the list without the handle. -/
def Obligations.SessionRequests : Prop :=
  (∀ t q, Does (.ping t q) (Passes hPing q) (fun b u => AnsweredDone hPing q (b.letIn q) (b.letIn q) [] u)) ∧
  (∀ t q, Does (.identify t q) (Passes hIdentify q)
    (fun b u => AnsweredDone hIdentify q (b.letIn q) (b.letIn q) ((b.letIn q).identity q.ctl) u)) ∧
  (∀ t q, Does (.sessionInfo t q) (Passes hSessionInfo q)
    (fun b u => AnsweredDone hSessionInfo q (b.letIn q) (b.letIn q) ((b.letIn q).sessionInfo q.ctl q.client) u)) ∧
  (∀ t q, Does (.setAddress t q) (Passes hSetAddress q)
    (fun b u => Journaled hSetAddress q (b.letIn q) (b.letIn q) (Vector.replicate 4 false) 0
      [.address (if field q.params 0 1 = 1 then .a else .b) (addrOf q.params),
       .record ((b.letIn q).cmdRecord q.ctl 0x0A04 (field q.params 0 1) 0 (addrOf q.params).unit q.client)] u)) ∧
  (∀ t q, Does (.subscribe t q) (Passes hSubscribe q)
    (fun b u =>
      let a := b.letIn q
      let mine := (a.ctl q.ctl).mram.liveSubs q.client (a.utime q.ctl)
      let stop : UnitTime := a.utime q.ctl + (field q.params 4 2 * 1000000000 : Nat)
      let h := field q.params 0 1
      (h = 0xFF → Journaled hSubscribe q a a (Vector.replicate 4 false) (freeHandle mine)
        [.subs q.client (mine ++ [{ handle := freeHandle mine, stream := field q.params 1 1, period := field q.params 2 2, filter := field q.params 8 4
                                    stop := stop, cursor := (a.ctl q.ctl).streamMark (field q.params 1 1) }])] u) ∧
      (h ≠ 0xFF → Journaled hSubscribe q a a (Vector.replicate 4 false) h
        [.subs q.client (mine.map fun x => if x.handle = h
          then { x with period := field q.params 2 2, filter := field q.params 8 4, stop := stop } else x)] u))) ∧
  (∀ t q, Does (.unsubscribe t q) (Passes hUnsubscribe q)
    (fun b u => Journaled hUnsubscribe q (b.letIn q) (b.letIn q) (Vector.replicate 4 false) 0
      [.subs q.client ((((b.letIn q).ctl q.ctl).mram.liveSubs q.client ((b.letIn q).utime q.ctl)).filter fun x => x.handle ≠ field q.params 0 1)] u)) ∧
  (∀ t q, Does (.listSubs t q) (Passes hListSubs q)
    (fun b u =>
      let mine := ((b.letIn q).ctl q.ctl).mram.liveSubs q.client ((b.letIn q).utime q.ctl)
      AnsweredDone hListSubs q (b.letIn q) (b.letIn q)
        (be 1 mine.length ++ zeros 3 ++ mine.flatMap fun x =>
          be 1 x.handle ++ be 1 x.stream ++ be 2 x.period ++ be 4 x.filter ++ beInt 8 x.stop) u))

/-- R600 to R606, R547, R548, R464: the channel control group. Each request that passes is journaled: SET_CHANNEL the level of every channel it names, of
both halves of a twin; SET_PWM the settings, and level PWM where flag [0] is set; SET_GROUP the settings and level of every entry; CLEAR_TRIP, where no
MID comparator has it refused (R271: HW_FAULT) and no channel is too warm (CONFLICT), the clearing of each channel that is tripped or on a retry attempt; CLEAR_GLAZE of each latched one; OWN the leases, with
the withdrawal of rivals and LEASE_TAKEN; RELEASE the client's own leases; SET_LOOP the current. -/
def Obligations.ChannelRequests : Prop :=
  (∀ t q, Does (.setChannel t q) (Passes hSetChannel q)
    (fun b u =>
      let a := b.letIn q
      Journaled hSetChannel q a a (a.actsOn q.ctl (a.named 0x0101 q.params)) 0
        ((a.named 0x0101 q.params).map fun ch => .level ch (levelOf (field q.params 1 1)) true) u)) ∧
  (∀ t q, Does (.setGroup t q) (Passes hSetGroup q)
    (fun b u =>
      let a := b.letIn q
      Journaled hSetGroup q a a (a.actsOn q.ctl (a.named 0x0102 q.params)) 0
        ((a.groupOnce [] (groupEntries q.params)).flatMap a.groupChanges) u)) ∧
  (∀ t q, Does (.setPwm t q) (Passes hSetPwm q)
    (fun b u =>
      let a := b.letIn q
      let cs := a.named 0x0103 q.params
      Journaled hSetPwm q a a (a.actsOn q.ctl cs) 0
        ((cs.map fun ch => .pwm ch (pwmBlock q.params 4)) ++
          (if bit (field q.params 1 1) 0 then cs.map fun ch => .level ch .pwm true else [])) u)) ∧
  (∀ t q, Does (.clearTrip t q) (Passes hClearTrip q)
    (fun b u =>
      let a := b.letIn q
      let named := a.named 0x0104 q.params
      let r := a.stuckChecks named
      let d := r.2
      let cs := named.filter fun ch => (d.chan ch).prot.trip ≠ .none || (d.chan ch).prot.retrying
      (r.1 = false → u = b.keep (d.refuse hClearTrip q { status := 0x0501, detail := 20, chan := ((named.head?).map numOf).getD 0 })) ∧
      (r.1 = true → ∀ ch, named.find? d.cooling = some ch →
        u = b.keep (d.refuse hClearTrip q { status := 0x0401, detail := 19, chan := numOf ch })) ∧
      (r.1 = true → named.find? d.cooling = none →
        Journaled hClearTrip q a d (d.actsOn q.ctl cs) 0 (cs.map fun ch => .act ch (if (d.chan ch).prot.tripCause = 0x14 then 0xC2 else 0xC0)) u))) ∧
  (∀ t q, Does (.clearGlaze t q) (Passes hClearGlaze q)
    (fun b u =>
      let a := b.letIn q
      let cs := (a.named 0x0105 q.params).filter fun ch => (a.chan ch).ctrl.glaze
      Journaled hClearGlaze q a a (a.actsOn q.ctl cs) 0 (cs.map fun ch => .act ch 0xC1) u)) ∧
  (∀ t q, Does (.own t q) (Passes hOwn q)
    (fun b u =>
      let a := b.letIn q
      let m := (a.ctl q.ctl).mram
      let cs := a.named 0x0106 q.params
      Journaled hOwn q a a (Vector.replicate 4 false) 0
        ((cs.map fun ch => .lease ch (some { client := q.client, stop := a.utime q.ctl + (field q.params 2 2 * 1000000000 : Nat) })) ++
          ((m.rivals q.client cs).map fun j => .withdraw j.jsn 1) ++
          ((m.displaced q.client cs (a.utime q.ctl)).map fun k =>
            .record (a.cmdRecord q.ctl 0x0905 (((cs.head?).map numOf).getD 0) k.val q.client.val q.client))) u)) ∧
  (∀ t q, Does (.release t q) (Passes hRelease q)
    (fun b u =>
      let a := b.letIn q
      Journaled hRelease q a a (Vector.replicate 4 false) 0
        (((a.named 0x0107 q.params).filter fun ch => ((a.ctl q.ctl).mram.lease ch (a.utime q.ctl)).any (·.client = q.client)).map
          fun ch => .lease ch none) u)) ∧
  (∀ t q n, Does (.setLoop t q) (fun b => Passes hSetLoop q b ∧ quadNum (field q.params 0 1) = some n)
    (fun b u => Journaled hSetLoop q (b.letIn q) (b.letIn q) (Vector.replicate 4 false) 0 [.loop n (field q.params 4 4)] u))

/-- R607 to R613, R896: the configuration group. GET_CONFIG answers with the records from its cursor; STAGE_CONFIG journals the staging area with its
records over what stood there; COMMIT_CONFIG, where R610 refuses nothing, journals the new configuration under the next epoch with its hash, the end of
the staging area, what lies beyond the new rights, and its record; DISCARD_CONFIG the end of the staging area. -/
def Obligations.ConfigRequests : Prop :=
  (∀ t q, Does (.getConfig t q) (Passes hGetConfig q)
    (fun b u =>
      let m := ((b.letIn q).ctl q.ctl).mram
      let at_ := fun (k : Nat × Nat × Nat) =>
        decide (field q.params 2 2 < k.1) || (k.1 = field q.params 2 2 && decide (field q.params 1 1 ≤ k.2.1))
      let p := packItems m.items 1000 (itemKeys.filter at_)
      let r := packItems m.stagedItems 1000 (itemKeys.filter fun k => at_ k && (m.stagedItems.find k.1 k.2.1).isSome)
      (field q.params 0 1 = 0 → AnsweredDone hGetConfig q (b.letIn q) (b.letIn q)
        (be 4 m.epoch ++ padTo 16 m.hash ++ be 2 (p.2.getD (0, 0)).1 ++ be 1 (p.2.getD (0, 0)).2 ++ be 1 (b2n p.2.isSome) ++ p.1) u) ∧
      (field q.params 0 1 = 1 → AnsweredDone hGetConfig q (b.letIn q) (b.letIn q)
        (be 4 m.epoch ++ zeros 16 ++ be 2 (r.2.getD (0, 0)).1 ++ be 1 (r.2.getD (0, 0)).2 ++ be 1 (b2n r.2.isSome) ++ r.1) u))) ∧
  (∀ t q l, Does (.stageConfig t q)
    (fun b => Passes hStageConfig q b ∧
      stageOver ((b.letIn q).ctl q.ctl).mram.stagedItems ((itemsOf q.params).getD []) = .ok l)
    (fun b u => Journaled hStageConfig q (b.letIn q) (b.letIn q) (Vector.replicate 4 false) 0
      [.staging (some { holder := q.client, items := l, usedAt := b.now })] u)) ∧
  (∀ t q e, Does (.commitConfig t q)
    (fun b =>
      let m := ((b.letIn q).ctl q.ctl).mram
      Passes hCommitConfig q b ∧ ((b.letIn q).renewStaging q.ctl q.client).commitCheck q.ctl q (Items.above m.items m.stagedItems) = none ∧
      ((b.letIn q).renewStaging q.ctl q.client).nextEpoch q.ctl q = some e)
    (fun b u =>
      let a := b.letIn q
      let m := (a.ctl q.ctl).mram
      let new := Items.above m.items m.stagedItems
      Journaled hCommitConfig q a (a.renewStaging q.ctl q.client) (Vector.replicate 4 false) 0
        ([.config new e (configHash new), .staging none] ++ m.beyond new ++
          [.record ((a.renewStaging q.ctl q.client).commitRecord q.ctl m.epoch e (configHash new) m.staged q.client)]) u)) ∧
  (∀ t q r, Does (.commitConfig t q)
    (fun b =>
      let m := ((b.letIn q).ctl q.ctl).mram
      Passes hCommitConfig q b ∧
      ((b.letIn q).renewStaging q.ctl q.client).commitCheck q.ctl q (Items.above m.items m.stagedItems) = some r)
    (fun b u => u = b.keep (((b.letIn q).renewStaging q.ctl q.client).refuse hCommitConfig q r))) ∧
  (∀ t q, Does (.discardConfig t q) (Passes hDiscardConfig q)
    (fun b u =>
      let a := b.letIn q
      let m := (a.ctl q.ctl).mram
      (m.staging = none → Journaled hDiscardConfig q a a (Vector.replicate 4 false) 0 [] u) ∧
      ∀ st, m.staging = some st → Journaled hDiscardConfig q a a (Vector.replicate 4 false) m.staged
        [.staging none, .record (a.discardRecord q.ctl m.staged st.holder.val q.client.val)] u))

/-- R615 to R618, R354, R355, R419, R511: the measurement and housekeeping group. Each request that passes is answered DONE with the record it asks
for; LATCH_MEAS arms the latch, and GET_TWIN clears TWIN_FORCED of the pairs it reads. R619, R620, R636: the time and GNSS group. GET_TIME, GET_GNSS,
GET_GNSS_MEAS and SNAP_READ are answered DONE with their records; SNAP_CAPTURE starts a capture at its time, or at the next measurement epoch for a
time of 0, and its entry stands IN_PROGRESS. -/
def Obligations.MeasurementAndTimeRequests : Prop :=
  (∀ t q, Does (.getChannel t q) (Passes hGetChannel q)
    (fun b u =>
      let a := b.letIn q
      let cs := chansIn (field q.params 0 2)
      AnsweredDone hGetChannel q a a
        (be 1 cs.length ++ zeros 3 ++ cs.flatMap fun ch => be 4 ((a.ctl q.ctl).wordOf ch) ++ a.measOf ch (field q.params 2 1)) u)) ∧
  (∀ t q, Does (.getTwin t q) (Passes hGetTwin q)
    (fun b u =>
      let a := b.letIn q
      let ps := pairsIn (field q.params 0 1)
      AnsweredDone hGetTwin q a (overList ps (fun p s => s.readTwin p) a)
        (be 1 ps.length ++ zeros 3 ++ ps.flatMap fun p => a.twinRecord q.ctl p) u)) ∧
  (∀ t q, Does (.latchMeas t q) (Passes hLatchMeas q)
    (fun b u =>
      let a := b.letIn q
      let T := fieldInt q.params 0 8
      AnsweredDone hLatchMeas q a (a.modCtl q.ctl fun x => { x with latchAt := some T, latched := none }) (beInt 8 T) u)) ∧
  (∀ t q T, Does (.latchRead t q) (fun b => Passes hLatchRead q b ∧ ((b.letIn q).ctl q.ctl).latched = some T)
    (fun b u => AnsweredDone hLatchRead q (b.letIn q) (b.letIn q) ((b.letIn q).latchBytes T) u)) ∧
  (∀ t q ch, Does (.getTrigger t q) (fun b => Passes hGetTrigger q b ∧ chNum (field q.params 0 1) = some ch)
    (fun b u =>
      let a := b.letIn q
      let g := (a.chan ch).gen
      (field q.params 1 1 = 0 → AnsweredDone hGetTrigger q a a
        (beInt 8 g.trgATime ++ beInt 4 g.trgA1 ++ beInt 4 g.trgA2 ++ be 1 (b2n g.trgABlank) ++ zeros 3 ++ a.triggerMean ch false) u) ∧
      (field q.params 1 1 = 1 → AnsweredDone hGetTrigger q a a
        (beInt 8 g.trgBTime ++ beInt 4 g.trgB1 ++ beInt 4 g.trgB2 ++ be 1 (b2n g.trgBBlank) ++ zeros 3 ++ a.triggerMean ch true) u))) ∧
  (∀ t q, Does (.getEnergy t q) (Passes hGetEnergy q)
    (fun b u => AnsweredDone hGetEnergy q (b.letIn q) (b.letIn q) ((b.letIn q).ctl q.ctl).energyBytes u)) ∧
  (∀ t q, Does (.getHk t q) (Passes hGetHk q)
    (fun b u => AnsweredDone hGetHk q (b.letIn q) (b.letIn q) ((b.letIn q).ctl q.ctl).hk u)) ∧
  (∀ t q, Does (.getAlarms t q) (Passes hGetAlarms q)
    (fun b u =>
      let l := ((b.letIn q).ctl q.ctl).activeAlarms
      let part := (l.drop (field q.params 0 2)).take 60
      AnsweredDone hGetAlarms q (b.letIn q) (b.letIn q) (be 2 l.length ++ be 1 part.length ++ zeros 1 ++ part.flatMap Alarm.bytes) u)) ∧
  (∀ t q, Does (.getPortStats t q) (Passes hGetPortStats q)
    (fun b u =>
      let x := ((b.letIn q).ctl q.ctl).phy (if field q.params 0 1 = 1 then .a else .b)
      let page := field q.params 1 1
      let l := ((x.srcs ++ [x.other]).drop (17 * (page - 1))).take 17
      (page = 0 → AnsweredDone hGetPortStats q (b.letIn q) (b.letIn q) (be 1 x.st.code ++ zeros 3 ++ x.cnt.bytes) u) ∧
      (page ≠ 0 → AnsweredDone hGetPortStats q (b.letIn q) (b.letIn q) (be 1 l.length ++ zeros 3 ++ l.flatMap SrcEntry.bytes) u))) ∧
  (∀ t q, Does (.getTime t q) (Passes hGetTime q)
    (fun b u => AnsweredDone hGetTime q (b.letIn q) (b.letIn q) ((b.letIn q).timeBytes q.ctl) u)) ∧
  (∀ t q, Does (.getGnss t q) (Passes hGetGnss q)
    (fun b u => AnsweredDone hGetGnss q (b.letIn q) (b.letIn q) ((b.letIn q).gnssBytes q.ctl) u)) ∧
  (∀ t q, Does (.getGnssMeas t q) (Passes hGetGnssMeas q)
    (fun b u => AnsweredDone hGetGnssMeas q (b.letIn q) (b.letIn q)
      (((b.letIn q).ctl q.ctl).gnss.measBytes (gnssBand (field q.params 0 1)) (field q.params 1 1)) u)) ∧
  (∀ t q, Does (.snapCapture t q) (Passes hSnapCapture q)
    (fun b u =>
      let a := b.letIn q
      let mask := field q.params 1 1
      let T := fieldInt q.params 4 8
      let start := if T ≠ 0 then T else if (a.ctl q.ctl).time.st = .unset then a.utime q.ctl
        else nextEpochOf (a.utime q.ctl) (a.ctl q.ctl).gnss.rate
      u = b.keep ((a.capture q.ctl (field q.params 0 1) (field q.params 2 1) (bit mask 0) (bit mask 1) start false (some q)).enter q.ctl q.client
        { a.doneEntry hSnapCapture q with st := .inProgress }))) ∧
  (∀ t q r, Does (.snapRead t q) (fun b => Passes hSnapRead q b ∧ ((b.letIn q).ctl q.ctl).gnss.snapHeld = some r)
    (fun b u => AnsweredDone hSnapRead q (b.letIn q) (b.letIn q)
      (be 4 (field q.params 4 4) ++ be 2 (field q.params 8 2) ++ zeros 2 ++ slice r.file (field q.params 4 4) (field q.params 8 2)) u))

/-- R621 to R623, R436, R810 to R812: the log and cone group. LOG_READ returns the records of the classes asked for that an examination of at most 4096
finds, and the index where it stopped; LOG_FIND the first that is not older; LOG_STATUS and CONE_STATUS their tables; CONE_READ the entries of an index
range; LOG_MARK and CONE_CLEAR are journaled. -/
def Obligations.LogRequests : Prop :=
  (∀ t q, Does (.logRead t q) (Passes hLogRead q)
    (fun b u =>
      let a := b.letIn q
      let all := (a.ctl q.ctl).mram.log.walk (field q.params 0 4) (decide (field q.params 5 1 = 1))
      let r := examine (field q.params 8 4 % 2 ^ 19) 4096 (field q.params 4 1) all
      AnsweredDone hLogRead q a (a.noteCorrupt q.ctl (all.take (all.length - r.2.length)))
        (be 4 (((r.2.head?).map (·.index)).getD 0xFFFFFFFF) ++ be 1 r.1.length ++ zeros 3 ++ r.1.flatMap LogRec.bytes) u)) ∧
  (∀ t q, Does (.logFind t q) (Passes hLogFind q)
    (fun b u =>
      let r := ((b.letIn q).ctl q.ctl).mram.log.recs.find? fun r => !r.bad && decide (fieldInt q.params 0 8 ≤ r.time) && !bit r.flags 0
      AnsweredDone hLogFind q (b.letIn q) (b.letIn q) (be 4 ((r.map (·.index)).getD 0xFFFFFFFF)) u)) ∧
  (∀ t q, Does (.logMark t q) (Passes hLogMark q)
    (fun b u => Journaled hLogMark q (b.letIn q) (b.letIn q) (Vector.replicate 4 false) 0
      [.record ((b.letIn q).record q.ctl 0x1001 0 q.ctl.code 0 (padTo 32 q.params ++ be 1 q.client.val))] u)) ∧
  (∀ t q, Does (.logStatus t q) (Passes hLogStatus q)
    (fun b u =>
      let l := ((b.letIn q).ctl q.ctl).mram.log
      AnsweredDone hLogStatus q (b.letIn q) (b.letIn q)
        (be 4 (((l.recs.head?).map (·.index)).getD 0xFFFFFFFF) ++ be 4 (((l.recs.getLast?).map (·.index)).getD 0xFFFFFFFF) ++ be 4 l.losses ++
          be 1 l.queue.length ++ zeros 3) u)) ∧
  (∀ t q, Does (.coneRead t q) (Passes hConeRead q)
    (fun b u =>
      let l := ((b.letIn q).ctl q.ctl).mram.cone.entries.filter fun e =>
        field q.params 0 4 ≤ e.index && decide (e.index < field q.params 0 4 + field q.params 4 1)
      AnsweredDone hConeRead q (b.letIn q) (b.letIn q) (be 1 l.length ++ zeros 3 ++ l.flatMap ConeEntry.bytes) u)) ∧
  (∀ t q, Does (.coneStatus t q) (Passes hConeStatus q)
    (fun b u => AnsweredDone hConeStatus q (b.letIn q) (b.letIn q) ((b.letIn q).coneStatusBytes q.ctl) u)) ∧
  (∀ t q, Does (.coneClear t q) (Passes hConeClear q)
    (fun b u =>
      let a := b.letIn q
      let x := (a.ctl q.ctl).mram.cone
      Journaled hConeClear q a a (Vector.replicate 4 false) x.entries.length
        [.coneClear, .record (a.record q.ctl 0x0507 0 q.ctl.code 0 (stdBody x.entries.length 0 x.highest 0 0 spaces12 q.client.val))] u))

/-- R624, R690, R691, R697, R698: the expansion group. A request that passes waits in the engine's queue, and its entry stands IN_PROGRESS. R626 to
R630, R886, R893: the pair and register groups. PAIR_STATUS and REG_READ are answered with their records, a register's read doing what reading it
does; ROLE_SWAP journals the swap; RESOLVE_SPLIT makes the named controller the winner; REG_WRITE merges the word under its mask into a DW register,
writes it, and logs the write. -/
def Obligations.ExpansionPairAndRegisterRequests : Prop :=
  (∀ t q, Does (.winRead t q) (Passes hWinRead q)
    (fun b u => u = b.keep ((((b.letIn q).modExp q.ctl fun x =>
        { x with queue := x.queue ++ [{ kind := .read (field q.params 0 4) (field q.params 4 2), req := q }] }).expNext q.ctl).enter q.ctl q.client
      { (b.letIn q).doneEntry hWinRead q with st := .inProgress }))) ∧
  (∀ t q, Does (.winWrite t q) (Passes hWinWrite q)
    (fun b u => u = b.keep ((((b.letIn q).modExp q.ctl fun x =>
        { x with queue := x.queue ++ [{ kind := .write (field q.params 0 4) (q.params.drop 8), req := q }] }).expNext q.ctl).enter q.ctl q.client
      { (b.letIn q).doneEntry hWinWrite q with st := .inProgress }))) ∧
  (∀ t q, Does (.winErase t q) (Passes hWinErase q)
    (fun b u => u = b.keep ((((b.letIn q).modExp q.ctl fun x =>
        { x with queue := x.queue ++ [{ kind := .erase (field q.params 0 4) (field q.params 4 1), req := q }] }).expNext q.ctl).enter q.ctl q.client
      { (b.letIn q).doneEntry hWinErase q with st := .inProgress }))) ∧
  (∀ t q, Does (.spiXfer t q) (Passes hSpiXfer q)
    (fun b u => u = b.keep ((((b.letIn q).modExp q.ctl fun x =>
        { x with queue := x.queue ++ [{
            kind := .xfer (field q.params 0 1) (field q.params 1 1)
              ((List.range (field q.params 2 1)).map fun i => field q.params (4 + 4 * i) 4 % 2 ^ field q.params 1 1)
            req := q }] }).expNext q.ctl).enter q.ctl q.client
      { (b.letIn q).doneEntry hSpiXfer q with st := .inProgress }))) ∧
  (∀ t q, Does (.pairStatus t q) (Passes hPairStatus q)
    (fun b u => AnsweredDone hPairStatus q (b.letIn q) (b.letIn q) ((b.letIn q).pairBytes q.ctl) u)) ∧
  (∀ t q, Does (.roleSwap t q) (Passes hRoleSwap q)
    (fun b u =>
      let a := b.letIn q
      let j := a.swapTx q.ctl 0 q.client.val
      u = b.keep (a.prepareTx q.ctl replyParams { j with
        client := q.client.val, seq := q.seq, opcode := 0x0702, time := q.time, sched := q.time ≠ 0, req := some q
        changes := j.changes ++ [.entry q.client (if q.time ≠ 0
          then { a.doneEntry hRoleSwap q with mark := j.seq, st := .scheduled, status := 1, time := q.time }
          else { a.doneEntry hRoleSwap q with mark := j.seq })] }))) ∧
  (∀ t q w, Does (.resolveSplit t q) (fun b => Passes hResolveSplit q b ∧ ctlOf (field q.params 0 1) = some w)
    (fun b u =>
      let d := (b.letIn q).splitResolved w
      AnsweredDone hResolveSplit q (b.letIn q) d (be 4 (d.ctl w).mram.epoch ++ padTo 16 (d.ctl w).mram.hash) u)) ∧
  (∀ t q, Does (.regRead t q) (Passes hRegRead q)
    (fun b u =>
      let a := b.letIn q
      let adr := field q.params 0 4
      let n := field q.params 4 1
      let r := a.readRegs q.ctl ((regsOf adr n).getD [])
      AnsweredDone hRegRead q a (overList (List.range n) (fun i s => s.staleCheck q.ctl (adr + 4 * i)) r.2) (be 4 adr ++ be 1 n ++ zeros 3 ++ r.1) u)) ∧
  (∀ t q r, Does (.regWrite t q) (fun b => Passes hRegWrite q b ∧ regAddr (field q.params 0 4) = some r)
    (fun b u =>
      let a := b.letIn q
      let mask := field q.params 4 4
      let d := a.dwWrite q.ctl r ((a.dwWord q.ctl r &&& (mask ^^^ 0xFFFFFFFF)) ||| (field q.params 8 4 &&& mask))
      AnsweredDone hRegWrite q a (d.regRecord q.ctl q (d.dwWord q.ctl r)) (be 4 (d.dwWord q.ctl r)) u))

/-- R631 to R633, R526 to R534, R962: firmware and keys. FW_BEGIN opens a transfer into the image that does not run; FW_DATA puts its bytes at their
offset; FW_COMMIT stores the image; FW_RESTART of a controller with no synchronized peer restarts it, answered first, and of
the ACTIVE one with a synchronized peer swaps the roles; FW_STATUS reads the boot record.
KEY_LOAD journals the slot's generations with the unwrapped key, KEY_CLEAR their end with all that ends with them, SIGN_REVOKE the revocation. -/
def Obligations.FirmwareAndKeyRequests : Prop :=
  (∀ t q d, Does (.fwBegin t q) (fun b => Passes hFwBegin q b ∧ fwTarget q = some d)
    (fun b u =>
      let a := b.letIn q
      let toB := !(a.ctl d).imgB
      AnsweredDone hFwBegin q a
        (a.modCtl d fun x => { x with transfer := some {
          client := q.client, toB := toB, hdr := fwHeader q, len := field (fwHeader q) 12 4, parts := [], at_ := a.now } })
        (be 1 (b2n toB) ++ zeros 3) u)) ∧
  (∀ t q d x, Does (.fwData t q)
    (fun b => Passes hFwData q b ∧ (b.letIn q).transferOf q.ctl q.client = some (d, x) ∧ (b.letIn q).reaches_ q.ctl d = true)
    (fun b u =>
      let y := { x with parts := putPart (field q.params 0 4) (q.params.drop 8) x.parts }
      AnsweredDone hFwData q (b.letIn q) ((b.letIn q).modCtl d fun z => { z with transfer := some y }) (be 4 y.got) u)) ∧
  (∀ t q d x, Does (.fwCommit t q)
    (fun b => Passes hFwCommit q b ∧ (b.letIn q).transferOf q.ctl q.client = some (d, x) ∧ (b.letIn q).reaches_ q.ctl d = true)
    (fun b u => AnsweredDone hFwCommit q (b.letIn q) ((b.letIn q).storeImage d x) (be 1 (b2n x.toB) ++ be 1 1 ++ zeros 2) u)) ∧
  (∀ t q d, Does (.fwRestart t q)
    (fun b => Passes hFwRestart q b ∧ fwTarget q = some d ∧ (b.letIn q).noPeer d = true ∧ (b.letIn q).reaches_ q.ctl d = true ∧
      (((b.letIn q).ctl d).running = true ∨ d = q.ctl))
    (fun b u => u = b.keep ((b.letIn q).restartNow q.ctl d q))) ∧
  (∀ t q d, Does (.fwRestart t q)
    (fun b => Passes hFwRestart q b ∧ fwTarget q = some d ∧ ((b.letIn q).ctl d).role = .active ∧ (b.letIn q).noPeer d = false)
    (fun b u =>
      let a := b.letIn q
      let j := a.swapTx d 3 q.client.val
      u = b.keep (a.prepareTx q.ctl replyParams { j with
        client := q.client.val, seq := q.seq, opcode := 0x0904, time := q.time, sched := q.time ≠ 0, req := some q
        changes := j.changes ++ [.entry q.client (if q.time ≠ 0
          then { a.doneEntry hFwRestart q with mark := j.seq, st := .scheduled, status := 1, time := q.time }
          else { a.doneEntry hFwRestart q with mark := j.seq })] }))) ∧
  (∀ t q d, Does (.fwStatus t q) (fun b => Passes hFwStatus q b ∧ fwTarget q = some d)
    (fun b u => AnsweredDone hFwStatus q (b.letIn q) (b.letIn q) ((b.letIn q).ctl d).fwBytes u)) ∧
  (∀ t q key, Does (.keyLoad t q) (fun b => Passes hKeyLoad q b ∧ (b.letIn q).loadedKey q.ctl q = some key)
    (fun b u =>
      let a := b.letIn q
      let cl := clientOf (keyTarget q)
      let x := (a.ctl q.ctl).mram.client cl
      Journaled hKeyLoad q a a (Vector.replicate 4 false) 0
        ([.keys cl (x.loadKey key a.now)] ++ (if x.keys.isEmpty then [.window cl] else []) ++
          [.record (a.cmdRecord q.ctl 0x0901 cl.val 0 ((((x.loadKey key a.now).getLast?).map (·.gen)).getD 0) q.client)]) u)) ∧
  (∀ t q, Does (.keyClear t q) (Passes hKeyClear q)
    (fun b u =>
      let a := b.letIn q
      let cl := clientOf (keyTarget q)
      Journaled hKeyClear q a a (Vector.replicate 4 false) 0
        ((a.ctl q.ctl).mram.clearSlot cl ++ [.record (a.cmdRecord q.ctl 0x0902 cl.val 1 0 q.client)]) u)) ∧
  (∀ t q, Does (.signRevoke t q) (Passes hSignRevoke q)
    (fun b u =>
      let a := b.letIn q
      let k := field q.params 0 1
      Journaled hSignRevoke q a a (Vector.replicate 4 false) 0 [.revoke k, .record (a.cmdRecord q.ctl 0x0E06 k 0 1 q.client)] u))

/-- R116 to R119: the bands of a cartridge's power bus. Below 9.0 V, from above, the cartridge enters UVLO and none of its channels conducts any longer;
below 6.0 V it is DARK, its engine stopped and its switches off; a voltage that stays in its band changes nothing but the reading; 100 ms of HIGH is
OV_OFF; its end lets the channels that are commanded on restart, each after its own delay. -/
def Obligations.PowerBusBands : Prop :=
  (∀ t k mv, Does (.powerBusBand t k mv)
    (fun b => (b.cart k).seated = true ∧ ((b.cart k).band = .low ∨ (b.cart k).band = .normal ∨ (b.cart k).band = .high) ∧ 6000 ≤ mv ∧ mv < 9000)
    (fun b u => (u.cart k).band = .uvlo ∧ (u.cart k).bandAt = b.now ∧ (u.cart k).busMv = mv ∧
      (∀ c, slotOf c = k → (u.chan c).stage.output.conducts = false ∧ (u.chan c).stage.restartAt = none ∧
        (u.chan c).prot.trip = (b.chan c).prot.trip) ∧ OnlySlotLog k b u)) ∧
  (∀ t k mv, Does (.powerBusBand t k mv)
    (fun b => (b.cart k).seated = true ∧ (b.cart k).band ≠ .dark ∧ mv < 6000)
    (fun b u => (u.cart k).band = .dark ∧ (u.cart k).holder = none ∧ (u.cart k).armed = [] ∧
      (∀ c, slotOf c = k → (u.chan c).stage.output = .off ∧ (u.chan c).stage.fwd = false ∧ (u.chan c).stage.ser = false ∧
        (u.chan c).stage.fw = false ∧ (u.chan c).gen.enabled = false) ∧ OnlySlotMode k b u)) ∧
  (∀ t k mv, Does (.powerBusBand t k mv)
    (fun b => (b.cart k).seated = true ∧ (b.cart k).band = .normal ∧ (b.cart k).ovOff = false ∧ 16000 ≤ mv ∧ mv ≤ 33000)
    (fun b u => u.cart k = { b.cart k with busMv := mv, ovSince := none } ∧ OnlyCart k b u)) ∧
  (∀ t k, Does (.ovOff t k)
    (fun b => (b.cart k).seated = true ∧ (b.cart k).band = .high ∧ (b.cart k).ovOff = false ∧ (b.cart k).bandAt + 100000000 ≤ b.now)
    (fun b u => (u.cart k).ovOff = true ∧ (∀ c, slotOf c = k → (u.chan c).stage.output.conducts = false) ∧ OnlySlotLog k b u)) ∧
  (∀ t k a, Does (.ovOffExit t k)
    (fun b => (b.cart k).seated = true ∧ (b.cart k).ovOff = true ∧ (b.cart k).ovSince = some a ∧ a + 100000000 ≤ b.now ∧ (b.cart k).band = .normal)
    (fun b u => (u.cart k).ovOff = false ∧
      (∀ c, slotOf c = k → (u.chan c).stage.restartAt =
        (if (b.chan c).ctrl.level.isOn = true then some (b.now + (k.val * 8000000 + (posOf c).val * 2000000)) else (b.chan c).stage.restartAt)) ∧
      OnlySlotLog k b u))

/-- R50, R119, R120, R239, R283, R186, R830: a seated cartridge starts at 11.0 V: it takes the band of the voltage, no controller holds it, its generators
are at rest, each channel waits for its own restart delay, and a saved trip stands again; CART_HOLD after the last frame it has no holder, and what was
armed for later is dropped. -/
def Obligations.CartridgeStartsAndExpires : Prop :=
  (∀ t k mv serial, Does (.cartridgeStart t k mv serial)
    (fun b => 11000 ≤ mv ∧ (b.cart k).seated = true ∧ (b.cart k).band = .dark)
    (fun b u => (u.cart k).band = bandOf .dark mv ∧ (u.cart k).busMv = mv ∧ (u.cart k).holder = none ∧ (u.cart k).armed = [] ∧
      (∀ c, slotOf c = k → (u.chan c).stage.output.conducts = false ∧ (u.chan c).gen.enabled = false ∧
        (u.chan c).stage.restartAt = some (b.now + (k.val * 8000000 + (posOf c).val * 2000000)) ∧
        ((∀ d, slotOf d = k → (b.chan d).prot.savedOk = true) →
          (u.chan c).prot.trip = (b.chan c).prot.savedTrip ∧ (u.chan c).prot.x = (b.chan c).prot.savedX) ∧
        ((∃ d, slotOf d = k ∧ (b.chan d).prot.savedOk = false) → (u.chan c).prot.trip ≠ .none ∧ (u.chan c).prot.tripCause = 0x17)) ∧
      OnlySlotMode k b u)) ∧
  (∀ t k, Does (.cartHoldExpiry t k)
    (fun b => (b.cart k).powered = true ∧ (b.cart k).holder.isSome = true ∧ (b.cart k).holdAt + (b.cart k).holdNs k ≤ b.now)
    (fun b u => (u.cart k).holder = none ∧ (u.cart k).armed = (b.cart k).armed.filter (fun a => decide (a.time ≤ b.cartTime k)) ∧
      (∀ c, slotOf c = k → (u.chan c).set.share = 2 ∧ (u.chan c).set.trim = 0) ∧ OnlySlotMode k b u))

/-- R821, R822, R847: the lines. A first sample goes into the class of its ratio, and a later one leaves a class only where the ratio has passed the
boundary by 0.02; ten in a row in a contact class give the contact its state; fifty in a fault class declare the fault, and five hundred in the contact
classes end it. Nothing but the line's part changes, and the logs where the alarm is its own. -/
def Obligations.LinesAreClassified : Prop :=
  (∀ t k i mv rail, Does (.lineSample t (.cart k) i mv rail)
    (fun b => (b.cart k).powered = true ∧ 0 < rail ∧ (b.line (.cart k) i).run = 0)
    (fun b u => (u.line (.cart k) i).run = 1 ∧
      ((u.line (.cart k) i).raw = 3 ↔ mv * 1000 < 150 * rail) ∧
      ((u.line (.cart k) i).raw = 1 ↔ 150 * rail ≤ mv * 1000 ∧ mv * 1000 < 550 * rail) ∧
      ((u.line (.cart k) i).raw = 0 ↔ 550 * rail ≤ mv * 1000 ∧ mv * 1000 < 930 * rail) ∧
      ((u.line (.cart k) i).raw = 2 ↔ 930 * rail ≤ mv * 1000) ∧
      (∀ j, j ≠ i → u.line (.cart k) j = b.line (.cart k) j) ∧ OnlyCart k b u)) ∧
  (∀ t k i mv rail, Does (.lineSample t (.cart k) i mv rail)
    (fun b => (b.cart k).powered = true ∧ 0 < rail ∧ (b.line (.cart k) i).run ≠ 0 ∧ (b.line (.cart k) i).raw = 1)
    (fun b u => ((u.line (.cart k) i).raw = 1 ↔ 130 * rail < mv * 1000 ∧ mv * 1000 < 570 * rail) ∧
      ((u.line (.cart k) i).raw = 3 ↔ mv * 1000 ≤ 130 * rail) ∧
      ((u.line (.cart k) i).run = if (u.line (.cart k) i).raw = 1 then (b.line (.cart k) i).run + 1 else 1) ∧
      (∀ j, j ≠ i → u.line (.cart k) j = b.line (.cart k) j) ∧ OnlyCart k b u)) ∧
  (∀ t c i mv rail, Does (.lineSample t (.ctrl c) i mv rail)
    (fun b => (b.ctl c).running = true ∧ 0 < rail)
    (fun b u => u.line (.ctrl c) i = (b.line (.ctrl c) i).sample mv rail ∧ (∀ j, j ≠ i → u.line (.ctrl c) j = b.line (.ctrl c) j) ∧ OnlyCtl c b u)) ∧
  (∀ t w i, Does (.contactChange t w i)
    (fun b => b.samples w = true ∧ (b.line w i).raw ≤ 1 ∧ 10 ≤ (b.line w i).run ∧ (b.line w i).fault = none)
    (fun b u => u.line w i = { b.line w i with closed := some (decide ((b.line w i).raw = 1)) } ∧ (∀ j, j ≠ i → u.line w j = b.line w j) ∧
      u.chans = b.chans ∧ u.cool = b.cool ∧ u.mode = b.mode)) ∧
  (∀ t w i, Does (.lineState t w i)
    (fun b => b.samples w = true ∧ 2 ≤ (b.line w i).raw ∧ 50 ≤ (b.line w i).run ∧ (b.line w i).fault = none)
    (fun b u => (u.line w i).fault = some (b.line w i).raw ∧ (u.line w i).closed = (b.line w i).closed ∧ (∀ j, j ≠ i → u.line w j = b.line w j))) ∧
  (∀ t w i f, Does (.lineState t w i)
    (fun b => b.samples w = true ∧ (b.line w i).fault = some f ∧ 500 ≤ (b.line w i).contacts)
    (fun b u => (u.line w i).fault = none ∧
      (10 ≤ (b.line w i).run → (u.line w i).closed = some (decide ((b.line w i).raw = 1))) ∧ (∀ j, j ≠ i → u.line w j = b.line w j)))

/-- R823, R825 to R828: the fault inputs. An indication of 100 ns asserts the input and sets the glaze latch, with SAFE_LEVEL, of every channel of the
cartridge in mode GLAZE that names it; 1 ms without one releases it, and leaves every latch. -/
def Obligations.FaultInputsAct : Prop :=
  (∀ t k i r ns, Does (.fltAssert t k i r ns)
    (fun b => (b.cart k).powered = true ∧ ((b.cart k).flt[i]).asserted = false ∧ r < 550 ∧ 100 ≤ ns)
    (fun b u => ((u.cart k).flt[i]).asserted = true ∧
      (∀ c, slotOf c = k → bits (b.chItem c 0x011E) 0 2 = 1 → fltInput (b.chItem c 0x011E) = i →
        (u.chan c).ctrl.glaze = true ∧
        ((b.chan c).ctrl.glaze = false → (u.chan c).ctrl.glazeLvl =
          (if b.chItem c 0x011F = 1 then .on else if b.chItem c 0x011F = 2 then .freewheel else .off))) ∧
      (∀ c, slotOf c = k → bits (b.chItem c 0x011E) 0 2 = 2 → fltInput (b.chItem c 0x011E) = i → (u.chan c).ctrl.openF = true) ∧
      OnlySlotLog k b u)) ∧
  (∀ t k i r ns, Does (.fltRelease t k i r ns)
    (fun b => (b.cart k).powered = true ∧ ((b.cart k).flt[i]).asserted = true ∧ 600 < r ∧ 1000000 ≤ ns)
    (fun b u => ((u.cart k).flt[i]).asserted = false ∧
      (∀ c, slotOf c = k → (u.chan c).ctrl.glaze = (b.chan c).ctrl.glaze ∧
        (bits (b.chItem c 0x011E) 0 2 = 2 → fltInput (b.chItem c 0x011E) = i → (u.chan c).ctrl.openF = false)) ∧ OnlySlotLog k b u))

/-- R831 to R833, R837, R839: each channel's limp-home demand is what its table and lines give, with the digest over the four; a soak that ends adopts
the level of the governing source, and so does a handover ramp that ends. -/
def Obligations.DemandsAndHandovers : Prop :=
  (∀ t k, Does (.limpDemand t k)
    (fun b => (b.cart k).powered = true ∧ (b.cart k).frozen = false)
    (fun b u => (∀ c, slotOf c = k → (u.chan c).ctrl.demand = b.limpLevel c) ∧
      (u.cart k).digest = crc32 ((chansOf k).map fun c => BitVec.ofNat 8 (b.limpLevel c).code) ∧ OnlySlotLog k b u)) ∧
  (∀ t c, Does (.soakEnd t c)
    (fun b => b.engine c = true ∧ (b.chan c).ctrl.hand = .soak ∧ (b.chan c).ctrl.soakEnd ≤ b.now ∧ (b.chan c).ctrl.rampNs = 0)
    (fun b u => (u.chan c).ctrl.hand = .none ∧ (u.chan c).ctrl.level = (b.demands c (b.chan c).ctrl.source).1 ∧
      (u.chan c).ctrl.pwm = (b.demands c (b.chan c).ctrl.source).2 ∧ OnlyChanLog c b u)) ∧
  (∀ t c, Does (.soakEnd t c)
    (fun b => b.engine c = true ∧ (b.chan c).ctrl.hand = .soak ∧ (b.chan c).ctrl.soakEnd ≤ b.now ∧ 0 < (b.chan c).ctrl.rampNs ∧
      (b.chan c).ctrl.level = .pwm ∧ (b.demands c (b.chan c).ctrl.source).1.isOn = true ∧
      ((b.demands c (b.chan c).ctrl.source).1 = .pwm → (b.demands c (b.chan c).ctrl.source).2.en = true))
    (fun b u => (u.chan c).ctrl.hand = .ramp ∧ (u.chan c).ctrl.level = .pwm ∧
      (∃ r, (u.chan c).ctrl.ramp = some r ∧ r.start = b.now ∧ r.stop = b.now + (b.chan c).ctrl.rampNs ∧
        r.duty1 = dutyOf (b.demands c (b.chan c).ctrl.source).1 (b.demands c (b.chan c).ctrl.source).2) ∧ OnlyChanLog c b u)) ∧
  (∀ t c r, Does (.handoverRampEnd t c)
    (fun b => b.engine c = true ∧ (b.chan c).ctrl.hand = .ramp ∧ (b.chan c).ctrl.ramp = some r ∧ r.stop ≤ b.now)
    (fun b u => (u.chan c).ctrl.hand = .none ∧ (u.chan c).ctrl.level = (b.demands c (b.chan c).ctrl.source).1 ∧
      (u.chan c).ctrl.pwm = (b.demands c (b.chan c).ctrl.source).2 ∧ OnlyChanLog c b u))

/-- R554 to R556, R604, R866 to R868, R910, R918: frames and scheduled transactions. The ACTIVE controller's frame slot sends every
cartridge the frame of the next slot, applied when that starts; a frame of the claim holder that is not older gives its channels their setpoints, one of another controller none, and one with a wrong
CRC is only counted; a transaction is armed in the cartridges it acts on, applied there when T comes, or taken into the image where none holds it. -/
def Obligations.FramesCarry : Prop :=
  (∀ t c, Does (.frameSlot t c)
    (fun b => (b.ctl c).running = true ∧ (b.ctl c).role = .active ∧ (b.ctl c).sup.failing = false ∧ (b.ctl c).slotDue ≤ b.now)
    (fun b u => (∀ k : Slot, ∃ f : Frame, (u.ctl c).tx[k] = ((b.ctl c).tx[k]).drop (((b.ctl c).tx[k]).length - 1) ++ [f] ∧ f.ctl = c ∧
        f.time = b.utime c / 10000 * 10000 + 10000 ∧ f.due = b.nextSlotAt c ∧ f.image.length = 4) ∧
      (u.ctl c).slotDue = b.nextSlotAt c ∧ OutputsKept b u)) ∧
  (∀ t c k ok f rest, Does (.setpointFrame t c k ok)
    (fun b => (b.ctl c).tx[k] = f :: rest ∧ b.now < f.due)
    (fun b u => u = b)) ∧
  (∀ t c k f rest, Does (.setpointFrame t c k true)
    (fun b => (b.ctl c).tx[k] = f :: rest ∧ f.due ≤ b.now ∧ (b.cart k).powered = true ∧ (b.cart k).holder = some c ∧
      notOlder f.imgJsn (b.cart k).imgJsn = true)
    (fun b u => (∀ p : Fin 4, (u.chan (chOf k p)).set = f.image.getD p.val {}) ∧ (u.cart k).imgJsn = f.imgJsn ∧ (u.cart k).holdAt = b.now ∧
      (u.cart k).timeOff = f.time - f.due ∧ (u.ctl c).tx[k] = rest ∧ (∀ d, slotOf d ≠ k → u.chan d = b.chan d) ∧ (∀ j, j ≠ k → u.cart j = b.cart j) ∧ u.twins = b.twins ∧ u.loops = b.loops)) ∧
  (∀ t c k f rest, Does (.setpointFrame t c k true)
    (fun b => (b.ctl c).tx[k] = f :: rest ∧ f.due ≤ b.now ∧ (b.cart k).powered = true ∧ (b.cart k).holder ≠ some c)
    (fun b u => (∀ d, slotOf d ≠ k → u.chan d = b.chan d) ∧
      (∀ d, slotOf d = k → u.chan d = { b.chan d with ctrl := { (b.chan d).ctrl with insHold := (u.chan d).ctrl.insHold } }) ∧
      ((b.cart k).holder.isSome = true → u.chans = b.chans) ∧
      u.cart k = { b.cart k with lastFrom := some (c, b.now) } ∧ ∀ j, j ≠ k → u.cart j = b.cart j)) ∧
  (∀ t c k f rest, Does (.setpointFrame t c k false)
    (fun b => (b.ctl c).tx[k] = f :: rest ∧ f.due ≤ b.now ∧ (b.cart k).powered = true)
    (fun b u => u.chans = b.chans ∧ u.cart k = { b.cart k with linkErr := modV (b.cart k).linkErr c.ix (satBump 16) } ∧
      ∀ j, j ≠ k → u.cart j = b.cart j)) ∧
  (∀ t jsn c j, Does (.scheduleArm t jsn)
    (fun b => b.active = some c ∧ (b.ctl c).mram.slot jsn = some j ∧ j.sched = true ∧ j.released = true ∧ j.taken = false ∧
      j.time - 100000000 ≤ b.utime c ∧ b.utime c ≤ j.time - 1000000)
    (fun b u => (∀ k, u.cart k = if j.mask[k] = true ∧ b.holds c k = true ∧ (b.cart k).powered = true
        then (b.cart k).arm (j.armedFor k) (b.cartTime k) else b.cart k) ∧ u = { b with carts := u.carts })) ∧
  (∀ t k e, Does (.armedApply t k)
    (fun b => (b.cart k).powered = true ∧ (b.cart k).holder.isSome = true ∧
      ((b.cart k).armed.filter fun e => decide (e.time ≤ b.cartTime k)) = [e] ∧ (∀ x ∈ e.sets, x.1 < 4))
    (fun b u => (u.cart k).armJsn = e.jsn ∧ (u.cart k).armed = ((b.cart k).armed.filter fun y => y.jsn ≠ e.jsn) ∧
      (∀ p : Fin 4, (∀ x ∈ e.sets, x.1 ≠ p.val) → u.chan (chOf k p) = b.chan (chOf k p)) ∧
      (∀ p : Fin 4, ∀ l w, e.sets = [(p.val, l, w)] →
        (u.chan (chOf k p)).set.level = l.getD (b.chan (chOf k p)).set.level ∧ (u.chan (chOf k p)).set.pwm = w.getD (b.chan (chOf k p)).set.pwm) ∧
      OnlySlotLog k b u)) ∧
  (∀ t jsn c j, Does (.scheduleUnarmedApply t jsn)
    (fun b => b.active = some c ∧ (b.ctl c).mram.slot jsn = some j ∧ j.sched = true ∧ j.released = true ∧ j.taken = false ∧ j.st = .committed ∧
      maskAny j.mask = true ∧ j.time - 1000000 ≤ b.utime c ∧ (∀ k, j.mask[k] = true → b.armedAt k jsn = false))
    (fun b u => (∃ i, (u.ctl c).mram.slot jsn = some i ∧ i.taken = true) ∧ u.carts = b.carts ∧ u.chans = b.chans)) ∧
  (∀ t jsn c j q ua, Does (.scheduledSetLoop t jsn)
    (fun b => b.active = some c ∧ (b.ctl c).mram.slot jsn = some j ∧ j.sched = true ∧ j.released = true ∧ j.taken = false ∧ j.st = .committed ∧
      maskAny j.mask = false ∧ j.time ≤ b.utime c ∧ j.later = [.loop q ua] ∧ b.itemAt c 0x0301 (q.val + 1) = 9)
    (fun b u => (u.ctl c).mram.loops[q] = some ua ∧ (u.ctl c).mram.slot jsn = none ∧ u.carts = b.carts ∧ u.chans = b.chans)) ∧
  (∀ t jsn c j a, Does (.notApplied t jsn)
    (fun b => b.active = some c ∧ (b.ctl c).mram.slot jsn = some j ∧ j.released = true ∧ j.sched = false ∧ j.replied = false ∧ j.req.isSome = true ∧
      j.frameAt = some a ∧ a + 5000000 ≤ b.now ∧ j.client < 16)
    (fun b u => (∃ i, (u.ctl c).mram.slot jsn = some i ∧ i.replied = true ∧ i.st = j.st) ∧
      (∀ e ∈ ((u.ctl c).mram.client (clientOf j.client)).win, e.seq = j.seq → e.st = .complete ∧ e.status = 0x0501 ∧ e.detail = 18) ∧
      u.carts = b.carts ∧ u.chans = b.chans))

/-- R349, R350, R352, R354 to R356, R618: averages, energy and latches. The end of a ms takes its samples in, forms the 1 ms average of them, adds its
energy without loss and passes the samples on to the longer averages; the end of 100 ms closes the triggered means too. A latch instant samples every
channel of a claimed cartridge, and the latch is complete 2 ms later; an energy save keeps the accumulators. -/
def Obligations.AveragesAndLatches : Prop :=
  (∀ t c x mirror, Does (.averageIntervalEnd t c 0 x mirror)
    (fun b => (b.cart (slotOf c)).powered = true ∧ x.length = 20 ∧
      (b.chan c).meas.energy + ((b.chan c).meas.energyRem +
        (Chan.samples (b.cart (slotOf c)) (posOf c) x (b.onClock (slotOf c) (b.intervalEnd (slotOf c) 1000000) - 1000000) (b.chan c) {}).2.pos) /
          72000000000000 < 2 ^ 64)
    (fun b u =>
      let time := b.intervalEnd (slotOf c) 1000000
      let a := (Chan.samples (b.cart (slotOf c)) (posOf c) x (b.onClock (slotOf c) time - 1000000) (b.chan c) {}).2
      let m := (b.chan c).meas
      let n := (u.chan c).meas
      a.n = 20 ∧ n.avg1ms = b.average c 0 time a ∧ n.mirror = mirror ∧
      n.energy * 72000000000000 + n.energyRem = m.energy * 72000000000000 + m.energyRem + a.pos ∧
      n.sum100ms.n = m.sum100ms.n + 20 ∧ n.sum100ms.p = m.sum100ms.p + a.p ∧ n.sum1s.n = m.sum1s.n + 20 ∧ n.sum1s.i1 = m.sum1s.i1 + a.i1 ∧
      n.avg100ms = m.avg100ms ∧ n.avg1s = m.avg1s ∧ (u.chan c).stage = (b.chan c).stage ∧ (u.chan c).prot = (b.chan c).prot ∧ OnlyChan c b u)) ∧
  (∀ t c x mirror, Does (.averageIntervalEnd t c 1 x mirror)
    (fun b => (b.cart (slotOf c)).powered = true)
    (fun b u =>
      let m := (b.chan c).meas
      let n := (u.chan c).meas
      n.avg100ms = (if m.sum100ms.n = 0 then m.avg100ms else b.average c 1 (b.intervalEnd (slotOf c) 100000000) m.sum100ms) ∧ n.sum100ms = {} ∧
      n.energy = m.energy ∧ n.avg1s = m.avg1s ∧ (u.chan c).gen = (b.chan c).gen.trigMeans ∧ (u.chan c).stage = (b.chan c).stage ∧ OnlyChan c b u)) ∧
  (∀ t c x mirror, Does (.averageIntervalEnd t c 2 x mirror)
    (fun b => (b.cart (slotOf c)).powered = true)
    (fun b u =>
      let m := (b.chan c).meas
      let n := (u.chan c).meas
      n.avg1s = (if m.sum1s.n = 0 then m.avg1s else b.average c 2 (b.intervalEnd (slotOf c) 1000000000) m.sum1s) ∧ n.sum1s = {} ∧
      n.energy = m.energy ∧ n.avg100ms = m.avg100ms ∧ (∀ d, d ≠ c → u.chan d = b.chan d) ∧ u = { b with chans := u.chans, cool := u.cool })) ∧
  (∀ t k x T, Does (.latchInstant t k x)
    (fun b => (b.cart k).latchAt = some T ∧ (b.cart k).powered = true ∧ (b.cart k).holder.isSome = true ∧ T ≤ b.cartTime k)
    (fun b u => (∀ p : Fin 4, u.chan (chOf k p) = { b.chan (chOf k p) with meas := { (b.chan (chOf k p)).meas with
        latch := some (b.average (chOf k p) 3 T (Chan.sample (b.chan (chOf k p)) (b.cart k) p (b.onClock k T - 50000) x[p] {}).2) } }) ∧
      u.cart k = { b.cart k with latchAt := none } ∧ OnlySlot k b u)) ∧
  (∀ t c T, Does (.latchComplete t)
    (fun b => b.active = some c ∧ (b.ctl c).latchAt = some T ∧ T + 2000000 ≤ b.utime c)
    (fun b u => u.ctl c = { b.ctl c with latchAt := none, latched := some T } ∧ OnlyCtl c b u)) ∧
  (∀ t k, Does (.energySave t k)
    (fun b => (b.cart k).powered = true)
    (fun b u => (∀ c, slotOf c = k → (u.chan c).meas = { (b.chan c).meas with energySaved := (b.chan c).meas.energy } ∧
      (u.chan c).stage = (b.chan c).stage ∧ (u.chan c).prot = (b.chan c).prot) ∧ OnlyChansOf k b u))

/-- R361, R363, R364, R366: visits and offsets. A visit begins at its place in the cycle of 10 s (within 1 ms of it: log entry 68's), unless something
bars it, and its end gives each path whose halves agree within 0.02 % its gain, and rejects any other; an abandoned visit is rejected in both; 200 ms
OFF teach the offsets. -/
def Obligations.VisitsCalibrate : Prop :=
  (∀ t k p, Does (.visitStart t k p)
    (fun b => (b.cart k).powered = true ∧ (b.cart k).visit = none ∧
      0 ≤ ((b.now : Int) + b.cycleOff k) % 10000000000 - 2500000000 * p.val ∧
      ((b.now : Int) + b.cycleOff k) % 10000000000 - 2500000000 * p.val < 1000000)
    (fun b u =>
      let m := (b.chan (chOf k p)).meas
      (b.visitBarred (chOf k p) = false →
        u.cart k = { b.cart k with visit := some p.val, visitPos := p.val, visitAt := b.now, visitStop := b.now + 2000000000, grid := b.cycleOff k } ∧
        u.chan (chOf k p) = { b.chan (chOf k p) with meas := { m with
          p1 := { m.p1 with half1 := {}, half2 := {} }, p2 := { m.p2 with half1 := {}, half2 := {} } } } ∧
        (∀ d, d ≠ chOf k p → u.chan d = b.chan d) ∧ OnlySlot k b u) ∧
      (b.visitBarred (chOf k p) = true → u = b))) ∧
  (∀ t k (p : Fin 4), Does (.visitEnd t k)
    (fun b =>
      let m := (b.chan (chOf k p)).meas
      (b.cart k).visit = some p.val ∧ (b.cart k).visitStop ≤ b.now ∧ (b.cart k).proofBad = false ∧
      halvesAgree m.p1.half1.amplitude m.p1.half2.amplitude = true ∧ halvesAgree m.p2.half1.amplitude m.p2.half2.amplitude = false)
    (fun b u =>
      let m := (b.chan (chOf k p)).meas
      let n := (u.chan (chOf k p)).meas
      n.p1.gain = (m.p1.half1.amplitude + m.p1.half2.amplitude) / 2 / 100 ∧ n.p1.visitOk = true ∧ n.p1.visitAt = some b.now ∧ n.p1.rejRow = 0 ∧
      n.p2.gain = m.p2.gain ∧ n.p2.visitOk = false ∧ n.p2.rejRow = m.p2.rejRow + 1 ∧
      (u.cart k).visit = none ∧ (∀ d, d ≠ chOf k p → u.chan d = b.chan d) ∧ OnlySlotLog k b u)) ∧
  (∀ t k (p : Fin 4) sat, Does (.visitAbandoned t k sat)
    (fun b => (b.cart k).visit = some p.val)
    (fun b u =>
      let m := (b.chan (chOf k p)).meas
      let n := (u.chan (chOf k p)).meas
      (sat = true ∨ b.visitBarred (chOf k p) = true →
        n.p1 = m.p1.reject ∧ n.p2 = m.p2.reject ∧
        u.cart k = { b.cart k with visit := none, visitStop := min (b.cart k).visitStop b.now } ∧
        (∀ d, d ≠ chOf k p → u.chan d = b.chan d) ∧ OnlySlotLog k b u) ∧
      (sat = false ∧ b.visitBarred (chOf k p) = false → u = b))) ∧
  (∀ t c, Does (.offsetLearn t c)
    (fun b => (b.cart (slotOf c)).powered = true ∧ (b.chan c).stage.output = .off ∧ (b.chan c).stage.ser = false ∧
      (b.chan c).stage.offAt + 200000000 ≤ b.now ∧ (b.chan c).meas.offSum.off = (b.chan c).stage.offAt ∧ 0 < (b.chan c).meas.offSum.n)
    (fun b u =>
      let m := (b.chan c).meas
      (u.chan c).meas.p1 = { m.p1 with offset := m.offSum.s1 / (m.offSum.n : Int) } ∧
      (u.chan c).meas.p2 = { m.p2 with offset := m.offSum.s2 / (m.offSum.n : Int) } ∧ OnlyChan c b u))

/-- R369, R371, R380, R1000: the comparison of the paths, by the means of their sliding second. The tenth disagreement in a row sets the crazing flag; one
agreement ends the row; 60 s of agreement with a visit on both paths clear the flag and bring both paths back; a path that fails is out of use while the
other reads below 90 A. -/
def Obligations.PathsAreCompared : Prop :=
  (∀ t c, Does (.pathComparison t c)
    (fun b =>
      let m := (b.chan c).meas
      let w := m.window
      (b.cart (slotOf c)).powered = true ∧ (∃ d, (b.ctl d).running = true) ∧ 0 < w.n1 ∧ 0 < w.n2 ∧ m.crazing = false ∧ m.p1.used = true ∧
      m.p2.used = true ∧ 9 ≤ m.disagree ∧ disagrees (w.s1 / (w.n1 : Int)) (w.s2 / (w.n2 : Int)) = true)
    (fun b u => (u.chan c).meas.crazing = true ∧ (u.chan c).stage = (b.chan c).stage ∧ OnlyChanLog c b u)) ∧
  (∀ t c, Does (.pathComparison t c)
    (fun b =>
      let w := (b.chan c).meas.window
      (b.cart (slotOf c)).powered = true ∧ (∃ d, (b.ctl d).running = true) ∧ 0 < w.n1 ∧ 0 < w.n2 ∧
      disagrees (w.s1 / (w.n1 : Int)) (w.s2 / (w.n2 : Int)) = false)
    (fun b u =>
      let w := (b.chan c).meas.window
      (u.chan c).meas.disagree = 0 ∧ (u.chan c).meas.crazing = (b.chan c).meas.crazing ∧
      (u.chan c).meas.p1.mean1s = w.s1 / (w.n1 : Int) ∧ (u.chan c).meas.p2.mean1s = w.s2 / (w.n2 : Int) ∧ OnlyChan c b u)) ∧
  (∀ t c a, Does (.crazingClear t c)
    (fun b => (b.chan c).meas.agreeSince = some a ∧ a + 60000000000 ≤ b.now ∧ (b.chan c).meas.visitedSince a = true ∧
      ((b.chan c).meas.p1.failed = false ∨ (b.chan c).meas.p2.failed = false))
    (fun b u => (u.chan c).meas.crazing = false ∧ (u.chan c).meas.p1.used = true ∧ (u.chan c).meas.p2.used = true ∧ OnlyChanLog c b u)) ∧
  (∀ t c, Does (.pathFail t c false true)
    (fun b => (b.cart (slotOf c)).powered = true ∧ (b.chan c).meas.p1.failed = false ∧ (b.chan c).meas.p2.failed = false ∧
      (((b.chan c).meas.i2).getD 0).natAbs < 90000000)
    (fun b u => (u.chan c).meas.p1.failed = true ∧ (u.chan c).meas.p2 = (b.chan c).meas.p2 ∧ OnlyChanLog c b u)) ∧
  (∀ t c, Does (.pathFail t c true true)
    (fun b => (b.cart (slotOf c)).powered = true ∧ (b.chan c).meas.p2.failed = false ∧ (b.chan c).meas.p1.failed = false ∧
      90000000 ≤ (((b.chan c).meas.i1).getD 0).natAbs)
    (fun b u => u = b))

/-- R322: an enabled blanking timer starts at each occurrence of its event on its source channel, and runs its full length from there, whether or not its
window runs already. With it, parts of other rules of triggers, windows and voltage inputs: a trigger whose position comes fires once in its period and
keeps its pair, with the proof current added back and the start of its frame slot, and at any other instant nothing happens; a window that has run its
length ends; a voltage calibration sets the input's gain. -/
def Obligations.TriggersAndWindows : Prop :=
  (∀ t c u1 u2, Does (.triggerFire t c false u1 u2)
    (fun b => (b.chan c).gen.fires false b.now = true ∧ (b.cart (slotOf c)).frozen = false)
    (fun b u =>
      let k := b.cart (slotOf c)
      let m := (b.chan c).meas
      let on := if k.proofOn b.now = true ∧ k.visitPos = (posOf c).val then 150000 else 0
      (u.chan c).gen.trgA1 = m.p1.load k.tMeas u1 on - m.p1.offset ∧ (u.chan c).gen.trgA2 = m.p2.load k.tMeas u2 on - m.p2.offset ∧
      (u.chan c).gen.trgATime = b.cartTime (slotOf c) / 10000 * 10000 ∧ (u.chan c).gen.trgABlank = b.blanked c 0 ∧
      (u.chan c).gen.trgACnt = (b.chan c).gen.trgACnt + 1 ∧ (u.chan c).gen.firedA = true ∧ (u.chan c).gen.trgB1 = (b.chan c).gen.trgB1 ∧
      OnlyChan c b u)) ∧
  (∀ t c u1 u2, Does (.triggerFire t c true u1 u2)
    (fun b => (b.chan c).gen.fires true b.now = true ∧ (b.cart (slotOf c)).frozen = false)
    (fun b u =>
      let k := b.cart (slotOf c)
      let m := (b.chan c).meas
      let on := if k.proofOn b.now = true ∧ k.visitPos = (posOf c).val then 150000 else 0
      (u.chan c).gen.trgB1 = m.p1.load k.tMeas u1 on - m.p1.offset ∧ (u.chan c).gen.trgBCnt = (b.chan c).gen.trgBCnt + 1 ∧
      (u.chan c).gen.firedB = true ∧ (u.chan c).gen.trgA1 = (b.chan c).gen.trgA1 ∧ OnlyChan c b u)) ∧
  (∀ t c trgB u1 u2, Does (.triggerFire t c trgB u1 u2)
    (fun b =>
      let g := (b.chan c).gen
      let w := if trgB = true then g.act.trgb else g.act.trga
      g.begun = false ∨ bit w 31 = false ∨ (if trgB = true then g.firedB else g.firedA) = true ∨ g.counterAt b.now ≠ bits w 0 24)
    (fun b u => u = b)) ∧
  (∀ t k n src event, Does (.blankWindowStart t k n src event)
    (fun b => (b.cart k).powered = true ∧ (b.cart k).frozen = false ∧ bit ((b.cart k).at_[n]).sel 31 = true ∧
      bits ((b.cart k).at_[n]).sel 0 2 = src.val ∧ bits ((b.cart k).at_[n]).sel 2 2 = event.val)
    (fun b u => ((u.cart k).at_[n]).until_ = some (b.now + bits ((b.cart k).at_[n]).sel 16 11 * 100) ∧
      ((u.cart k).at_[n]).sel = ((b.cart k).at_[n]).sel ∧ (∀ i : Fin 4, i ≠ n → (u.cart k).at_[i] = (b.cart k).at_[i]) ∧ OnlyCart k b u)) ∧
  (∀ t k n e, Does (.blankWindowEnd t k n)
    (fun b => ((b.cart k).at_[n]).until_ = some e ∧ e ≤ b.now)
    (fun b u => ((u.cart k).at_[n]).until_ = none ∧ ((u.cart k).at_[n]).sel = ((b.cart k).at_[n]).sel ∧
      (∀ i : Fin 4, i ≠ n → (u.cart k).at_[i] = (b.cart k).at_[i]) ∧ OnlyCart k b u)) ∧
  (∀ t k i uv, Does (.voltageCalibration t k i uv)
    (fun b => (b.cart k).powered = true ∧ 0 < uv)
    (fun b u => (u.cart k).vGain[i] = uv / 10 ∧ (∀ j : Fin 9, j ≠ i → (u.cart k).vGain[j] = (b.cart k).vGain[j]) ∧ OnlyCart k b u))

/-- R396, R398, R399, R416: the sharing loop. Where the halves do not both run, no half carries trim; where they do and nothing holds the loop, the trim
moves by at most 5 mV toward the half that carries more, and one half alone carries it, at most 300 mV; and a period of the higher half is corrected
by a tick at most. No cycle switches a channel. TWIN_UNBALANCED toggles when its time is up. -/
def Obligations.SharingLoopTrims : Prop :=
  (∀ t p drift a, Does (.sharingLoop t p drift)
    (fun b => b.active = some a ∧ b.twinned p = true ∧ b.bothRun a p = false)
    (fun b u =>
      let low := ((b.chan (lowOf p)).meas.avg1ms.current.getD 0) / 1000
      let high := ((b.chan (highOf p)).meas.avg1ms.current.getD 0) / 1000
      (u.twin p).trimLow = 0 ∧ (u.twin p).trimHigh = 0 ∧ (u.twin p).natural = none ∧
      (u.twin p).share = (if (low + high).natAbs < 1000 then none else some (min 65534 (low * 10000 / (low + high)).toNat)) ∧
      (∀ q, q ≠ p → u.twin q = b.twin q) ∧ (∀ c, (u.chan c).stage = (b.chan c).stage ∧ (u.chan c).prot = (b.chan c).prot) ∧ u.carts = b.carts)) ∧
  (∀ t p drift a, Does (.sharingLoop t p drift)
    (fun b => b.active = some a ∧ b.twinned p = true ∧ b.bothRun a p = true ∧
      (b.twin p).unmeas = false ∧ (b.twin p).alignBad = false ∧ b.halted p = false ∧
      (∀ c, pairOf c = p → (b.chan c).meas.cls b.now (b.cart (slotOf c)).proofBad (b.cart (slotOf c)).proofAt ≠ 5) ∧
      (b.twin p).trimLow ≤ 300 ∧ (b.twin p).trimHigh ≤ 300 ∧ ((b.twin p).trimLow = 0 ∨ (b.twin p).trimHigh = 0))
    (fun b u =>
      let low := ((b.chan (lowOf p)).meas.avg1ms.current.getD 0) / 1000
      let high := ((b.chan (highOf p)).meas.avg1ms.current.getD 0) / 1000
      let was : Int := (b.twin p).trimLow - (b.twin p).trimHigh
      let now : Int := (u.twin p).trimLow - (u.twin p).trimHigh
      (u.twin p).trimLow ≤ 300 ∧ (u.twin p).trimHigh ≤ 300 ∧ ((u.twin p).trimLow = 0 ∨ (u.twin p).trimHigh = 0) ∧
      (high < low → was ≤ now ∧ now ≤ was + 5) ∧ (low < high → now ≤ was ∧ was ≤ now + 5) ∧ (low = high → now = was) ∧
      (∀ q, q ≠ p → u.twin q = b.twin q) ∧ (∀ c, (u.chan c).stage = (b.chan c).stage ∧ (u.chan c).prot = (b.chan c).prot) ∧ u.carts = b.carts)) ∧
  (∀ t p drift a, Does (.sharingLoop t p drift)
    (fun b => b.active = some a ∧ b.twinned p = true)
    (fun b u =>
      let was := ((b.chan (highOf p)).gen.drift drift).boundAt
      let now := (u.chan (highOf p)).gen.boundAt
      (now = was ∨ now = was - 25 ∨ now = was + 25) ∧ (b.halted p = true → now = was ∧ (u.twin p).alignBad = (b.twin p).alignBad) ∧
      (∀ c, c ≠ highOf p → (u.chan c).gen = (b.chan c).gen))) ∧
  (∀ t p a e, Does (.twinUnbalanced t p)
    (fun b => b.active = some a ∧ b.twinned p = true ∧ (b.twin p).unbalSince = some e ∧
      e + (if (b.twin p).unbalanced = true then 10000000000 else 1000000000) ≤ b.now)
    (fun b u => u.twin p = { b.twin p with unbalanced := !(b.twin p).unbalanced, unbalSince := none } ∧ (∀ q, q ≠ p → u.twin q = b.twin q) ∧
      u.chans = b.chans ∧ u.carts = b.carts ∧ Logged b u))

/-- R410, R411, R413, R419: a cartridge's withdrawal and return. The lever's opening turns every channel off; when every switch is confirmed off the
cartridge is LEFT; out of its slot it is dark and its channels are off, and one drawn without leave forces its pairs; the lever's closing ends the
withdrawal, and a half whose partner runs joins it without START. -/
def Obligations.WithdrawalAndReturn : Prop :=
  (∀ t k, Does (.leverOpen t k)
    (fun b => (b.cart k).seated = true ∧ (b.cart k).lever = false ∧ (b.cart k).band ≠ .dark ∧ (b.cart k).frozen = false)
    (fun b u => u.cart k = { b.cart k with lever := true, leverAt := some b.now, removing := true, left := false } ∧
      (∀ c, slotOf c = k → (u.chan c).stage.output.conducts = false) ∧ OnlySlot k b u)) ∧
  (∀ t k, Does (.left t k)
    (fun b => (b.cart k).powered = true ∧ (b.cart k).removing = true ∧ ∀ c, slotOf c = k → (b.chan c).stage.allOff = true)
    (fun b u => u.cart k = { b.cart k with left := true } ∧ OnlyCart k b u)) ∧
  (∀ t k, Does (.slotLeft t k)
    (fun b => (b.cart k).seated = true ∧ (b.cart k).left = true)
    (fun b u => (u.cart k).seated = false ∧ (u.cart k).band = .dark ∧ (u.cart k).holder = none ∧
      (∀ c, slotOf c = k → (u.chan c).stage.output = .off ∧ (u.chan c).stage.ser = false) ∧ OnlySlotMode k b u)) ∧
  (∀ t k, Does (.slotLost t k)
    (fun b => (b.cart k).seated = true ∧ (b.cart k).left = false)
    (fun b u => (u.cart k).seated = false ∧ (u.cart k).holder = none ∧
      (∀ c, slotOf c = k → (u.chan c).stage.output = .off ∧ (b.twinned (pairOf c) = true → (u.twin (pairOf c)).forced = true)) ∧
      (∀ c, slotOf c ≠ k → u.chan c = b.chan c) ∧ (∀ j, j ≠ k → u.cart j = b.cart j) ∧ Logged b u)) ∧
  (∀ t k, Does (.leverClose t k)
    (fun b => (b.cart k).seated = true ∧ (b.cart k).lever = true)
    (fun b u => u.cart k = { b.cart k with lever := false, removing := false, left := false, leverAt := none } ∧ OnlySlot k b u)) ∧
  (∀ t c, Does (.twinJoin t c)
    (fun b => (b.chan c).ctrl.joinWait = true ∧ (b.chan (partner c)).stage.running = true ∧ 1 ≤ (b.chan c).ctrl.mark ∧ (b.chan c).ctrl.mark ≤ 8 ∧
      (b.cart (slotOf (partner c))).holder.isSome = true ∧ (b.cart (slotOf (partner c))).seated = true)
    (fun b u => (u.chan c).ctrl.noStart = true ∧ (u.chan c).ctrl.joinWait = false ∧ (u.chan c).stage = (b.chan c).stage ∧ OnlyChan c b u))

/-- R112 to R114, R372, R423, R425, R437: a housekeeping round takes every reading and switches nothing: no channel's output or trip changes. The ORing
branches carry the cartridge's current together: none where its feed is negative or below the bus, neither more than 60 % while both feeds are PRESENT
and balanced, and the higher alone beyond 1.5 V. The fan duty stays from 30 to 100 % and moves by at most 10. Without a drive command for 100 ms the
fans run at 100 % (R438). -/
def Obligations.HousekeepingReads : Prop :=
  (∀ t r, Does (.housekeepingRound t r) (fun _ => True)
    (fun b u => (∀ k, (b.cart k).powered = true → (u.cart k).tAir = r.carts[k].air ∧ (u.cart k).tMeas = r.carts[k].meas ∧
        (u.cart k).feedMv = r.carts[k].feedMv ∧ (u.cart k).busMv = r.carts[k].busMv) ∧
      (∀ k, (b.cart k).powered = false → u.cart k = b.cart k) ∧
      (∀ k, (u.cart k).band = (b.cart k).band ∧ (u.cart k).holder = (b.cart k).holder) ∧
      (∀ c, (u.chan c).stage = (b.chan c).stage ∧ (u.chan c).ctrl = (b.chan c).ctrl ∧ (u.chan c).gen = (b.chan c).gen ∧
        (u.chan c).prot.trip = (b.chan c).prot.trip ∧ ((b.cart (slotOf c)).powered = true →
          (u.chan c).prot.dieTemp = max (r.carts[slotOf c].fwd[posOf c]) (r.carts[slotOf c].fw[posOf c]))))) ∧
  (∀ t r (k : Slot), Does (.housekeepingRound t r)
    (fun b =>
      let x := r.carts[k]
      (b.cart k).powered = true ∧ 0 ≤ x.load ∧ x.rev = Vector.replicate 2 0 ∧
      ¬(branchOff x.feedMv[0] x.busMv = true ∧ branchOff x.feedMv[1] x.busMv = true))
    (fun _ u =>
      let x := r.carts[k]
      let y := (u.cart k).branchMa
      let present := fun (mv : Int) => 16000 ≤ mv ∧ mv ≤ 33000
      y[0] + y[1] = x.load ∧ 0 ≤ y[0] ∧ 0 ≤ y[1] ∧
      (∀ i : Fin 2, (x.feedMv[i] < 0 ∨ x.feedMv[i] + 20 ≤ x.busMv → y[i] = 0) ∧ (u.cart k).drop[i] ≤ 50) ∧
      (branchOff x.feedMv[0] x.busMv = false → branchOff x.feedMv[1] x.busMv = false →
        (x.feedMv[1] + 1500 < x.feedMv[0] → y[0] = x.load) ∧ (x.feedMv[0] + 1500 < x.feedMv[1] → y[1] = x.load) ∧
        (present x.feedMv[0] → present x.feedMv[1] → (x.feedMv[0] - x.feedMv[1]).natAbs ≤ 1500 →
          y[0] * 10 ≤ x.load * 6 + 10 ∧ y[1] * 10 ≤ x.load * 6 + 10)))) ∧
  (∀ t r w, Does (.housekeepingRound t r)
    (fun b => b.active = some w ∧ (b.ctl w).ready = true ∧ 30 ≤ b.cool.duty ∧ b.cool.duty ≤ 100)
    (fun b u => u.cool.roundAt = b.utime w ∧ u.cool.driveAt = some b.now ∧ 30 ≤ u.cool.duty ∧ u.cool.duty ≤ 100 ∧
      u.cool.duty ≤ b.cool.duty + 10 ∧ b.cool.duty ≤ u.cool.duty + 10 ∧
      (∀ i : Fin 2, -400 ≤ r.inlet[i] → r.inlet[i] ≤ 1250 →
        u.cool.inletWin[i] = (r.inlet[i] :: b.cool.inletWin[i]).take 10 ∧
        u.cool.inlet[i] = (u.cool.inletWin[i]).sum / ((u.cool.inletWin[i]).length : Int)))) ∧
  (∀ t, Does (.fanTrayTimeout t)
    (fun b => b.cool.tray = true ∧ ∀ a, b.cool.driveAt = some a → a + 100000000 ≤ b.now)
    (fun b u => u = { b with cool := { b.cool with duty := 100, drive := Vector.replicate 2 100 } }))

/-- R141 to R146, R443 to R446: shedding and derating. A shed takes the channel of the highest rank, as a journaled change to OFF, and none is
made in LIMP or SPLIT; the pause after a
host's turn-on ends at its instant; 10 s above the limit in force are CH_DERATE_EXCEEDED, and DERATE_GRACE with it is a shed; the step goes up at once
and down with the fans. No shed and no step switches a channel itself. -/
def Obligations.SheddingAndDerating : Prop :=
  (∀ t w c, Does (.shed t)
    (fun b => b.active = some w ∧ b.shedding ∧ b.mayShed w = true ∧ b.nextShed w = some c ∧ b.paired = false ∧
      (b.ctl w).mram.swapping = false ∧ (b.ctl w).mram.slot (b.ctl w).mram.jsn = none)
    (fun b u => u.cool.shedAt = some b.now ∧ u.cool.shedFeed = b.sheds.1 ∧ u.cool.shedUnit = b.sheds.2 ∧
      (∀ d ∈ b.bothHalves c, ((u.ctl w).mram.hosts[d]).level = .off ∧ ((u.ctl w).mram.hosts[d]).shed = true) ∧ OutputsKept b u)) ∧
  (∀ t w c, Does (.shed t)
    (fun b => b.active = some w ∧ b.shedding ∧ b.mayShed w = true ∧ b.nextShed w = some c ∧ b.paired = true ∧
      (b.ctl w).mram.swapping = false)
    (fun b u => u.cool.shedAt = some b.now ∧
      (∃ j ∈ (u.ctl w).mram.slots, j.kind = 4 ∧ j.st = .prepared ∧ j.changes = (b.bothHalves c).map fun d => .level d .off true) ∧
      (u.ctl w).mram.hosts = (b.ctl w).mram.hosts ∧ OutputsKept b u)) ∧
  (∀ t w, Does (.shed t)
    (fun b => b.active = some w ∧ (¬b.shedding ∨ b.unitMode = .limp ∨ b.unitMode = .split))
    (fun b u => u = { b with cool := { b.cool with shedFeed := b.sheds.1, shedUnit := b.sheds.2 } })) ∧
  (∀ t a, Does (.shedResume t) (fun b => b.cool.shedResume = some a ∧ a ≤ b.now)
    (fun b u => u = { b with cool := { b.cool with shedResume := none } })) ∧
  (∀ t ch w a, Does (.chDerateExceeded t ch)
    (fun b => b.active = some w ∧ b.cool.overSince[b.itemCh ch] = some a ∧ b.cool.underSince[b.itemCh ch] = none ∧ a + 10000000000 ≤ b.now ∧ b.now < a + b.item 0x0801 0 * 1000000000)
    (fun b u => u.cool.exceeded[b.itemCh ch] = true ∧ Logged b u ∧ u = { b with cool := u.cool, ctlA := u.ctlA, ctlB := u.ctlB })) ∧
  (∀ t ch w a, Does (.chDerateExceeded t ch)
    (fun b => b.active = some w ∧ b.cool.overSince[b.itemCh ch] = some a ∧ b.cool.underSince[b.itemCh ch] = none ∧ a + 10000000000 ≤ b.now ∧ a + b.item 0x0801 0 * 1000000000 ≤ b.now ∧
      b.sheddable w (b.itemCh ch) = true ∧ b.shedNow w = true)
    (fun b u => u.cool.exceeded[b.itemCh ch] = true ∧ u.cool.shedAt = some b.now ∧ OutputsKept b u)) ∧
  (∀ t w, Does (.derateStep t) (fun b => b.active = some w)
    (fun b u => u.cool.step = (if b.cool.step < b.cool.stepUp then b.cool.stepUp
        else if b.stepDown < b.cool.step then max b.cool.stepUp b.stepDown else b.cool.step) ∧
      Logged b u ∧ u = { b with cool := { b.cool with step := u.cool.step }, ctlA := u.ctlA, ctlB := u.ctlB }))

/-- R440 to R442, R447, R451: the fans. A start check ends in RUNNING at 300 rpm, in a pause 2 s after a try without, and after the third retry in
BLOCKED; a lost tachometer is classed by the current; 10 s of readings bring RUNNING back; every 10 min a fan that stands is tried again; the tray's
removal makes both ABSENT with step 2, and its insertion starts both. R426, R427, R432 to R434: a power die at 170 °C trips its channel with DIE_TEMP
and leaves a pending cone entry; below 150 °C the mark ends, and the entry has its length; the ACTIVE controller that holds the cartridge writes what
is pending into the record, under the next index. -/
def Obligations.FansAndDieShutdownsAct : Prop :=
  (∀ t i rpm w, Does (.fanStartCheck t i rpm)
    (fun b => b.cool.tray = true ∧ b.active = some w ∧ ((b.cool.fans[i]).st = .starting ∨ (b.cool.fans[i]).st = .stalled))
    (fun b u => (300 ≤ rpm → (u.cool.fans[i]).st = .running) ∧
      (rpm < 300 → (b.cool.fans[i]).at_ + 2000000000 ≤ b.now → 3 ≤ (b.cool.fans[i]).retries → (u.cool.fans[i]).st = .blocked) ∧
      (rpm < 300 → (b.cool.fans[i]).at_ + 2000000000 ≤ b.now → (b.cool.fans[i]).retries < 3 → (u.cool.fans[i]).st = .pause) ∧
      (u.cool.fans[i]).rpm = rpm ∧ (∀ j : Fin 2, j ≠ i → u.cool.fans[j] = b.cool.fans[j]) ∧ Logged b u ∧
      u = { b with cool := { b.cool with fans := u.cool.fans, drive := u.cool.drive }, ctlA := u.ctlA, ctlB := u.ctlB })) ∧
  (∀ t i rpm w, Does (.fanStartCheck t i rpm)
    (fun b => b.cool.tray = true ∧ b.active = some w ∧ (b.cool.fans[i]).st = .pause ∧ (b.cool.fans[i]).at_ + 5000000000 ≤ b.now)
    (fun b u => (u.cool.fans[i]).st = .starting ∧ (u.cool.fans[i]).retries = (b.cool.fans[i]).retries + 1 ∧
      (∀ j : Fin 2, j ≠ i → u.cool.fans[j] = b.cool.fans[j]))) ∧
  (∀ t i rpm pct w a, Does (.fanTachFault t i rpm pct)
    (fun b => b.cool.tray = true ∧ b.active = some w ∧ (b.cool.fans[i]).st = .running ∧ (b.cool.fans[i]).tachSince = some a ∧
      a + 2000000000 ≤ b.now ∧ rpm < 300)
    (fun b u => (pct < 60 → (u.cool.fans[i]).st = .stopped) ∧ (60 ≤ pct → pct ≤ 140 → (u.cool.fans[i]).st = .tachLost) ∧
      (140 < pct → (u.cool.fans[i]).st = .stalled) ∧ (∀ j : Fin 2, j ≠ i → u.cool.fans[j] = b.cool.fans[j]) ∧ Logged b u ∧
      u = { b with cool := { b.cool with fans := u.cool.fans, drive := u.cool.drive }, ctlA := u.ctlA, ctlB := u.ctlB })) ∧
  (∀ t i rpm w a, Does (.fanTachRecovery t i rpm)
    (fun b => b.cool.tray = true ∧ b.active = some w ∧ (b.cool.fans[i]).st = .tachLost ∧ (b.cool.fans[i]).tachSince = some a ∧
      a + 10000000000 ≤ b.now ∧ 300 ≤ rpm)
    (fun b u => (u.cool.fans[i]).st = .running ∧ (∀ j : Fin 2, j ≠ i → u.cool.fans[j] = b.cool.fans[j]) ∧ Logged b u ∧
      u = { b with cool := { b.cool with fans := u.cool.fans, drive := u.cool.drive }, ctlA := u.ctlA, ctlB := u.ctlB })) ∧
  (∀ t i w, Does (.fanRetry t i)
    (fun b => b.cool.tray = true ∧ b.active = some w ∧ ((b.cool.fans[i]).st = .stopped ∨ (b.cool.fans[i]).st = .blocked) ∧
      (b.cool.fans[i]).at_ + 600000000000 ≤ b.now)
    (fun b u => (u.cool.fans[i]).st = .starting ∧ (u.cool.fans[i]).retries = 0 ∧ (∀ j : Fin 2, j ≠ i → u.cool.fans[j] = b.cool.fans[j]) ∧
      Logged b u ∧ u = { b with cool := { b.cool with fans := u.cool.fans, drive := u.cool.drive }, ctlA := u.ctlA, ctlB := u.ctlB })) ∧
  (∀ t w, Does (.fanTrayPresence t false)
    (fun b => b.cool.tray = true ∧ b.active = some w)
    (fun b u => u.cool.tray = false ∧ (∀ i : Fin 2, (u.cool.fans[i]).st = .absent) ∧ u.cool.step = 2 ∧ Logged b u ∧
      u = { b with cool := u.cool, ctlA := u.ctlA, ctlB := u.ctlB })) ∧
  (∀ t, Does (.fanTrayPresence t true)
    (fun b => b.cool.tray = false)
    (fun b u => u.cool.tray = true ∧ u.cool.duty = 100 ∧ u.cool.drive = Vector.replicate 2 100 ∧ (∀ i : Fin 2, (u.cool.fans[i]).st = .starting ∧ (u.cool.fans[i]).retries = 0) ∧
      Logged b u ∧ u = { b with cool := u.cool, ctlA := u.ctlA, ctlB := u.ctlB })) ∧
  (∀ t c temp, Does (.dieThermalShutdown t c false temp)
    (fun b => (b.cart (slotOf c)).powered = true ∧ 1700 ≤ temp ∧ (b.chan c).prot.dieFwd = false ∧ (b.chan c).prot.trip = .none ∧
      (b.cart (slotOf c)).cone.length < 16)
    (fun b u => Tripped c 0x13 u ∧ (u.chan c).prot.dieFwd = true ∧
      (∃ e, (u.cart (slotOf c)).cone = (b.cart (slotOf c)).cone ++ [e] ∧ e.die = 1 ∧ e.channel = numOf c ∧ e.peak = temp ∧
        e.onset = b.cartTime (slotOf c) ∧ e.bus = (b.cart (slotOf c)).busMv) ∧
      (∀ d, d ≠ c → u.chan d = b.chan d) ∧ OnlySlot (slotOf c) b u)) ∧
  (∀ t c temp, Does (.dieThermalShutdown t c true temp)
    (fun b => (b.cart (slotOf c)).powered = true ∧ 1700 ≤ temp ∧ (b.chan c).prot.dieFw = false ∧ (b.chan c).prot.trip = .none ∧
      16 ≤ (b.cart (slotOf c)).cone.length)
    (fun b u => Tripped c 0x13 u ∧ (u.chan c).prot.dieFw = true ∧ (u.cart (slotOf c)).cone = (b.cart (slotOf c)).cone ∧
      (u.cart (slotOf c)).coneLost.toList.sum = (b.cart (slotOf c)).coneLost.toList.sum + 1 ∧
      (∀ d, d ≠ c → u.chan d = b.chan d) ∧ OnlySlot (slotOf c) b u)) ∧
  (∀ t c temp, Does (.dieThermalExit t c false temp)
    (fun b => (b.cart (slotOf c)).powered = true ∧ temp < 1500 ∧ (b.chan c).prot.dieFwd = true)
    (fun b u => (u.chan c).prot.dieFwd = false ∧ (u.chan c).prot.dieExit = b.now ∧ (u.chan c).prot.trip = (b.chan c).prot.trip ∧
      (∀ d, d ≠ c → u.chan d = b.chan d) ∧ OnlySlot (slotOf c) b u)) ∧
  (∀ t k w e, Does (.coneCollect t k)
    (fun b => b.active = some w ∧ b.holds w k = true ∧ (b.cart k).powered = true ∧ (b.cart k).cone = [e] ∧ e.sent = false ∧ e.lasted = none ∧
      (b.cart k).coneLost = Vector.replicate 8 0 ∧ (b.ctl w).mram.cone.entries.length < 1024)
    (fun b u =>
      let x := (b.ctl w).mram.cone
      let y := (u.ctl w).mram.cone
      (∃ f, y.entries = x.entries ++ [f] ∧ f.index = x.next ∧ f.onset = e.onset ∧ f.peak = e.peak ∧ f.channel = e.channel ∧ f.lasted = none) ∧
      y.next = (x.next + 1) % 2 ^ 32 ∧ y.missed = x.missed ∧ (u.cart k).cone = [{ e with sent := true, index := x.next }] ∧ u.chans = b.chans))

/-- R121 to R125, R129, R147, R152, R899: a controller's supplies. An input takes its state from its voltage, with 0.5 V of hysteresis; below 16 V a
dip begins, and one that ends within 15 ms is only logged; a longer one flushes the controller, as far as the hold-up of its charge goes, and holds
it in reset, with the cut marked where the store runs out; a store that runs out leaves the next start a power-on, and before firmware running nothing
but the boot record can be cut. Nothing else in the unit changes. R130 to R135, R148, R150, R430: the backup cell and the controller's
die. Insertion begins the qualification, whose end is what the contact and the voltage give; a precharge qualifies at 1.5 V and fails after 2 h; a
removal stops the charger; a load test passes at 2.1 V with a drop of at most 0.15 V; the charger passes from constant current to constant voltage and
off; above 2.95 V it is off for good; at 135 °C the core loses its supply. -/
def Obligations.SuppliesAct : Prop :=
  (∀ t c i mv, Does (.logicInputState t c i mv)
    (fun b => (b.ctl c).fitted = true)
    (fun b u => (u.ctl c).sup.logicMv[i] = mv ∧ (u.ctl c).sup.logicSt[i] = logicState ((b.ctl c).sup.logicSt[i]) mv ∧
      (18500 ≤ mv → (u.ctl c).sup.logicSt[i] = 2) ∧ (mv < 14500 → (u.ctl c).sup.logicSt[i] = 0) ∧
      (u.ctl c).sup.railMv = max ((u.ctl c).sup.logicMv[(0 : Fin 2)]) ((u.ctl c).sup.logicMv[(1 : Fin 2)]) ∧ OnlyCtlLog c b u)) ∧
  (∀ t c mv store, Does (.logicRailDipOnset t c mv store)
    (fun b => (b.ctl c).powered = true ∧ (b.ctl c).sup.lowSince = none ∧ mv < 16000)
    (fun b u => (u.ctl c).sup.lowSince = some b.now ∧ (u.ctl c).sup.railMv = mv ∧ (u.ctl c).sup.store = min 1000 store ∧ (u.ctl c).sup.onCell = (b.ctl c).sup.connected ∧
      u.ctl c = { b.ctl c with sup := (u.ctl c).sup } ∧ OnlyCtl c b u)) ∧
  (∀ t c mv a, Does (.logicDip t c mv)
    (fun b => (b.ctl c).sup.lowSince = some a ∧ (b.ctl c).powered = true ∧ b.now ≤ a + 15000000)
    (fun b u => (u.ctl c).sup.lowSince = none ∧ (u.ctl c).sup.onCell = false ∧ (u.ctl c).role = (b.ctl c).role ∧ OnlyCtlLog c b u)) ∧
  (∀ t c a, Does (.powerFail t c)
    (fun b => (b.ctl c).sup.lowSince = some a ∧ (b.ctl c).powered = true ∧ (b.ctl c).sup.failing = false ∧ a + 15000000 < b.now ∧
      (b.ctl c).role ≠ .booting ∧ (b.ctl c).mram.slots = [])
    (fun b u =>
      let held := 50000000 ≤ 60000000 * (b.ctl c).sup.store / 1000
      (u.ctl c).powered = false ∧ (u.ctl c).role = .booting ∧ (u.ctl c).sup.step7At = b.now ∧
      (held → (u.ctl c).sup.failing = true ∧ (u.ctl c).mram.cut = false) ∧
      (¬held → (u.ctl c).sup.failing = false ∧ (u.ctl c).mram.cut = true ∧ (u.ctl c).sup.store = 0) ∧
      (u.ctl c).mram.items = (b.ctl c).mram.items ∧ (u.ctl c).mram.hosts = (b.ctl c).mram.hosts ∧ OnlyCtlMode c b u)) ∧
  (∀ t c a, Does (.powerFail t c)
    (fun b => (b.ctl c).sup.lowSince = some a ∧ (b.ctl c).powered = true ∧ (b.ctl c).sup.failing = false ∧ a + 15000000 < b.now ∧
      (b.ctl c).role = .booting)
    (fun b u => (u.ctl c).powered = false ∧ (u.ctl c).mram = { (b.ctl c).mram with boot := (u.ctl c).mram.boot } ∧ OnlyCtlMode c b u)) ∧
  (∀ t c n a, Does (.holdupExhausted t c n)
    (fun b => (b.ctl c).sup.lowSince = some a ∧ (b.ctl c).powered = true ∧ (b.ctl c).mram.slots = [] ∧
      a + 60000000 * (b.ctl c).sup.store / 1000 ≤ b.now)
    (fun b u => (u.ctl c).powered = false ∧ (u.ctl c).role = .booting ∧ ((b.ctl c).role ≠ .booting → (u.ctl c).mram.cut = true) ∧
      (u.ctl c).sup.store = 0 ∧ OnlyCtlMode c b u)) ∧
  (∀ t c, Does (.holdupCharged t c)
    (fun b => (b.ctl c).powered = true)
    (fun b u => (u.ctl c).sup.store = 1000 ∧ (u.ctl c).mram.charging = false ∧ OnlyCtl c b u)) ∧
  (∀ t c ms, Does (.holdupPrediction t c ms)
    (fun b => (b.ctl c).fitted = true ∧ (b.ctl c).powered = true ∧ ∀ a, (b.ctl c).sup.holdupAt = some a → a + 86400000000000 ≤ b.now)
    (fun b u => (u.ctl c).sup.holdup = ms ∧ (u.ctl c).sup.holdupAt = some b.now ∧ (u.ctl c).sup.holdupAl = ((b.ctl c).sup.holdupAl || decide (ms < 45)) ∧ OnlyCtlLog c b u)) ∧
  (∀ t c, Does (.cellInserted t c)
    (fun b => (b.ctl c).powered = true ∧ (b.ctl c).sup.cell = .absent)
    (fun b u => (u.ctl c).sup.cell = .qualifying ∧ (u.ctl c).sup.cellAt = b.now ∧ (u.ctl c).sup.charge = .off ∧ OnlyCtlLog c b u)) ∧
  (∀ t c ohm mv, Does (.cellQualificationEnd t c ohm mv)
    (fun b => (b.ctl c).powered = true ∧ (b.ctl c).sup.cell = .qualifying ∧ (b.ctl c).sup.cellAt + 5000000000 ≤ b.now)
    (fun b u => (1000000 < ohm → (u.ctl c).sup.cell = .absent) ∧
      (ohm < 20900 ∨ (23100 < ohm ∧ ohm ≤ 1000000) → (u.ctl c).sup.cell = .refused) ∧
      (20900 ≤ ohm → ohm ≤ 23100 → (mv < 800 ∨ 2850 < mv) → (u.ctl c).sup.cell = .refused) ∧
      (20900 ≤ ohm → ohm ≤ 23100 → 800 ≤ mv → mv < 1500 → (u.ctl c).sup.cell = .precharge) ∧
      (20900 ≤ ohm → ohm ≤ 23100 → 1500 ≤ mv → mv ≤ 2850 → (u.ctl c).sup.cell = .qualified) ∧ OnlyCtlLog c b u)) ∧
  (∀ t c mv, Does (.prechargeDone t c mv)
    (fun b => (b.ctl c).powered = true ∧ (b.ctl c).sup.cell = .precharge)
    (fun b u => (1500 ≤ mv → (u.ctl c).sup.cell = .qualified) ∧
      (mv < 1500 → (b.ctl c).sup.cellAt + 7200000000000 ≤ b.now → (u.ctl c).sup.cell = .failed) ∧
      (mv < 1500 → b.now < (b.ctl c).sup.cellAt + 7200000000000 → (u.ctl c).sup.cell = .precharge) ∧ OnlyCtlLog c b u)) ∧
  (∀ t c, Does (.cellRemoved t c)
    (fun b => (b.ctl c).sup.cell ≠ .absent)
    (fun b u => (u.ctl c).sup.cell = .absent ∧ (u.ctl c).sup.charge = .off ∧ (u.ctl c).sup.cellMv = 0 ∧
      ((b.ctl c).sup.onCell = true → (u.ctl c).sup.clockOk = false ∧ (u.ctl c).gnss.eph = []) ∧ OnlyCtlLog c b u)) ∧
  (∀ t c lo drop, Does (.cellLoadTest t c lo drop)
    (fun b => (b.ctl c).powered = true ∧ (b.ctl c).sup.lowSince = none ∧ (b.ctl c).sup.connected = true ∧
      (b.ctl c).sup.loadAt + 86470000000000 ≤ b.now)
    (fun b u => (2100 ≤ lo → drop ≤ 150 → (u.ctl c).sup.cell = .qualified ∧ (u.ctl c).sup.loadTest = 1) ∧
      (lo < 2100 ∨ 150 < drop → (u.ctl c).sup.cell = .weak ∧ (u.ctl c).sup.loadTest = 2) ∧
      (u.ctl c).sup.loadAt = (b.ctl c).sup.loadAt + (b.now - (b.ctl c).sup.loadAt) / 86400000000000 * 86400000000000 ∧ OnlyCtlLog c b u)) ∧
  (∀ t c mv ua, Does (.chargerControl t c mv ua)
    (fun b => (b.ctl c).powered = true ∧ (b.ctl c).sup.connected = true ∧ (b.ctl c).sup.chargeAl = false ∧ (b.ctl c).sup.lowSince = none ∧
      b.loadDue c = false)
    (fun b u => ((b.ctl c).sup.charge ≠ .off → 2900 ≤ mv → ua < 200 → (u.ctl c).sup.cell = .absent) ∧
      ((b.ctl c).sup.charge ≠ .off → (u.ctl c).sup.cellMv = min 2900 mv) ∧
      (mv < 2900 ∨ 200 ≤ ua → (b.ctl c).sup.charge = .constCurrent → (u.ctl c).sup.charge = (if 2800 ≤ mv then .constVoltage else .constCurrent)) ∧
      (mv < 2900 ∨ 200 ≤ ua → (b.ctl c).sup.charge = .constVoltage → (u.ctl c).sup.charge = (if ua < 800 then .off else .constVoltage)) ∧
      ((b.ctl c).sup.charge = .off → (u.ctl c).sup.charge = (if mv < 2600 then .constCurrent else .off)) ∧ OnlyCtlLog c b u)) ∧
  (∀ t c mv ua, Does (.chargerControl t c mv ua)
    (fun b => b.loadDue c = true)
    (fun b u => u = b)) ∧
  (∀ t c mv, Does (.chargerFault t c mv)
    (fun b => (b.ctl c).running = true ∧ 2950 < mv)
    (fun b u => (u.ctl c).sup.chargeAl = true ∧ (u.ctl c).sup.charge = .off ∧ OnlyCtlLog c b u)) ∧
  (∀ t c temp, Does (.ctrlTsd t c temp)
    (fun b => (b.ctl c).powered = true ∧ 1350 ≤ temp)
    (fun b u => (u.ctl c).powered = false ∧ (u.ctl c).role = .booting ∧
      (16000 ≤ (b.ctl c).sup.railMv ∨ (b.ctl c).sup.connected = true → (u.ctl c).sup.tsd = some ((b.now : Int) + (b.ctl c).sup.rtcOff)) ∧
      (u.ctl c).sup.tsdOff = true ∧ (u.ctl c).mram = (b.ctl c).mram ∧ OnlyCtlMode c b u))

/-- R460 to R470, R483, R486: the loop outputs. An update tells the ACTIVE controller's stage the current of its source: none for OFF, the failure level
for a source without a value; TAKE passes the loops from one controller's stages to the other's, and a stage left alone for 10 ms stops; COMPLIANCE
begins 50 ms after a shortfall and ends 1 s after it, or with ten predictions of 8.5 V in a row; a stage away from its command for 100 ms with the
voltage to drive it is at fault and sinks nothing; the host's current ages. -/
def Obligations.LoopOutputsAct : Prop :=
  (∀ t q c, Does (.loopUpdate t q)
    (fun b => b.active = some c ∧ (b.ctl c).running = true ∧ (b.ctl c).take = true ∧ (b.ctl c).sup.failing = false)
    (fun b u =>
      let x := (b.loop q).stages[c.ix]
      let y := (u.loop q).stages[c.ix]
      y.live = true ∧ y.cmd = b.loopUa c q ∧ y.updAt = b.now ∧ y.compl = x.compl ∧
      (b.itemAt c 0x0301 (q.val + 1) = 0 → y.cmd = 0) ∧
      (b.itemAt c 0x0301 (q.val + 1) = 9 → (b.loop q).hostOld = true → y.cmd = if b.itemAt c 0x0306 (q.val + 1) = 1 then 21500 else 3500) ∧
      (x.fault = true → y.sink = 0) ∧
      (x.fault = false → x.compl = .none → y.sink = y.cmd) ∧
      (x.fault = false → x.compl ≠ .none → y.cmd ≠ 0 → y.sink = if b.itemAt c 0x0305 (q.val + 1) = 1 then 3500 else y.cmd) ∧ OnlyStage c q b u)) ∧
  (∀ t c, Does (.take t c)
    (fun b => (b.ctl c).running = true ∧ (b.ctl c).role = .active ∧ (b.ctl c).ready = true ∧ (b.ctl c).take = false)
    (fun b u => (∀ q : Quad,
        let x := (u.loop q).stages[c.ix]
        let y := (u.loop q).stages[c.other.ix]
        let old := (b.loop q).stages[c.other.ix]
        x.live = true ∧ x.ramp = some (b.now, true) ∧ x.updAt = b.now ∧ x.cmd = b.loopUa c q ∧ x.fault = false ∧
        (old.live = true → x.compl = old.compl ∧ y.sink = 0 ∧ y.ramp = some (b.now, false) ∧ y.from_ = old.sinkAt b.now) ∧
        y.live = false ∧ y.fault = false) ∧
      Ctlr.Logged { b.ctl c with take := true } (u.ctl c) ∧ Ctlr.Logged (b.ctl c.other) (u.ctl c.other) ∧
      u = { b with loops := u.loops, ctlA := u.ctlA, ctlB := u.ctlB })) ∧
  (∀ t c q, Does (.loopStageTimeout t c q)
    (fun b => ((b.loop q).stages[c.ix]).live = true ∧ ((b.loop q).stages[c.ix]).updAt + 10000000 ≤ b.now)
    (fun b u => ((u.loop q).stages[c.ix]).live = false ∧ ((u.loop q).stages[c.ix]).sink = 0 ∧
      ((u.loop q).stages[c.ix]).ramp = some (b.now, false) ∧ ((u.loop q).stages[c.ix]).from_ = ((b.loop q).stages[c.ix]).sinkAt b.now ∧
      OnlyStage c q b u)) ∧
  (∀ t c q ua mv a, Does (.compliance t c q ua mv)
    (fun b =>
      let x := (b.loop q).stages[c.ix]
      x.live = true ∧ (b.ctl c).running = true ∧ x.ramp.all (fun r => decide (r.1 + 5000000 ≤ b.now)) = true ∧ x.compl = .none ∧ ua + 50 < x.cmd ∧ mv ≤ 8500 ∧ x.shortSince = some a ∧
      a + 50000000 ≤ b.now)
    (fun b u => ((u.loop q).stages[c.ix]).compl = (if mv < 1000 then .loopOpen else .lowSupply) ∧
      ((u.loop q).stages[c.ix]).fault = ((b.loop q).stages[c.ix]).fault ∧ OnlyStageLog c q b u)) ∧
  (∀ t c q ua mv a, Does (.compliance t c q ua mv)
    (fun b =>
      let x := (b.loop q).stages[c.ix]
      x.live = true ∧ (b.ctl c).running = true ∧ x.ramp.all (fun r => decide (r.1 + 5000000 ≤ b.now)) = true ∧ x.compl ≠ .none ∧ b.itemAt c 0x0305 (q.val + 1) ≠ 1 ∧ x.cmd ≤ ua + 50 ∧
      mv ≤ 8500 ∧ x.shortSince = some a ∧ a + 1000000000 ≤ b.now)
    (fun b u => ((u.loop q).stages[c.ix]).compl = .none ∧ ((u.loop q).stages[c.ix]).fault = ((b.loop q).stages[c.ix]).fault ∧
      OnlyStageLog c q b u)) ∧
  (∀ t c q ua mv a, Does (.compliance t c q ua mv)
    (fun b =>
      let x := (b.loop q).stages[c.ix]
      x.live = true ∧ (b.ctl c).running = true ∧ x.ramp.all (fun r => decide (r.1 + 5000000 ≤ b.now)) = true ∧ x.compl = .none ∧ x.fault = false ∧
      (ua + 500 < x.cmd ∨ x.cmd + 500 < ua) ∧ 8500 < mv ∧ x.faultSince = some a ∧ a + 100000000 ≤ b.now)
    (fun b u => ((u.loop q).stages[c.ix]).fault = true ∧ ((u.loop q).stages[c.ix]).sink = 0 ∧ OnlyStageLog c q b u)) ∧
  (∀ t q mv35 mv36 c, Does (.loopProbe t q mv35 mv36)
    (fun b =>
      let x := (b.loop q).stages[c.ix]
      b.active = some c ∧ x.live = true ∧ x.compl ≠ .none ∧ b.itemAt c 0x0305 (q.val + 1) = 1 ∧ x.probeAt ≤ b.now)
    (fun b u =>
      let x := (b.loop q).stages[c.ix]
      let y := (u.loop q).stages[c.ix]
      (predictMv mv35 mv36 x.cmd < 8500 → y.compl = x.compl ∧ y.probes = 0) ∧
      (8500 ≤ predictMv mv35 mv36 x.cmd → x.probes < 9 → y.compl = x.compl ∧ y.probes = x.probes + 1) ∧
      (8500 ≤ predictMv mv35 mv36 x.cmd → 9 ≤ x.probes → y.compl = .none) ∧ OnlyStageLog c q b u)) ∧
  (∀ t q c, Does (.loopHostTmo t q)
    (fun b => b.active = some c ∧ b.item 0x0301 (q.val + 1) = 9 ∧ b.item 0x0307 (q.val + 1) ≠ 0 ∧
      (b.loop q).hostAt + b.item 0x0307 (q.val + 1) * 1000000000 ≤ b.now)
    (fun b u => u.loop q = { b.loop q with hostOld := true } ∧ (∀ p : Quad, p ≠ q → u.loop p = b.loop p) ∧ u = { b with loops := u.loops }))

/-- R471 to R480: the speed inputs. An edge is kept with its 10 ns tick; an evaluation takes the frequency of the edges and moves the state: IDLE while
the channel is not on, SPINUP at a START, RUNNING at a good frequency, and after 2 s below it one of the three bad states; the end of SPINUP classifies
by the current, STALLED above the stall current, STOPPED below the stop current, TACH_LOST between; a stall with TRIP trips the bound channels through the
journal; a signal out of range is an alarm until 10 s within it. -/
def Obligations.SpeedInputsAct : Prop :=
  (∀ t q c, Does (.tachEdge t q)
    (fun b => (b.ctl c).running = true)
    (fun b u => (u.tach q).edges = b.now / 10 * 10 :: (b.tach q).edges.filter (fun e => b.now ≤ e + 1000000000) ∧
      u.tach q = { b.tach q with edges := (u.tach q).edges } ∧ (∀ p : Quad, p ≠ q → u.tach p = b.tach p) ∧ u = { b with tachs := u.tachs })) ∧
  (∀ t q c, Does (.tachEvaluation t q)
    (fun b => (b.ctl c).running = true)
    (fun b u =>
      let f := tachFreq b.now (b.tach q).edges
      let good := (b.tach q).above = false ∧ b.item 0x0403 (q.val + 1) * 1000 ≤ f
      (u.tach q).freq = f ∧
      (b.tachOn q = false → (u.tach q).st = .idle) ∧
      (b.tachOn q = true → good → (b.tach q).st ≠ .lost → (u.tach q).st = .running) ∧
      (b.tachOn q = true → ¬ good → (b.tach q).spinAt < b.tachStart q → (u.tach q).st = .spinup ∧ (u.tach q).spinAt = b.tachStart q) ∧
      (b.tachOn q = true → ¬ good → b.tachStart q ≤ (b.tach q).spinAt → (b.tach q).st = .running →
        (∀ a, (b.tach q).lowSince = some a → a + 2000000000 ≤ b.now →
          (u.tach q).st = .stalled ∨ (u.tach q).st = .stopped ∨ (u.tach q).st = .lost) ∧
        ((b.tach q).lowSince = none → (u.tach q).st = .running ∧ (u.tach q).lowSince = some b.now)) ∧
      OnlyTachLog q b u)) ∧
  (∀ t q, Does (.tachSpinupEnd t q)
    (fun b => b.tachOn q = true ∧ (b.tach q).st = .spinup ∧ (b.tach q).sigCnt ≠ 0 ∧
      (b.tach q).spinAt + b.item 0x0404 (q.val + 1) * 100 * 1000000 ≤ b.now)
    (fun b u =>
      let ma := (b.tach q).sigSum / (b.tach q).sigCnt
      let stall := b.item 0x0405 (q.val + 1)
      let stop := b.item 0x0406 (q.val + 1)
      (u.tach q).st = (if stall ≠ 0 ∧ (stall * 100 : Nat) ≤ ma then .stalled else if ma < (stop * 10 : Nat) then .stopped else .lost) ∧
      OnlyTachLog q b u)) ∧
  (∀ t q c d, Does (.tachStall t q)
    (fun b => b.active = some c ∧ (b.tach q).st = .stalled ∧ b.item 0x0407 (q.val + 1) = 0 ∧ d ∈ b.tachChans q ∧ (b.chan d).prot.trip = .none ∧
      (b.ctl c).mram.swapping = false ∧ b.paired = true ∧ (∀ j ∈ (b.ctl c).mram.slots, ∀ e ∈ b.tachChans q, .act e 0x16 ∉ j.changes))
    (fun b u => (∃ j ∈ (u.ctl c).mram.slots, j.jsn = (b.ctl c).mram.jsn ∧ j.kind = 5 ∧ j.st = .prepared ∧
        j.changes = (b.tachChans q).map fun d => .act d 0x16) ∧
      (u.ctl c).mram.jsn = (b.ctl c).mram.jsn + 1 ∧ OnlyCtl c b u)) ∧
  (∀ t q c d, Does (.tachStall t q)
    (fun b => b.active = some c ∧ (b.tach q).st = .stalled ∧ b.item 0x0407 (q.val + 1) = 0 ∧ d ∈ b.tachChans q ∧ (b.chan d).prot.trip = .none ∧
      (b.ctl c).mram.swapping = false ∧ b.paired = false ∧ (b.ctl c).mram.slot (b.ctl c).mram.jsn = none ∧
      (∀ j ∈ (b.ctl c).mram.slots, ∀ e ∈ b.tachChans q, .act e 0x16 ∉ j.changes))
    (fun b u => (∀ e ∈ b.tachChans q, ((posOf e).val, 0x16) ∈ (u.ctl c).acts[slotOf e]) ∧ OnlyCtl c b u)) ∧
  (∀ t q above c a, Does (.tachOverrange t q above)
    (fun b => (b.ctl c).running = true ∧ (above = true ∨ above = false ∧ (b.tach q).above = true ∧ (b.tach q).rangeSince = some a))
    (fun b u => (above = true → (u.tach q).above = true ∧ (u.tach q).rangeSince = none) ∧
      (above = false → (u.tach q).above = !decide (a + 10000000000 ≤ b.now)) ∧
      u.tach q = { b.tach q with above := (u.tach q).above, rangeSince := (u.tach q).rangeSince } ∧ OnlyTachLog q b u))

/-- R491, R504, R507, R508, R512, R514, R519: what a bus port's PHY keeps. Evidence makes a QUIET port UP; 750 ms without it make it QUIET, with an
ARP request to PORT_WATCH, and 1 s, or a fault the PHY finds, DOWN; 5 s of evidence bring it UP again. Losses, collisions and bad frames are counted,
and their alarms, like those of strange traffic, stand and end by the times the spec gives. R493, R495, R496, R499, R500, R519: addresses. An ARP
request for an address the controller answers is learned and answered, a reply sends the datagram that waits (a frame that finds 16 queued is not
sent: log entry 76's reading of R517), and a frame that claims an address of
the unit is a conflict, against which the ACTIVE controller sends a gratuitous ARP. A request is repeated to the third, then the datagram is dropped;
an entry lasts 300 s. An echo is answered ten times a second; a new address takes effect 1 s after its reply. -/
def Obligations.PortsAndAddressesAct : Prop :=
  (∀ t c p, Does (.plcaBeacon t c p true)
    (fun b => b.listens c p = true)
    (fun b u =>
      let x := (b.ctl c).phy p
      let y := (u.ctl c).phy p
      y.beacon = true ∧ y.seenAt = some b.now ∧ y.st = (if x.st = .quiet then .up else x.st) ∧ u.out = [] ∧ OnlyPhy c p b u)) ∧
  (∀ t c p, Does (.plcaBeacon t c p false) (fun b => b.listens c p = true)
    (fun b u => u = { b with out := if b.access c p = .coordinator then [.beacon c p (b.itemAt c 0x0504 p.code)] else [] })) ∧
  (∀ t c p, Does (.beaconLoss t c p)
    (fun b => b.listens c p = true ∧ ((b.ctl c).phy p).beacon = true)
    (fun b u =>
      let x := (b.ctl c).phy p
      let y := (u.ctl c).phy p
      let n := (x.losses.filter fun a => b.now ≤ a + 60000000000 ∧ b.now ≤ a + 10000000000).length + 1
      y.beacon = false ∧ y.cnt.beacon = (x.cnt.beacon + 1) % 2 ^ 32 ∧
      y.degraded = (x.degraded || decide (b.itemAt c 0x0501 p.code = 1) && decide (3 ≤ n)) ∧ OnlyPhyLog c p b u)) ∧
  (∀ t c p, Does (.plcaDegradedClear t c p)
    (fun b => b.listens c p = true ∧ ((b.ctl c).phy p).degraded = true ∧ ∀ a ∈ ((b.ctl c).phy p).losses, a + 60000000000 ≤ b.now)
    (fun b u => ((u.ctl c).phy p).degraded = false ∧ OnlyPhyLog c p b u)) ∧
  (∀ t c p rate a, Does (.busCollisions t c p rate)
    (fun b => b.listens c p = true ∧ ((b.ctl c).phy p).collSince = some a)
    (fun b u =>
      let x := (b.ctl c).phy p
      let y := (u.ctl c).phy p
      let rate := if b.access c p = .csma then rate else 0
      y.cnt.coll = (x.cnt.coll + rate) % 2 ^ 32 ∧
      (x.collBad = false → (y.collBad = true ↔ 100 < rate ∧ a + 10000000000 ≤ b.now)) ∧
      (x.collBad = true → (y.collBad = false ↔ rate < 10 ∧ a + 60000000000 ≤ b.now)) ∧ OnlyPhyLog c p b u)) ∧
  (∀ t c p, Does (.rxFcs t c p)
    (fun b => b.listens c p = true)
    (fun b u => (u.ctl c).phy p = { (b.ctl c).phy p with
        cnt := { ((b.ctl c).phy p).cnt with rxFcs := (((b.ctl c).phy p).cnt.rxFcs + 1) % 2 ^ 32 } } ∧ u.out = [] ∧ OnlyPhy c p b u)) ∧
  (∀ t c p a, Does (.portQuiet t c p)
    (fun b => b.listens c p = true ∧ ((b.ctl c).phy p).st = .up ∧ ((b.ctl c).phy p).seenAt = some a ∧ a + 750000000 ≤ b.now)
    (fun b u => ((u.ctl c).phy p).st = .quiet ∧
      u.out = (if b.itemAt c 0x0505 p.code = 0 ∨ 16 ≤ ((b.ctl c).phy p).queued b.now then [] else [.arpRequest c p (b.itemAt c 0x0505 p.code)]) ∧ OnlyPhy c p b u)) ∧
  (∀ t c p diag a, Does (.portDown t c p diag)
    (fun b => b.listens c p = true ∧ ((b.ctl c).phy p).st ≠ .down ∧
      (diag = true ∨ ((b.ctl c).phy p).seenAt = some a ∧ a + 1000000000 ≤ b.now))
    (fun b u => ((u.ctl c).phy p).st = .down ∧ ((u.ctl c).phy p).txq = [] ∧
      ((u.ctl c).phy p).cnt.down = (((b.ctl c).phy p).cnt.down + 1) % 2 ^ 32 ∧
      ((b.ctl c).role = .active → ((u.ctl c).phy p).lost = true) ∧ OnlyPhyLog c p b u)) ∧
  (∀ t c p a e, Does (.portUp t c p)
    (fun b => b.listens c p = true ∧ ((b.ctl c).phy p).st = .down ∧ ((b.ctl c).phy p).upSince = some a ∧ a + 5000000000 ≤ b.now ∧
      ((b.ctl c).phy p).seenAt = some e ∧ b.now ≤ e + 1000000000)
    (fun b u => ((u.ctl c).phy p).st = .up ∧ ((b.ctl c).role = .active → ((u.ctl c).phy p).lost = false) ∧ OnlyPhyLog c p b u)) ∧
  (∀ t c p, Does (.strangerTrafficClear t c p)
    (fun b => b.listens c p = true ∧ ((b.ctl c).phy p).stranger = true ∧
      (((b.ctl c).phy p).drops.filter fun a => b.now < a + 60000000000).length < 10)
    (fun b u => ((u.ctl c).phy p).stranger = false ∧ OnlyPhyLog c p b u)) ∧
  (∀ t c, Does (.dupEntryExpiry t c)
    (fun _ => True)
    (fun b u => u.ctl c = { b.ctl c with dups := (b.ctl c).dups.filter fun d => b.now < d.at_ + 1000000000 } ∧ OnlyCtl c b u)) ∧
  (∀ t c p mac ip target a, Does (.arpFrame t c p 1 mac ip target)
    (fun b => b.listens c p = true ∧ (b.ctl c).addr p = some a ∧ ip ≠ a.unit ∧ ip ≠ a.ctrlA ∧ ip ≠ a.ctrlB ∧ b.answersAt c p target = true ∧
      ((b.ctl c).phy p).st ≠ .down ∧ ((b.ctl c).phy p).queued b.now + (((b.ctl c).phy p).waits.filter fun w => w.ip = ip).length < 16)
    (fun b u => .arpReply c p target (if target = a.unit then b.unitMac c else b.phyMac c p) mac ∈ u.out ∧
      (∃ e ∈ ((u.ctl c).phy p).arp, e.ip = ip ∧ e.mac = mac ∧ e.at_ = b.now) ∧ OnlyPhy c p b u)) ∧
  (∀ t c p mac ip target a, Does (.arpFrame t c p 2 mac ip target)
    (fun b => b.listens c p = true ∧ (b.ctl c).addr p = some a ∧ ip ≠ a.unit ∧ ip ≠ a.ctrlA ∧ ip ≠ a.ctrlB ∧ ((b.ctl c).phy p).st ≠ .down ∧
      ((b.ctl c).phy p).queued b.now + (((b.ctl c).phy p).waits.filter fun w => w.ip = ip).length ≤ 16)
    (fun b u => (∃ e ∈ ((u.ctl c).phy p).arp, e.ip = ip ∧ e.mac = mac ∧ e.at_ = b.now) ∧
      u.out = (((b.ctl c).phy p).waits.filter fun w => w.ip = ip).map (·.wait) ∧
      ((u.ctl c).phy p).waits = (((b.ctl c).phy p).waits.filter fun w => w.ip ≠ ip) ∧ OnlyPhy c p b u)) ∧
  (∀ t c p op mac ip target a, Does (.arpFrame t c p op mac ip target)
    (fun b => b.listens c p = true ∧ (b.ctl c).addr p = some a ∧ ip = a.unit ∧ mac ≠ b.unitMac c ∧ ((b.ctl c).phy p).conflict = none ∧
      (b.ctl c).role = .active ∧ ((b.ctl c).phy p).st ≠ .down ∧ ((b.ctl c).phy p).queued b.now < 16)
    (fun b u => ((u.ctl c).phy p).conflict = some b.now ∧ u.out = [.gratuitous c p a.unit (b.unitMac c)] ∧
      ((u.ctl c).phy p).garp = ((b.ctl c).phy p).garp ++ [b.now + 10000000000] ∧ OnlyPhyLog c p b u)) ∧
  (∀ t c p ip w, Does (.arpRetry t c p ip)
    (fun b => b.listens c p = true ∧ ((b.ctl c).phy p).waits.find? (fun w => w.ip = ip) = some w ∧ w.at_ + 100000000 ≤ b.now)
    (fun b u =>
      let x := (b.ctl c).phy p
      let y := (u.ctl c).phy p
      (w.tries < 3 → x.st ≠ .down → x.queued b.now < 16 → u.out = [.arpRequest c p ip] ∧ y.waits.length = x.waits.length ∧ y.cnt.arp = x.cnt.arp) ∧
      (3 ≤ w.tries → u.out = [] ∧ y.waits = (x.waits.filter fun v => v.ip ≠ ip) ∧ y.cnt.arp = (x.cnt.arp + 1) % 2 ^ 32) ∧ OnlyPhy c p b u)) ∧
  (∀ t c p, Does (.arpEntryExpiry t c p)
    (fun _ => True)
    (fun b u => (u.ctl c).phy p = { (b.ctl c).phy p with arp := ((b.ctl c).phy p).arp.filter fun e => b.now < e.at_ + 300000000000 } ∧
      u.out = [] ∧ OnlyPhy c p b u)) ∧
  (∀ t c p a g, Does (.gratuitousArp t c p)
    (fun b => b.listens c p = true ∧ (b.ctl c).role = .active ∧ g ∈ ((b.ctl c).phy p).garp ∧ g ≤ b.now ∧ (b.ctl c).addr p = some a ∧
      ((b.ctl c).phy p).st ≠ .down ∧ ((b.ctl c).phy p).queued b.now < 16)
    (fun b u => u.out = [.gratuitous c p a.unit (b.unitMac c)] ∧
      (((b.ctl c).phy p).conflict = none → ((u.ctl c).phy p).garp = ((b.ctl c).phy p).garp.filter fun g => b.now < g) ∧ OnlyPhy c p b u)) ∧
  (∀ t c p a, Does (.addrConflictCleared t c p)
    (fun b => b.listens c p = true ∧ ((b.ctl c).phy p).conflict = some a ∧ a + 60000000000 ≤ b.now)
    (fun b u => ((u.ctl c).phy p).conflict = none ∧ OnlyPhyLog c p b u)) ∧
  (∀ t c p ip dst id data a e, Does (.icmpEchoRequest t c p ip dst id data)
    (fun b => b.listens c p = true ∧ b.answersAt c p dst = true ∧ data.length ≤ 1472 ∧ (b.ctl c).addr p = some a ∧ a.near ip a.unit = true ∧ ip ≠ 0 ∧
      ((b.ctl c).phy p).st ≠ .down ∧ e ∈ ((b.ctl c).phy p).arp ∧ e.ip = ip ∧ b.now < e.at_ + 300000000000)
    (fun b u =>
      let n := (((b.ctl c).phy p).echoes.filter fun a => b.now < a + 1000000000).length
      (n < 10 → ((b.ctl c).phy p).queued b.now < 16 → u.out = [.echo c p dst ip id data]) ∧
      (10 ≤ n → u.out = [] ∧ ((u.ctl c).phy p).cnt.echo = (((b.ctl c).phy p).cnt.echo + 1) % 2 ^ 32) ∧ OnlyPhy c p b u)) ∧
  (∀ t c p x d y, Does (.addressChangeEffect t c)
    (fun b => (b.ctl c).running = true ∧ (b.ctl c).addrDue = [(p, x, d)] ∧ d ≤ b.now ∧ (b.ctl c).addrs = some y)
    (fun b u => (u.ctl c).addr p = some x ∧ (u.ctl c).addr p.other = (b.ctl c).addr p.other ∧ (u.ctl c).addrDue = [] ∧
      u.ctl c = { b.ctl c with addrs := (u.ctl c).addrs, addrDue := [] } ∧ OnlyCtl c b u))

/-- R497, R498, R501, R502, R504, R509, R510, R515, R530, R957, R958, R961: datagrams. One that is not for the unit, whose header is wrong or that is longer
than the MTU is counted in NOT_FOR_UNIT and dropped; a UDP datagram to port 48720 is a Syaskeg packet. The checks of R509 run in their order: a packet that
is no packet, a duplicate from the other port, an unknown key, an empty bucket and a wrong tag are each counted and dropped with no reply; what passes is
executed as its opcode's request, on the bus and on X50. -/
def Obligations.DatagramsAreChecked : Prop :=
  (∀ t c p src dst data, Does (.syaskegDatagram t c p src dst data)
    (fun b => b.listens c p = true ∧ (b.answersAt c p dst = false ∨ b.takes c p src.ip = false))
    (fun b u => ((u.ctl c).phy p).cnt.notFor = (((b.ctl c).phy p).cnt.notFor + 1) % 2 ^ 32 ∧ u.out = [] ∧ OnlyPhy c p b u)) ∧
  (∀ t c p src dst data, Does (.syaskegDatagram t c p src dst data)
    (fun b => b.listens c p = true ∧ b.takes c p src.ip = true ∧ b.serves c p dst = true ∧ packetOf data = none)
    (fun b u => ((u.ctl c).phy p).cnt.malformed = (((b.ctl c).phy p).cnt.malformed + 1) % 2 ^ 32 ∧ u.out = [] ∧ OnlyPhy c p b u)) ∧
  (∀ t c p src dst data k, Does (.syaskegDatagram t c p src dst data)
    (fun b => b.listens c p = true ∧ b.takes c p src.ip = true ∧ b.serves c p dst = true ∧ packetOf data = some k)
    (fun b u =>
      let x := (b.ctl c).phy p
      let y := (u.ctl c).phy p
      ((b.ctl c).dup p k b.now = true → y.cnt.dup = (x.cnt.dup + 1) % 2 ^ 32 ∧ u.out = [] ∧ OnlyPhy c p b u) ∧
      ((b.ctl c).dup p k b.now = false → (16 ≤ k.client ∨ (b.ctl c).key (clientOf k.client) k.gen b.now = none) →
        y.cnt.unknown = (x.cnt.unknown + 1) % 2 ^ 32 ∧ u.out = [] ∧ OnlyPhyLog c p b u) ∧
      (∀ g, (b.ctl c).dup p k b.now = false → k.client < 16 → (b.ctl c).key (clientOf k.client) k.gen b.now = some g →
        let known := x.knows (clientOf k.client) src.ip b.now
        let tokens := min 100000 ((if known then x.known else x.open_) + (b.now - x.refillAt) / 1000)
        (tokens < 1000 → y.cnt.budget = (x.cnt.budget + 1) % 2 ^ 32 ∧ u.out = [] ∧ OnlyPhyLog c p b u) ∧
        (1000 ≤ tokens → tagOf g.key k.head ≠ k.tag →
          y.cnt.tagFail = (x.cnt.tagFail + 1) % 2 ^ 32 ∧ u.out = [] ∧ OnlyPhyLog c p b u)))) ∧
  (∀ t c p src dst data k g a, Does (.syaskegDatagram t c p src dst data)
    (fun b => b.listens c p = true ∧ b.takes c p src.ip = true ∧ b.serves c p dst = true ∧ packetOf data = some k ∧ k.client < 16 ∧
      (b.ctl c).addr p = some a ∧ (b.ctl c).dup p k b.now = false ∧ (b.ctl c).key (clientOf k.client) k.gen b.now = some g ∧
      tagOf g.key k.head = k.tag ∧ bit k.flags 0 = false ∧ 1000 ≤ ((b.ctl c).phy p).known ∧ 1000 ≤ ((b.ctl c).phy p).open_ ∧
      (((b.useKey c (clientOf k.client) k.gen).ctl (b.winCtl c)).mram.window (clientOf k.client) k.seq (bit k.flags 3)) ≠ .drop)
    (fun b u => ∃ v : State,
      OnlyPhy c p b { v with ctlA := { v.ctlA with dups := b.ctlA.dups }, ctlB := { v.ctlB with dups := b.ctlB.dups } } ∧ v.out = [] ∧
      u = b.keep ((v.useKey c (clientOf k.client) k.gen).request k.opcode (k.request c (.bus p) (dst = a.unit) src false)))) ∧
  (∀ t c p mac data, Does (.ipv4Datagram t c p mac data)
    (fun b => b.listens c p = true ∧ (1500 < data.length ∨ headerOk data = false))
    (fun b u => ((u.ctl c).phy p).cnt.notFor = (((b.ctl c).phy p).cnt.notFor + 1) % 2 ^ 32 ∧ u.out = [] ∧ OnlyPhy c p b u)) ∧
  (∀ t c p mac data, Does (.ipv4Datagram t c p mac data)
    (fun b =>
      let src := field data 12 4
      let body := (data.take (field data 2 2)).drop 20
      b.listens c p = true ∧ data.length ≤ 1500 ∧ headerOk data = true ∧ mac ≠ b.unitMac c ∧ mac ≠ b.phyMac .a p ∧ mac ≠ b.phyMac .b p ∧ field data 9 1 = 17 ∧ field body 2 2 = 48720 ∧
      8 ≤ field body 4 2 ∧ field body 4 2 ≤ body.length ∧ udpOk src (field data 16 4) (body.take (field body 4 2)) = true ∧
      b.takes c p src = true ∧ b.answersAt c p (field data 16 4) = true)
    (fun b u =>
      let body := (data.take (field data 2 2)).drop 20
      execSyaskegDatagram b.now c p ⟨field data 12 4, field body 0 2⟩ (field data 16 4) ((body.take (field body 4 2)).drop 8) b = .next u)) ∧
  (∀ t c data, Does (.x50Transfer t c data)
    (fun b => b.x50.cable = true ∧ b.x50.ctl = some c ∧ b.x50.from_ ≤ b.now ∧ (b.ctl c).powered = true ∧ (b.ctl c).sup.failing = false ∧ packetOf data = none)
    (fun b u => u.x50.cnt = { b.x50.cnt with malformed := (b.x50.cnt.malformed + 1) % 2 ^ 32 } ∧ u = { b with x50 := u.x50 })) ∧
  (∀ t c data k g, Does (.x50Transfer t c data)
    (fun b => b.x50.cable = true ∧ b.x50.ctl = some c ∧ b.x50.from_ ≤ b.now ∧ (b.ctl c).powered = true ∧ (b.ctl c).sup.failing = false ∧
      packetOf data = some k ∧ k.client < 16 ∧ (b.ctl c).key (clientOf k.client) k.gen b.now = some g ∧ 1000 ≤ b.x50.tokens ∧
      tagOf g.key k.head = k.tag ∧ bit k.flags 0 = false ∧
      (((b.useKey c (clientOf k.client) k.gen).ctl (b.winCtl c)).mram.window (clientOf k.client) k.seq (bit k.flags 3)) ≠ .drop)
    (fun b u => ∃ x : X50, x = { b.x50 with tokens := x.tokens, fillAt := x.fillAt } ∧ x.tokens + 1000 = min 100000 (b.x50.tokens + (b.now - b.x50.fillAt) / 500) ∧
      u = b.keep ((({ b with x50 := x } : State).useKey c (clientOf k.client) k.gen).request k.opcode (k.request c .x50 false ⟨0, 0⟩ false))))

/-- R712, R713, R715, R717, R718, R723 to R727, R730, R738, R739, R741: unit time. A source whose condition has held for 10 s qualifies, SUSPECT for 10 min
where it is more than 1 ms off a time that another source governs; the ACTIVE controller takes its state from the source that governs, and no other
controller moves its time; the steering increment stays within its bound and moves at most once in 10 ms; a step moves unit time by the offset, between
10 ms and 190 ms after an edge; HOLDOVER ends in RTC after 4 h; an arbitration makes the losing source SUSPECT; an announced TAI−UTC takes effect at its
instant. -/
def Obligations.UnitTimeIsKept : Prop :=
  (∀ t c ptp a, Does (.sourceQualified t c ptp)
    (fun b =>
      let src := (b.ctl c).time.source (if ptp then 2 else 1)
      (b.ctl c).running = true ∧ src.ok = false ∧ (if ptp then b.ptpOk c else b.gnssOk c) = true ∧ src.since = some a ∧ a + 10000000000 ≤ b.now)
    (fun b u =>
      let code := if ptp then 2 else 1
      let src := (b.ctl c).time.source code
      let new := (u.ctl c).time.source code
      new.ok = true ∧ new.offset = src.offset ∧
      new.suspect = (if 1000000 < src.offset.natAbs ∧ (b.ctl c).time.st = .locked ∧ (b.ctl c).time.src ≠ code then some (b.now + 600000000000) else src.suspect) ∧
      (u.ctl c).time.source (3 - code) = (b.ctl c).time.source (3 - code) ∧ OnlyTime c b u)) ∧
  (∀ t c ptp, Does (.suspectExpiry t c ptp)
    (fun _ => True)
    (fun b u =>
      let code := if ptp then 2 else 1
      (∀ a, ((b.ctl c).time.source code).suspect = some a → a ≤ b.now → ((u.ctl c).time.source code).suspect = none) ∧
      (∀ a, ((b.ctl c).time.source code).suspect = some a → b.now < a → ((u.ctl c).time.source code).suspect = some a) ∧
      (u.ctl c).time.source (3 - code) = (b.ctl c).time.source (3 - code) ∧ OnlyTime c b u)) ∧
  (∀ t c, Does (.timeEvaluation t c)
    (fun b => (b.ctl c).running = true)
    (fun b u =>
      let x := (b.ctl c).time
      let y := (u.ctl c).time
      let j := (b.gnssIdle c).judge c
      let g := (j.ctl c).time.gnss.usable && (j.ctl c).time.ptp.usable
      ((b.ctl c).role ≠ .active → y.st = x.st ∧ y.src = x.src ∧ y.steer = x.steer ∧ y.off = x.off) ∧
      ((b.ctl c).role = .active → (j.ctl c).time.disagree = false → (g = true → (j.ctl c).time.arbAt = none) →
        y.src = j.governing c ∧ y.st = stateOfSrc y.src) ∧
      ((b.ctl c).role = .active → (j.ctl c).time.disagree = true → y.src = 3 ∧ y.st = .holdover) ∧
      (y.steer = x.steer ∨ -2147483 ≤ y.steer ∧ y.steer ≤ 2147483 ∧ ∀ a, x.steerAt = some a → a + 10000000 ≤ b.now) ∧
      Ctlr.Logged (b.ctl c.other) (u.ctl c.other) ∧ u = { b with ctlA := u.ctlA, ctlB := u.ctlB, free := u.free })) ∧
  (∀ t c a, Does (.holdoverExpiry t c)
    (fun b => (b.ctl c).running = true ∧ (b.ctl c).role = .active ∧ (b.ctl c).time.st = .holdover ∧ (b.ctl c).time.holdAt = some a ∧
      a + 14400000000000 ≤ b.now)
    (fun b u => (u.ctl c).time.st = .rtc ∧ (u.ctl c).time.src = 4 ∧ (u.ctl c).time.lockedAt = none ∧ OnlyTimeLog c b u)) ∧
  (∀ t c d old, Does (.timeStep t c)
    (fun b => (b.ctl c).time.stepDue = some (d, old) ∧ (b.ctl c).running = true ∧ (b.ctl c).role = .active ∧
      10000000 ≤ b.utime c % 1000000000 ∧ b.utime c % 1000000000 ≤ 190000000)
    (fun b u => u.utime c = b.utime c + d ∧ (u.ctl c).time.stepDue = none ∧ (u.ctl c).time.stepped = true ∧
      (u.ctl c).time.stepAt = some (b.utime c + d) ∧ (u.ctl c).time.gnss.offset = (b.ctl c).time.gnss.offset - d ∧
      (u.ctl c).time.ptp.offset = (b.ctl c).time.ptp.offset - d ∧ OnlyCtlLog c b u)) ∧
  (∀ t c one a, Does (.timeArbitration t c one)
    (fun b => (b.ctl c).time.arbAt = some a ∧ a ≤ b.now ∧ (b.ctl c).running = true ∧ (b.ctl c).role = .active ∧
      (b.ctl c).time.gnss.usable = true ∧ (b.ctl c).time.ptp.usable = true)
    (fun b u =>
      let x := (b.ctl c).time
      let y := (u.ctl c).time
      let jam := 80 ≤ (b.ctl c).gnss.l1.jam ∨ 80 ≤ (b.ctl c).gnss.l5.jam ∨ one = true
      let ptp := 7 ≤ x.ptpc.cls ∨ ∃ t, x.ptpc.changeAt = some t ∧ b.now < t + 10000000000
      (jam → y.gnss.suspect = some (b.now + 600000000000) ∧ y.ptp.suspect = none) ∧
      (¬ jam → ptp → y.ptp.suspect = some (b.now + 600000000000) ∧ y.gnss.suspect = none) ∧
      (y.gnss.suspect = some (b.now + 600000000000) ∧ y.ptp.suspect = none ∨ y.ptp.suspect = some (b.now + 600000000000) ∧ y.gnss.suspect = none) ∧
      y.arbAt = none ∧ y.apart = 0 ∧ OnlyTimeLog c b u)) ∧
  (∀ t c v w, Does (.taiUtcChange t c)
    (fun b => (b.ctl c).time.taiNext = some (v, w) ∧ (b.ctl c).running = true ∧ w ≤ b.utime c)
    (fun b u => (u.ctl c).time.tai = v ∧ (u.ctl c).time.taiNext = none ∧ (u.ctl c).mram.tai = some (v, w, none) ∧ u.utime c = b.utime c ∧ OnlyCtl c b u)) ∧
  (∀ t c a, Does (.timePairDiff t)
    (fun b => b.active = some c ∧ b.linkUp = true ∧ (b.ctl c.other).standby = true ∧ (b.ctl c).time.pairSince = some a)
    (fun b u =>
      let d := b.utime c.other - b.utime c
      let x := (b.ctl c).time
      let y := (u.ctl c).time
      y.pairDiff = some d ∧
      (x.pairBad = false → (y.pairBad = true ↔ 1000 < d.natAbs ∧ a + 1000000000 ≤ b.now)) ∧
      (x.pairBad = true → (y.pairBad = false ↔ d.natAbs < 500 ∧ a + 10000000000 ≤ b.now)) ∧ OnlyTimeLog c b u))

/-- R714, R719 to R721: PTP. A Sync of the master is timestamped to 10 ns; with it, or with its Follow_Up, the offset is the path delay less the
measured difference; a Delay_Req goes out at the master's interval, at most 16 in a second, and its response makes the path delay half the round trip;
the better data set becomes the master, and three silent announce intervals end it. R731 to R736, R740: PPS_OUT. The report of an edge is made once,
200 ms to 800 ms after the one before, and places it on the nearest of the taps of the delay line, so that the residual is at most half a tap and the
rounding of a picosecond; the edge comes at its whole second, in LOCKED and HOLDOVER only and not in the second after a step, and lasts 100 ms; two
calibrations outside 80 to 120 are a fault, and ten within it end it. -/
def Obligations.PtpAndPpsAct : Prop :=
  (∀ t c p m dom seq org, Does (.ptpSync t c p m dom seq true org)
    (fun b => b.fromMaster c p m dom = true)
    (fun b u => (u.ctl c).time.ptpc = { (b.ctl c).time.ptpc with sync := some (seq, b.utime c / 10 * 10) } ∧ OnlyCtl c b u)) ∧
  (∀ t c p m dom seq org d, Does (.ptpSync t c p m dom seq false org)
    (fun b => b.fromMaster c p m dom = true ∧ (b.ctl c).time.ptpc.delay = some d)
    (fun b u =>
      let off := d - (b.utime c / 10 * 10 - (org - 946684800000000000))
      (u.ctl c).time.ptp.offset = off ∧ (u.ctl c).time.ptpc.offs.head? = some (b.now, off) ∧ (u.ctl c).time.steer = (b.ctl c).time.steer ∧
      OnlyCtlLog c b u)) ∧
  (∀ t c p m dom seq org rx d, Does (.ptpFollowUp t c p m dom seq org)
    (fun b => b.fromMaster c p m dom = true ∧ (b.ctl c).time.ptpc.sync = some (seq, rx) ∧ (b.ctl c).time.ptpc.delay = some d)
    (fun b u =>
      let off := d - (rx - (org - 946684800000000000))
      (u.ctl c).time.ptp.offset = off ∧ (u.ctl c).time.ptpc.offs.head? = some (b.now, off) ∧ (u.ctl c).time.ptpc.sync = none ∧ OnlyCtlLog c b u)) ∧
  (∀ t c p m dom seq rx tx a, Does (.ptpDelayResp t c p m dom seq rx)
    (fun b => b.fromMaster c p m dom = true ∧ (b.ctl c).time.ptpc.req = some (seq, tx) ∧ (b.ctl c).time.ptpc.t21 = some a)
    (fun b u => (u.ctl c).time.ptpc = { (b.ctl c).time.ptpc with req := none, delay := some ((a + (rx - 946684800000000000 - tx)) / 2) } ∧
      OnlyCtl c b u)) ∧
  (∀ t c m, Does (.delayReq t c)
    (fun b =>
      let x := (b.ctl c).time.ptpc
      b.listens c x.bus = true ∧ b.itemAt c 0x0804 0 = 1 ∧ x.master = some m ∧ ((b.ctl c).phy x.bus).st ≠ .down ∧
      ((b.ctl c).phy x.bus).queued b.now < 16 ∧ ∀ a, x.reqAt = some a → a + max x.delayNs 62500000 ≤ b.now)
    (fun b u =>
      let x := (b.ctl c).time.ptpc
      u.out = [.delayReq c x.bus x.reqSeq] ∧
      (u.ctl c).time.ptpc = { x with req := some (x.reqSeq, b.utime c / 10 * 10), reqAt := some b.now, reqSeq := (x.reqSeq + 1) % 2 ^ 16 } ∧
      u.ctl c.other = b.ctl c.other ∧ OnlyCtlsOut b u)) ∧
  (∀ t c p (a : Announce), Does (.ptpAnnounce t c p a)
    (fun b => b.listens c p = true ∧ b.itemAt c 0x0804 0 = 1 ∧ a.domain = b.itemAt c 0x0805 0 ∧ -4 ≤ a.logSync ∧ a.logSync ≤ 1 ∧ 0 ≤ a.logAnn ∧
      a.logAnn ≤ 3)
    (fun b u =>
      let x := (b.ctl c).time.ptpc
      let y := (u.ctl c).time.ptpc
      let d := [a.pri1, a.cls, a.accNs, a.var, a.pri2, a.gm, a.steps, a.master]
      ((x.master = some a.master ∧ x.bus = p) ∨ x.master = none ∨ better d x.dataset = true →
        y.master = some a.master ∧ y.bus = p ∧ y.cls = a.cls ∧ y.dataset = d ∧ y.annAt = some b.now) ∧
      ((x.master ≠ some a.master ∨ x.bus ≠ p) → x.master ≠ none → better d x.dataset = false → y = x) ∧ OnlyCtlLog c b u)) ∧
  (∀ t c m a, Does (.ptpMasterLost t c)
    (fun b =>
      let x := (b.ctl c).time.ptpc
      (b.ctl c).running = true ∧ x.master = some m ∧ x.annAt = some a ∧ a + 3 * x.annNs ≤ b.now)
    (fun b u => (u.ctl c).time.ptpc.master = none ∧ (u.ctl c).time.ptp.ok = false ∧ (u.ctl c).time.ptpc.offs = [] ∧ OnlyTimeLog c b u)) ∧
  (∀ t c f, Does (.timeReport t c f)
    (fun b =>
      let ph := b.utime c % 1000000000
      (b.ctl c).running = true ∧ (b.ctl c).role = .active ∧ 200000000 ≤ ph ∧ ph ≤ 800000000 ∧
      ∀ r, (b.ctl c).time.report = some r → r.edge ≠ (b.utime c / 1000000000 + 1) * 1000000000)
    (fun b u => ∃ r : PpsReport,
      let x := (b.ctl c).time
      (u.ctl c).time.report = some r ∧ r.edge = (b.utime c / 1000000000 + 1) * 1000000000 ∧
      (f < 10000 → 80 ≤ x.nCal → x.nCal ≤ 120 → x.dlyFault = false → r.tap < x.nCal ∧ 2 * x.nCal * r.resid.natAbs ≤ 10000 + x.nCal) ∧
      (x.dlyFault = true → r.tap = 0 ∧ (f < 10000 → r.resid.natAbs ≤ 5000)) ∧
      (r.emit = true ↔ (x.st = .locked ∨ x.st = .holdover) ∧ (∀ a, x.stepAt = some a → a + 1000000000 ≤ r.edge) ∧
        (∀ a, x.lastPps = some a → a < r.edge)) ∧ (u.ctl c).time.stepped = false ∧ u.out = [] ∧ OnlyTime c b u)) ∧
  (∀ t c r, Does (.ppsEdge t c)
    (fun b =>
      let edge := b.utime c / 1000000000 * 1000000000
      (b.ctl c).running = true ∧ (b.ctl c).role = .active ∧ b.utime c < edge + 1000000 ∧ (b.ctl c).time.report = some r)
    (fun b u =>
      let x := (b.ctl c).time
      let edge := b.utime c / 1000000000 * 1000000000
      let fires := r.edge = edge ∧ r.emit = true ∧ (x.st = .locked ∨ x.st = .holdover) ∧ x.lastPps ≠ some edge
      (fires → u.out = [.pps c] ∧ (u.ctl c).time.ppsHigh = true ∧ (u.ctl c).time.ppsAt = b.now ∧ (u.ctl c).time.lastPps = some edge) ∧
      (¬ fires → u.out = [] ∧ (u.ctl c).time.ppsHigh = x.ppsHigh) ∧ OnlyTime c b u)) ∧
  (∀ t c, Does (.ppsPulseEnd t c)
    (fun b => (b.ctl c).time.ppsHigh = true ∧ (b.ctl c).time.ppsAt + 100000000 ≤ b.now)
    (fun b u => (u.ctl c).time = { (b.ctl c).time with ppsHigh := false } ∧ u.out = [] ∧ OnlyTime c b u)) ∧
  (∀ t c n, Does (.ppsDelayCalibration t c n)
    (fun b => (b.ctl c).running = true)
    (fun b u =>
      let x := (b.ctl c).time
      let y := (u.ctl c).time
      let good := 80 ≤ n ∧ n ≤ 120
      (good → y.nCal = n) ∧ (¬ good → y.nCal = x.nCal) ∧
      (x.dlyFault = false → (y.dlyFault = true ↔ ¬ good ∧ 1 ≤ x.calBad)) ∧
      (x.dlyFault = true → (y.dlyFault = false ↔ good ∧ 9 ≤ x.calGood)) ∧ OnlyTimeLog c b u))

/-- R749, R752, R754, R755, R758, R760 to R767, R773, R787, R793: the GNSS baseband. A frame whose check fails is counted and erased, and 100 ms without
one are a fault of the card; a search locks a free tracker at a peak 15 dB above the mean and 3 dB above the next; the other band locks within 500 ms or is
tried again 10 s later; a band weak for 1 s is lost, and a tracker with both bands lost for 10 s is free; a side peak above the prompt for 100 ms shifts the
replica by a chip; every epoch latches the records of the bands observed and makes a fix of at least four satellites; ephemeris and almanac are kept. -/
def Obligations.GnssTracks : Prop :=
  (∀ t c ok lim mag ppm a1 a5 dumps, Does (.sampleFrame t c ok lim mag ppm a1 a5 dumps)
    (fun b => (b.ctl c).running = true ∧ (b.ctl c).gnss.run = true ∧ b.ant.card = true)
    (fun b u =>
      let x := (b.ctl c).gnss
      let y := (u.ctl c).gnss
      (ok = true → y.frameAt = some b.now ∧ y.l1.agc = a1 ∧ y.l5.agc = a5 ∧ y.ppm = ppm ∧ y.sampleErr = x.sampleErr) ∧
      (ok = false → y.frameAt = x.frameAt ∧ y.sampleErr = min (2 ^ 32 - 1) (x.sampleErr + 1)) ∧
      (∀ a, x.frameAt = some a → a + 100000000 ≤ b.now → y.cardBad = true) ∧
      (y.cardBad = x.cardBad → ∀ k : Tracker, (∀ d ∈ dumps, d.trk ≠ k) → y.trk[k] = x.trk[k]) ∧
      (∀ (d : Dump) (sat : Nat), y.cardBad = x.cardBad → dumps = [d] → (x.trk[d.trk]).sat = some sat →
        (((x.trk[d.trk]).band d.band).lock = true → ((y.trk[d.trk]).band d.band).prompt = some d.p ∧ ((y.trk[d.trk]).band d.band).at_ = b.now ∧
          ((y.trk[d.trk]).band d.band).sync = (((x.trk[d.trk]).band d.band).sync || d.sync)) ∧
        (((x.trk[d.trk]).band d.band).lock = false → y.trk[d.trk] = x.trk[d.trk])) ∧ OnlyGnssLog c b u)) ∧
  (∀ t c k sat peak next code bin, Does (.acquisitionSearch t c k peak next code bin)
    (fun b => (b.ctl c).running = true ∧ (b.ctl c).gnss.searching = true ∧ ((b.ctl c).gnss.trk[k]).sat = none ∧ (b.candidates c).head? = some sat)
    (fun b u =>
      let x := (b.ctl c).gnss
      let y := (u.ctl c).gnss.trk[k]
      let z := y.band (firstBand sat)
      (b.sysOn c sat = true ∧ ∀ j : Tracker, (x.trk[j]).sat ≠ some sat) ∧
      (150 ≤ peak → next + 30 ≤ peak → y.sat = some sat ∧ z.lock = true ∧ z.code = ((code % (codeLen sat (firstBand sat) * 2 ^ 32) : Nat) : Int) ∧
        z.freq = x.centre (b.utime c) sat (firstBand sat) + ((bin.val : Int) - 20) * 500000000 ∧ sat ∉ (u.ctl c).gnss.failed) ∧
      (peak < 150 ∨ peak < next + 30 → y = x.trk[k] ∧ sat ∈ (u.ctl c).gnss.failed) ∧
      (u.ctl c).gnss.blocks = (if sat ∈ x.failed then 16 else 4) ∧ OnlyTrk c k b u)) ∧
  (∀ t c k sat peak next code bin a, Does (.acquisitionSearch t c k peak next code bin)
    (fun b =>
      let x := (b.ctl c).gnss.trk[k]
      (b.ctl c).running = true ∧ (b.ctl c).gnss.searching = true ∧ x.sat = some sat ∧ b.sysOn c sat = true ∧ (x.band (firstBand sat)).lock = false ∧
      (x.band (firstBand sat)).lostAt = some a ∧ b.now < a + 10000000000)
    (fun b u =>
      let x := (b.ctl c).gnss.trk[k]
      let y := (u.ctl c).gnss.trk[k]
      y.sat = some sat ∧ ((y.band (firstBand sat)).lock = true ↔ 150 ≤ peak ∧ next + 30 ≤ peak) ∧
      (150 ≤ peak → next + 30 ≤ peak → (y.band (firstBand sat)).freq = (x.band (firstBand sat)).freq + ((bin.val : Int) - 20) * 500000000) ∧
      y.band (firstBand sat).other = x.band (firstBand sat).other ∧ OnlyTrk c k b u)) ∧
  (∀ t c k locked cand cn0 sat a, Does (.handOver t c k locked cand cn0)
    (fun b =>
      let x := (b.ctl c).gnss.trk[k]
      (b.ctl c).running = true ∧ (b.ctl c).gnss.run = true ∧ x.sat = some sat ∧ (x.band (firstBand sat)).lock = true ∧
      (x.band (firstBand sat).other).lock = false ∧ x.handAt = some a)
    (fun b u =>
      let x := (b.ctl c).gnss.trk[k]
      let y := (u.ctl c).gnss.trk[k]
      (locked = true → b.now ≤ a + 500000000 → (y.band (firstBand sat).other).lock = true ∧ (y.band (firstBand sat).other).cn0 = cn0 ∧
        (y.band (firstBand sat).other).freq = scaleFreq (firstBand sat) (x.band (firstBand sat)).freq ∧
        (y.band (firstBand sat).other).code = carryCode sat (firstBand sat) ((x.band (firstBand sat)).carry sat (firstBand sat) b.now).code cand ∧
        y.handAt = none) ∧
      (locked = false → a + 500000000 ≤ b.now → y = { x with handAt := none, handRetry := some (b.now + 10000000000) }) ∧
      (locked = false → b.now < a + 500000000 → y = x) ∧ OnlyTrk c k b u)) ∧
  (∀ t c k r cn0 pli sat, Does (.lossOfLock t c k r cn0 pli)
    (fun b => (b.ctl c).running = true ∧ ((b.ctl c).gnss.trk[k]).sat = some sat ∧ (((b.ctl c).gnss.trk[k]).band r).lock = true)
    (fun b u =>
      let x := ((b.ctl c).gnss.trk[k]).band r
      let y := ((u.ctl c).gnss.trk[k]).band r
      let weak := cn0 < 2200 ∧ ∃ a, x.weak = some a ∧ a + 1000000000 ≤ b.now
      let loose := pli < 600 ∧ ∃ a, x.loose = some a ∧ a + 1000000000 ≤ b.now
      (weak ∨ loose → y.lock = false ∧ y.lostAt = some b.now ∧ y.slip = true) ∧ (¬ weak → ¬ loose → y.lock = true ∧ y.slip = x.slip) ∧
      ((u.ctl c).gnss.trk[k]).band r.other = ((b.ctl c).gnss.trk[k]).band r.other ∧ OnlyTrk c k b u)) ∧
  (∀ t c k r cn0 pli sat a d, Does (.lossOfLock t c k r cn0 pli)
    (fun b =>
      let x := (b.ctl c).gnss.trk[k]
      (b.ctl c).running = true ∧ x.sat = some sat ∧ x.l1.lock = false ∧ x.l5.lock = false ∧ x.l1.lostAt = some a ∧ x.l5.lostAt = some d ∧
      a + 10000000000 ≤ b.now ∧ d + 10000000000 ≤ b.now)
    (fun b u => (u.ctl c).gnss.trk[k] = {} ∧ OnlyTrk c k b u)) ∧
  (∀ t c k late side prompt sat, Does (.sidePeakShift t c k late side prompt)
    (fun b => (b.ctl c).running = true ∧ ((b.ctl c).gnss.trk[k]).sat = some sat ∧ bit sat 6 = true ∧ ((b.ctl c).gnss.trk[k]).l1.lock = true)
    (fun b u =>
      let x := ((b.ctl c).gnss.trk[k]).l1
      let y := ((u.ctl c).gnss.trk[k]).l1
      (∀ a, prompt < side → x.sideSince = some a → a + 100000000 ≤ b.now →
        y.slip = true ∧ y.sideSince = none ∧ y.code = (x.code + if late then -4294967296 else 4294967296) % (4092 * 2 ^ 32 : Nat)) ∧
      (side ≤ prompt → y = { x with sideSince := none }) ∧ ((u.ctl c).gnss.trk[k]).l5 = ((b.ctl c).gnss.trk[k]).l5 ∧ OnlyTrk c k b u)) ∧
  (∀ t c sat ref healthy, Does (.ephemerisDecoded t c sat ref healthy true)
    (fun b => (b.ctl c).running = true ∧ (b.ctl c).gnss.run = true)
    (fun b u => (u.ctl c).gnss.eph = ((b.ctl c).gnss.eph.filter fun e => e.sat ≠ sat) ++
        [{ sat := sat, at_ := b.utime c, ref := ref, healthy := healthy }] ∧ (u.ctl c).gnss.ephLost = false ∧ OnlyGnssLog c b u)) ∧
  (∀ t c sat ref healthy, Does (.ephemerisDecoded t c sat ref healthy false) (fun _ => True) (fun b u => u = b)) ∧
  (∀ t c tai, Does (.almanacWrite t c tai)
    (fun b => (b.ctl c).running = true ∧ (b.ctl c).gnss.run = true ∧ ∀ a, (b.ctl c).gnss.almAt = some a → a + 600000000000 ≤ b.now)
    (fun b u => (u.ctl c).gnss.alm = true ∧ (u.ctl c).gnss.almAt = some b.now ∧ (u.ctl c).gnss.almLost = false ∧
      (u.ctl c).gnss.floors = some ((b.ctl c).gnss.l1.floor, (b.ctl c).gnss.l5.floor) ∧
      (∀ v, tai = some v → (u.ctl c).time.gnss.tai = some v.1 ∧ (u.ctl c).time.gnss.next = v.2) ∧
      (tai = none → (u.ctl c).time = (b.ctl c).time) ∧ OnlyGnssLog c b u)) ∧
  (∀ t c obs, Does (.measurementEpoch t c obs)
    (fun b => (b.ctl c).running = true ∧ (b.ctl c).gnss.run = true ∧ b.ant.card = true ∧ (b.ctl c).gnss.cardBad = false ∧
      ∀ a, (b.ctl c).gnss.epochAt = some a → a < epochOf (b.utime c) (b.ctl c).gnss.rate)
    (fun b u =>
      let x := (b.ctl c).gnss
      let y := (u.ctl c).gnss
      let at_ := epochOf (b.utime c) x.rate
      y.epochAt = some at_ ∧ y.fix.time = at_ ∧ (y.fix.code = 2 → 4 ≤ y.fix.sats) ∧ (obs = [] → y.fix.code = 0 ∧ y.clock = none) ∧
      (∀ (k : Tracker) (sat : Nat), (x.trk[k]).sat = some sat → b.sysOn c sat = false → (y.trk[k]).sat = none) ∧
      (∀ (k : Tracker) (sat : Nat) (r : Band), (x.trk[k]).sat = some sat → b.sysOn c sat = true → (y.trk[k]).sat = some sat ∧
        ((((x.trk[k]).band r).lock = true ∨ ((x.trk[k]).band r).lostAt ≠ none) → ((y.trk[k]).band r).slip = false ∧ ((y.trk[k]).band r).record =
          some (trkRecord k r sat ((((x.trk[k]).band r).carry sat r b.now).move r (at_ - b.utime c)) (obs.find? fun o => o.trk = k ∧ o.band = r)
            ((b.ctl c).time.st = .unset) b.now)) ∧
        (((x.trk[k]).band r).lock = false → ((x.trk[k]).band r).lostAt = none → ((y.trk[k]).band r).record = none)) ∧ OnlyGnssLog c b u))

/-- R673, R774 to R777, R780 to R786, R793, R795: notches, jamming, captures and the card. The indicator is the power above the floor, held to one
byte; the third spectrum with the same line engages a notch of at least 35 dB, and a disabled band has none; a failed FFT test stops the baseband; the
card's removal stops both basebands, and its insertion starts them; a capture becomes a file of 64 bytes and its samples, or of 624 bytes with the
results. R100, R101: the antenna's bias. Below 3 mA for 1 s the antenna is open, above 5 mA for 1 s no more; at 60 mA for 100 ms it is short, and the
bias is off for 10 s, then applied again; 1 s without the limit ends the short. -/
def Obligations.GnssAndAntennaAreGuarded : Prop :=
  (∀ t c r khz above t0 t1 power, Does (.spectralMonitor t c r khz above t0 t1 power)
    (fun b => (b.ctl c).running = true ∧ (b.ctl c).gnss.run = true)
    (fun b u =>
      let x := (b.ctl c).gnss.band r
      let y := (u.ctl c).gnss.band r
      (y.jam : Int) = max 0 (min 255 (power - y.floor)) ∧ y.en = x.en ∧
      (x.cls = .clear → y.cls = if 160 ≤ y.jam then .jamming else if 80 ≤ y.jam then .interference else .clear) ∧
      (x.en = false → y.n0 = {} ∧ y.n1 = {}) ∧
      (x.en = true → x.n0.on = false → x.n1.on = false → 120 ≤ above → 2 ≤ x.count → y.n0.on = true ∧ y.n0.khz = khz ∧ 35 ≤ y.n0.depth ∧ y.n1.on = false) ∧
      (x.en = true → x.n0.on = false → x.n1.on = false → above < 120 → y.n0.on = false ∧ y.n1.on = false ∧ y.count = 0) ∧
      (u.ctl c).gnss.band r.other = (b.ctl c).gnss.band r.other ∧ OnlyGnssLog c b u)) ∧
  (∀ t c r on, Does (.notchEnable t c r on)
    (fun b => (b.ctl c).running = true ∧ (b.ctl c).role = .active)
    (fun b u =>
      let y := (u.ctl c).gnss.band r
      y.en = on ∧ (on = false → y.n0 = {} ∧ y.n1 = {}) ∧ (u.ctl c).gnss.band r.other = (b.ctl c).gnss.band r.other ∧
      (u.ctl c).directAl = (!(u.ctl c).scrubEn || !(u.ctl c).gnss.l1.en || !(u.ctl c).gnss.l5.en) ∧ OnlyCtlLog c b u)) ∧
  (∀ t c pass, Does (.fftSelfTest t c pass)
    (fun b => (b.ctl c).running = true ∧ (b.ctl c).gnss.fault = false ∧ ∀ a, (b.ctl c).gnss.fftAt = some a → a + 86400000000000 ≤ b.now)
    (fun b u =>
      let y := (u.ctl c).gnss
      y.fftAt = some b.now ∧ (pass = true → y.fault = false ∧ y.run = (b.ctl c).gnss.run) ∧
      (pass = false → y.fault = true ∧ y.run = false ∧ y.trk = Vector.replicate 32 {} ∧ y.fix.code = 0) ∧ OnlyGnssLog c b u)) ∧
  (∀ t, Does (.gnssCardPresence t false)
    (fun b => b.ant.card = true)
    (fun b u => u.ant = { card := false } ∧
      (∀ c, (b.ctl c).running = true → (u.ctl c).gnss.run = false ∧ (u.ctl c).gnss.cardBad = true ∧ (u.ctl c).gnss.trk = Vector.replicate 32 {}) ∧
      u = { b with ant := u.ant, ctlA := u.ctlA, ctlB := u.ctlB })) ∧
  (∀ t, Does (.gnssCardPresence t true)
    (fun b => b.ant.card = false)
    (fun b u => u.ant.card = true ∧
      (∀ d, b.active = some d → (b.ctl d).powered = true → b.ant.reapply = none → u.ant.bias = b.itemAt d 0x0802 0) ∧
      (∀ c, (b.ctl c).running = true → (u.ctl c).gnss.run = !(b.ctl c).gnss.fault ∧ (u.ctl c).gnss.cardBad = false) ∧
      u = { b with ant := u.ant, ctlA := u.ctlA, ctlB := u.ctlB })) ∧
  (∀ t c data r, Does (.snapStored t c data)
    (fun b => (b.ctl c).running = true ∧ (b.ctl c).gnss.snapRun = some r ∧ r.stored = false ∧ r.start + (r.len * 1000000 : Nat) ≤ b.utime c)
    (fun b u =>
      let y := (u.ctl c).gnss
      (r.proc = 1 → y.snapRun = none ∧ ∃ f, y.snapHeld = some f ∧ f.id = r.id ∧ f.stored = true ∧
        f.file.length = 64 + 10230 * r.len * ((if r.b1 then 1 else 0) + (if r.b5 then 1 else 0))) ∧
      (r.proc ≠ 1 → y.snapHeld = (b.ctl c).gnss.snapHeld ∧ ∃ q, y.snapRun = some q ∧ q.id = r.id ∧ q.stored = true ∧ q.req = none) ∧
      (r.req = none → OnlyGnssLog c b u))) ∧
  (∀ t c found r, Does (.snapProcessed t c found)
    (fun b => (b.ctl c).running = true ∧ (b.ctl c).gnss.snapRun = some r ∧ r.stored = true)
    (fun b u => (u.ctl c).gnss.snapRun = none ∧
      (∃ f, (u.ctl c).gnss.snapHeld = some f ∧ f.id = r.id ∧ f.stored = true ∧ f.file.length = 624) ∧ OnlyGnssLog c b u)) ∧
  (∀ t c, Does (.scheduledCapture t c)
    (fun b => (b.ctl c).running = true ∧ (b.ctl c).role = .active ∧ (b.ctl c).gnss.run = true ∧ b.itemAt c 0x0814 0 ≠ 0)
    (fun b u =>
      let x := (b.ctl c).gnss
      let y := (u.ctl c).gnss
      let step : Int := ((b.itemAt c 0x0814 0 * 1000000000 : Nat) : Int)
      let at_ := b.utime c / step * step
      (x.schedAt = some at_ → u = b) ∧
      (x.schedAt ≠ some at_ → x.snapRun = none → (b.ctl c).time.st ≠ .unset → ∃ r, y.snapRun = some r ∧ r.id = x.snapId ∧ r.len = b.itemAt c 0x0813 0 ∧ r.b1 = true ∧
        r.b5 = true ∧ r.sched = true ∧ r.start = at_ ∧ r.proc = b.itemAt c 0x0815 0) ∧
      (x.snapRun ≠ none ∨ (b.ctl c).time.st = .unset → y = { x with schedAt := some at_ }) ∧ OnlyGnssLog c b u)) ∧
  (∀ t ma, Does (.antOpen t ma)
    (fun b => b.ant.card = true ∧ b.ant.bias ≠ 0 ∧ b.ant.open_ = false)
    (fun b u => u.ant.ma = ma ∧ u.ant.bias = b.ant.bias ∧
      (u.ant.open_ = true ↔ ma < 3 ∧ ∃ a, b.ant.openSince = some a ∧ a + 1000000000 ≤ b.now) ∧ OnlyAntLog b u)) ∧
  (∀ t ma, Does (.antOpenCleared t ma)
    (fun b => b.ant.card = true ∧ b.ant.open_ = true)
    (fun b u => u.ant.ma = ma ∧ (u.ant.open_ = false ↔ 5 < ma ∧ ∃ a, b.ant.openSince = some a ∧ a + 1000000000 ≤ b.now) ∧ OnlyAntLog b u)) ∧
  (∀ t ma, Does (.antShort t ma)
    (fun b => b.ant.card = true ∧ b.ant.bias ≠ 0 ∧ b.ant.short = false)
    (fun b u =>
      let hit := 60 ≤ ma ∧ ∃ a, b.ant.shortSince = some a ∧ a + 100000000 ≤ b.now
      (hit → u.ant.short = true ∧ u.ant.bias = 0 ∧ u.ant.reapply = some (b.now + 10000000000) ∧ u.ant.ma = 0) ∧
      (¬ hit → u.ant.short = false ∧ u.ant.bias = b.ant.bias ∧ u.ant.ma = ma) ∧ OnlyAntLog b u)) ∧
  (∀ t a, Does (.antBiasReapply t)
    (fun b => b.ant.card = true ∧ b.ant.reapply = some a ∧ a ≤ b.now)
    (fun b u => u.ant.reapply = none ∧ u.ant.short = b.ant.short ∧ u.ant.open_ = b.ant.open_ ∧
      (∀ d, b.active = some d → (b.ctl d).powered = true → u.ant.bias = b.itemAt d 0x0802 0) ∧ u = { b with ant := u.ant })) ∧
  (∀ t ma a, Does (.antShortCleared t ma)
    (fun b => b.ant.card = true ∧ b.ant.short = true ∧ b.ant.bias ≠ 0 ∧ ma < 60 ∧ b.ant.belowSince = some a ∧ a + 1000000000 ≤ b.now)
    (fun b u => u.ant = { b.ant with ma := ma, short := false, belowSince := none } ∧ OnlyAntLog b u)) ∧
  (∀ t ma, Does (.antShortCleared t ma)
    (fun b => b.ant.card = true ∧ b.ant.short = true ∧ b.ant.bias ≠ 0 ∧ 60 ≤ ma)
    (fun b u => u = { b with ant := { b.ant with ma := ma, belowSince := none } }))

/-- R506, R517, R530, R549, R569, R571, R572, R608: what ends by itself in sessions, and stream reports. A RETIRING key, a lease, a subscription and the
staging area end at their instants at every controller that runs, and no output changes; the standby follows the report sequences; a report takes the
next report sequence, goes out on the ports that take it, and is counted as lost where none does. -/
def Obligations.SessionsEndAndReport : Prop :=
  (∀ t cl, Does (.keyRetiringErase t cl)
    (fun _ => True)
    (fun b u => (∀ c, (b.ctl c).running = true →
        (u.ctl c).mram.client cl = { (b.ctl c).mram.client cl with
          keys := ((b.ctl c).mram.client cl).keys.filter fun k => k.st ≠ .retiring || decide (b.now < k.erase) } ∧
        ∀ i, i ≠ cl → (u.ctl c).mram.client i = (b.ctl c).mram.client i) ∧
      (∀ c, (b.ctl c).running = false → u.ctl c = b.ctl c) ∧ OnlyCtls b u)) ∧
  (∀ t ch, Does (.leaseExpiry t ch)
    (fun _ => True)
    (fun b u => (∀ c (l : Lease), (b.ctl c).running = true → (b.ctl c).mram.leases[ch] = some l →
        (u.ctl c).mram.leases[ch] = if l.stop ≤ b.utime c then none else some l) ∧
      (∀ c (d : Ch), d ≠ ch → (u.ctl c).mram.leases[d] = (b.ctl c).mram.leases[d]) ∧
      (∀ c, (b.ctl c).running = false → u.ctl c = b.ctl c) ∧ OnlyCtls b u)) ∧
  (∀ t cl h, Does (.subscriptionEnd t cl h)
    (fun _ => True)
    (fun b u => (∀ c, (b.ctl c).running = true →
        (u.ctl c).mram.client cl = { (b.ctl c).mram.client cl with
          subs := ((b.ctl c).mram.client cl).subs.filter fun y => y.handle ≠ h || decide (b.utime c < y.stop) } ∧
        ∀ i, i ≠ cl → (u.ctl c).mram.client i = (b.ctl c).mram.client i) ∧
      (∀ c, (b.ctl c).running = false → u.ctl c = b.ctl c) ∧ OnlyCtls b u)) ∧
  (∀ t st, Does (.stageHoldExpiry t)
    (fun b => (b.ctl b.lead).mram.staging = some st ∧ (b.ctl b.lead).running = true ∧ st.usedAt + 600000000000 ≤ b.now)
    (fun b u => (∀ c, (b.ctl c).running = true → (u.ctl c).mram.staging = none ∧ (u.ctl c).mram.items = (b.ctl c).mram.items) ∧ OnlyCtls b u)) ∧
  (∀ t c, Does (.reportSeqMirror t)
    (fun b => b.active = some c ∧ b.linkUp = true ∧ (b.ctl c.other).standby = true)
    (fun b u => (∀ i, ((u.ctl c.other).mram.client i).repSeq = ((b.ctl c).mram.client i).repSeq ∧
        ((u.ctl c.other).mram.client i).repLoss = ((b.ctl c).mram.client i).repLoss ∧
        (u.ctl c).mram.client i = { (b.ctl c).mram.client i with repMir := ((b.ctl c).mram.client i).repSeq }) ∧ OnlyCtls b u)) ∧
  (∀ t cl h c y key d, Does (.streamReport t cl h)
    (fun b => b.active = some c ∧ ((b.ctl c).mram.client cl).subs.find? (fun y => y.handle = h) = some y ∧
      ((b.ctl c).mram.client cl).current = some key ∧ (b.ctl c).sup.failing = false ∧ b.utime c < y.stop ∧ b.dueOf c y = some d)
    (fun b u =>
      let x := (b.ctl c).mram.client cl
      let z := (u.ctl c).mram.client cl
      let ports := ((b.ctl c).reportPorts cl b.now).filter fun e => (b.ctl c).takesReport e.1 b.now
      z.repSeq = (x.repSeq + 1) % 2 ^ 48 ∧
      z.subs = x.subs.map (fun w => if w.handle = h then { d.sub with first := false, sentAt := some b.now } else w) ∧
      (ports = [] → z.repLoss = (x.repLoss + 1) % 2 ^ 32 ∧ u.out = []) ∧
      (ports ≠ [] → z.repLoss = x.repLoss) ∧
      (∀ (p : Bus) (e : Endpoint) (a : PortAddr) (m : ArpEntry), ports = [(p, e)] → (b.ctl c).addr p = some a → a.near e.ip a.unit = true → e.ip ≠ 0 →
        m ∈ ((b.ctl c).phy p).arp → m.ip = e.ip → b.now < m.at_ + 300000000000 → u.out = [.report c p e (reportPacket key cl y x d)]) ∧
      (∀ i, i ≠ cl → (u.ctl c).mram.client i = (b.ctl c).mram.client i) ∧ u.ctl c.other = b.ctl c.other ∧ OnlyCtlsOut b u))

/-- R282, R634, R943 to R946, R954 to R957, R960, R963, R964, R966, R970, R672, R678: service. A debug halt freezes a cartridge's engine, and it resumes when
an end stands; an epoch reset acts at once, or at the end of a claim under way; an open lever takes its controller to SERVICE, at once where a standby is
there and 10 s later where none is, and its closing to ELECTING; the plug of this unit renews the identity copy and a foreign one is an alarm; S50 at RUN
ends every halt; X50 follows the ACTIVE controller, 200 ms after a change; SCRUB_EN, SCRUB_NOW and HS_SELFTEST_NOW do what their bits say. -/
def Obligations.ServiceActs : Prop :=
  (∀ t q k, Does (.debugHalt t q) (fun b => Passes hDebugHalt q b ∧ cartTarget q = some k)
    (fun b u =>
      let a := b.letIn q
      let d := (if field q.params 1 1 = 1 then a.halt k else a.resume k).see q.ctl k
      (u.cart k).frozen = decide (field q.params 1 1 = 1) ∧ AnsweredDone hDebugHalt q a d ((d.ctl q.ctl).stateList (chansOf k)) u)) ∧
  (∀ t q k, Does (.cartEpochReset t q) (fun b => Passes hCartEpochReset q b ∧ cartTarget q = some k)
    (fun b u =>
      let a := b.letIn q
      let st := ((b.ctl q.ctl).claims[k]).st
      (st = .idle ∨ st = .held → (u.cart k).epoch = 0 ∧ AnsweredDone hCartEpochReset q a (a.resetEpoch q.ctl k) (be 4 0) u) ∧
      (st = .requested ∨ st = .acked ∨ st = .sent → (u.cart k).epoch = (b.cart k).epoch ∧
        AnsweredDone hCartEpochReset q a (a.modClaim q.ctl k fun y => { y with reset := true }) (be 4 0) u))) ∧
  (∀ t k, Does (.debugResume t k)
    (fun _ => True)
    (fun b u => (b.haltEnds k = true → (u.cart k).frozen = false) ∧ (b.haltEnds k = false → u = b) ∧ OnlySlotLog k b u)) ∧
  (∀ t c, Does (.controllerLeverOpen t c)
    (fun b => (b.ctl c).fitted = true ∧ (b.ctl c).lever = false)
    (fun b u =>
      let x := b.ctl c
      let y := u.ctl c
      (x.running = false ∨ x.role = .service → y = { x with lever := true } ∧ OnlyCtl c b u) ∧
      (x.running = true → x.role = .active → b.hasStandby c = false ∨ x.mram.swapping = true →
        y = { x with lever := true, leverAt := some b.now } ∧ OnlyCtl c b u) ∧
      (x.running = true → x.role = .active → x.mram.slots = [] → b.hasStandby c = true →
        y.role = .service ∧ y.ready = false ∧ (∃ e, y.beatTx = some e ∧ e.relinq = true) ∧ OutputsKept b u) ∧
      (x.running = true → x.role ≠ .active → x.role ≠ .service → y.role = .service ∧ y.lever = true ∧ OutputsKept b u))) ∧
  (∀ t c a, Does (.leverWaitExpiry t c)
    (fun b => (b.ctl c).running = true ∧ (b.ctl c).role = .active ∧ (b.ctl c).leverAt = some a ∧ (b.ctl c).mram.slots = [] ∧
      (a + 10000000000 ≤ b.now ∨ b.hasStandby c = true))
    (fun b u => (u.ctl c).role = .service ∧ (u.ctl c).leverAt = none ∧ (u.ctl c).ready = false ∧ OutputsKept b u)) ∧
  (∀ t c, Does (.controllerLeverClose t c)
    (fun b => (b.ctl c).fitted = true ∧ (b.ctl c).lever = true)
    (fun b u => (u.ctl c).lever = false ∧ (u.ctl c).leverAt = none ∧
      ((b.ctl c).running = true → (b.ctl c).role = .service → (u.ctl c).role = .electing) ∧
      ((b.ctl c).role ≠ .service → (u.ctl c).role = (b.ctl c).role) ∧ OutputsKept b u)) ∧
  (∀ t c serial p i, Does (.codePlugCheck t c (.plug serial))
    (fun b => (b.ctl c).running = true ∧ b.plug = some p ∧ p.serial = serial ∧ p.ok = true ∧ p.blank = false ∧ (b.ctl c).mram.ident = some i)
    (fun b u => u.plug = some p ∧
      (i.serial = serial → (u.ctl c).mram.ident = some p ∧
        ∀ w, b.writer c = some w → (u.ctl w).alarmed 0x0009 c.code = (b.ctl c).mram.foreign ∧ (u.ctl w).alarmed 0x0008 0 = false) ∧
      (i.serial ≠ serial → (u.ctl c).mram.ident = some i ∧ ∀ w, b.writer c = some w → (u.ctl w).alarmed 0x0009 c.code = true) ∧ OutputsKept b u)) ∧
  (∀ t c serial p, Does (.codePlugCheck t c (.plug serial))
    (fun b => (b.ctl c).running = true ∧ b.plug = some p ∧ p.serial = serial ∧ p.ok = true ∧ p.blank = false ∧ (b.ctl c).mram.ident = none)
    (fun b u => u.plug = some p ∧ (u.ctl c).mram.ident = some p ∧ OutputsKept b u)) ∧
  (∀ t c, Does (.codePlugCheck t c .empty)
    (fun b => (b.ctl c).running = true)
    (fun b u => u.plug = none ∧ (u.ctl c).mram.ident = (b.ctl c).mram.ident ∧
      (∀ w, b.writer c = some w → (u.ctl w).alarmed 0x0008 0 = true) ∧ OutputsKept b u)) ∧
  (∀ t on, Does (.s50Change t on)
    (fun b => b.s50 ≠ on)
    (fun b u => u.s50 = on ∧ (on = false → ∀ k, (u.cart k).frozen = false) ∧ (on = true → OutputsKept b u))) ∧
  (∀ t cable, Does (.x50Attach t cable)
    (fun _ => True)
    (fun b u => u.x50.cable = cable ∧ u.x50.ctl = (if cable then b.x50Choice else none) ∧
      (b.x50.ctl = none → u.x50.ctl ≠ none → u.x50.from_ = b.now) ∧
      (b.x50.ctl ≠ none → u.x50.ctl ≠ b.x50.ctl → u.x50.from_ = b.now + 200000000) ∧
      (u.x50.ctl ≠ b.x50.ctl → ∀ k, (u.cart k).frozen = false) ∧ (u.x50.ctl = b.x50.ctl → OutputsKept b u))) ∧
  (∀ t c on, Does (.scrubEn t c on)
    (fun b => (b.ctl c).running = true ∧ (b.ctl c).role = .active)
    (fun b u => (u.ctl c).scrubEn = on ∧ (u.ctl c).scrubIn = b.now - (u.ctl c).scrubRun ∧
      (u.ctl c).scrubRun = (if (b.ctl c).scrubEn then b.now - (b.ctl c).scrubIn else (b.ctl c).scrubRun) ∧
      (u.ctl c).directAl = (!on || !(b.ctl c).gnss.l1.en || !(b.ctl c).gnss.l5.en) ∧ OnlyCtlLog c b u)) ∧
  (∀ t c, Does (.scrubNow t c)
    (fun b => (b.ctl c).running = true ∧ (b.ctl c).role = .active)
    (fun b u => (u.ctl c).scrubEn = (b.ctl c).scrubEn ∧ (u.ctl c).scrubIn = b.now ∧ (u.ctl c).scrubRun = 0 ∧ OnlyCtlLog c b u)) ∧
  (∀ t k sh mi, Does (.hsSelftestNow t k sh mi)
    (fun b => (b.cart k).powered = true ∧ (b.cart k).frozen = false ∧ (b.cart k).holder ≠ none)
    (fun b u => (u.cart k).hsTested = true ∧
      (∀ p : Fin 4, (u.chan (chOf k p)).prot.hsFail = (sh.getLsb p != mi.getLsb p) ∧ (u.chan (chOf k p)).stage = (b.chan (chOf k p)).stage) ∧
      OnlySlotLog k b u))

/-- R47, R126, R157, R162, R165, R188, R193, R194, R197, R430, R855: a controller starts. The rail at 18 V, the end of a POWER_FAIL's hold, the release of
CTRL_TSD, a lockstep mismatch and a watchdog each lead through the bisque stage to BOOTING from the preferred image; a failed self-test and the third reset
before firmware running lead to FAULTED; a TRIAL image started three times is INVALID, and the other one boots. -/
def Obligations.ControllersStart : Prop :=
  (∀ t c, Does (.logicPowerUp t c true)
    (fun b => (b.ctl c).fitted = true ∧ (b.ctl c).powered = false ∧ 18000 ≤ (b.ctl c).sup.railMv ∧ (b.ctl c).sup.failing = false ∧
      (b.ctl c).sup.tsdOff = false ∧ (b.ctl c).Bootable)
    (fun b u => Starts c .powerOn b u ∧ ∀ q : Quad, (u.loop q).stages[c.ix] = {} ∧ (u.loop q).stages[c.other.ix] = (b.loop q).stages[c.other.ix])) ∧
  (∀ t c, Does (.logicPowerUp t c false)
    (fun b => (b.ctl c).fitted = true ∧ (b.ctl c).powered = false ∧ 18000 ≤ (b.ctl c).sup.railMv ∧ (b.ctl c).sup.failing = false ∧
      (b.ctl c).sup.tsdOff = false ∧ (b.ctl c).bootRst = [])
    (fun b u => (u.ctl c).role = .faulted ∧ (u.ctl c).cause = 5 ∧ (u.ctl c).failN = true ∧ OutputsKept b u)) ∧
  (∀ t c a, Does (.powerFailRestart t c true)
    (fun b => (b.ctl c).fitted = true ∧ (b.ctl c).powered = false ∧ (b.ctl c).sup.failing = true ∧ (b.ctl c).sup.tsdOff = false ∧
      (b.ctl c).sup.goodSince = some a ∧ max a (b.ctl c).sup.step7At + 100000000 ≤ b.now ∧ (b.ctl c).Bootable)
    (fun b u => Starts c .powerFail b u ∧ (u.ctl c).sup.failing = false)) ∧
  (∀ t c temp, Does (.ctrlTsdRelease t c temp true)
    (fun b => (b.ctl c).sup.tsdOff = true ∧ temp < 1150 ∧ 18000 ≤ (b.ctl c).sup.railMv ∧ (b.ctl c).Bootable)
    (fun b u => Starts c .powerOn b u ∧ (u.ctl c).sup.tsdOff = false)) ∧
  (∀ t c, Does (.lockstepMismatch t c true) (fun b => (b.ctl c).powered = true ∧ (b.ctl c).Bootable) (fun b u => Starts c .lockstep b u)) ∧
  (∀ t c, Does (.watchdogExpiry t c true) (fun b => (b.ctl c).powered = true ∧ (b.ctl c).Bootable) (fun b u => Starts c .watchdog b u)) ∧
  (∀ t c, Does (.watchdogExpiry t c false)
    (fun b => (b.ctl c).powered = true ∧ (b.ctl c).bootRst = [])
    (fun b u => (u.ctl c).role = .faulted ∧ (u.ctl c).cause = 5 ∧ (u.ctl c).failN = true ∧ OutputsKept b u)) ∧
  (∀ t c ok x y, Does (.watchdogExpiry t c ok)
    (fun b => (b.ctl c).powered = true ∧ (b.ctl c).role = .booting ∧ (b.ctl c).bootRst = [x, y] ∧ b.now ≤ x + 600000000000 ∧
      b.now ≤ y + 600000000000)
    (fun b u => (u.ctl c).role = .faulted ∧ (u.ctl c).cause = 7 ∧ (u.ctl c).failN = true ∧ OutputsKept b u)) ∧
  (∀ t c, Does (.watchdogExpiry t c true)
    (fun b =>
      let x := b.ctl c
      let r := x.mram.boot.read
      x.powered = true ∧ x.role ≠ .booting ∧ x.bootRst = [] ∧ x.mram.boot.best.isSome = true ∧ (r.image r.prefB).st = .trial ∧ 3 ≤ r.trials ∧
      (r.image !r.prefB).st = .confirmed ∧ (r.image !r.prefB).valid r x.issue = true)
    (fun b u =>
      let p := (b.ctl c).mram.boot.read.prefB
      (u.ctl c).role = .booting ∧ (u.ctl c).imgB = !p ∧ ((u.ctl c).mram.boot.read.image p).st = .invalid ∧ ((0x0005 : Nat), 1, 0) ∈ (u.ctl c).bootEv ∧
      OutputsKept b u)) ∧
  (∀ t c, Does (.watchdogExpiry t c true)
    (fun b =>
      let x := b.ctl c
      let r := x.mram.boot.read
      x.powered = true ∧ x.role ≠ .booting ∧ x.bootRst = [] ∧ ((r.image r.prefB).st = .invalid ∨ (r.image r.prefB).valid r x.issue = false) ∧
      ((r.image !r.prefB).st ≠ .confirmed ∨ (r.image !r.prefB).valid r x.issue = false) ∧ ((r.image r.prefB).st = .trial → r.trials < 3))
    (fun b u => (u.ctl c).role = .faulted ∧ (u.ctl c).cause = 6 ∧ (u.ctl c).failN = true ∧ OutputsKept b u))

/-- R159, R166 to R171, R187, R193, R195, R876: from firmware running to command-ready. Firmware running releases FAIL_N, reads the plug and enters ELECTING,
SERVICE at an open lever, HOLD without an identity; a foreign plug sets the configuration aside. The rules of R171 give each controller its role from its
peer's record, or from its silence; command-ready follows once every cartridge present is claimed or given up; an image is CONFIRMED after 60 s. -/
def Obligations.RolesAreElected : Prop :=
  (∀ t c, Does (.firmwareRunning t c)
    (fun b => (b.ctl c).powered = true ∧ (b.ctl c).role = .booting ∧ (b.ctl c).mram.slots = [])
    (fun b u =>
      let x := b.ctl c
      let y := u.ctl c
      y.failN = false ∧ y.elect = none ∧ y.phyA.run = true ∧ y.phyB.run = true ∧ y.miles[1] = some b.now ∧
      (x.lever = true → y.role = .service) ∧
      (x.lever = false → x.mram.ident = none → b.goodPlug = none → y.role = .hold ∧ y.cause = 3) ∧
      (x.lever = false → x.mram.ident ≠ none ∨ b.goodPlug ≠ none → y.role = .electing) ∧
      (∀ p, b.goodPlug = some p → y.mram.ident = some p) ∧
      (∀ p i, b.goodPlug = some p → x.mram.ident = some i → i.serial ≠ p.serial →
        let m := x.mram.readConfig
        y.mram.epoch = 0 ∧ y.mram.items = [] ∧ y.mram.hosts = Vector.replicate 16 {} ∧ y.mram.foreign = true ∧
        y.mram.aside = some (m.items, m.epoch, m.hash)) ∧
      (∀ k n : CfgCopy, (∀ p i, b.goodPlug = some p → x.mram.ident = some i → i.serial = p.serial) → k.ok = true → (n.ok = false ∨ n.epoch < k.epoch) →
        (x.mram.copies = #v[k, n] ∨ x.mram.copies = #v[n, k]) → y.mram.epoch = k.epoch ∧ y.mram.items = k.items) ∧ OutputsKept b u)) ∧
  (∀ t c, Does (.electSend t c)
    (fun b => (b.ctl c).running = true ∧ ((b.ctl c).role = .electing ∨ (b.ctl c).role = .hold))
    (fun b u => u.ctl c = { b.ctl c with electTx := some (b.electOf c) } ∧ OnlyCtl c b u)) ∧
  (∀ t c p, Does (.elect t c)
    (fun b => (b.ctl c).running = true ∧ (b.ctl c).role = .electing ∧ (b.ctl c.other).electTx = some p)
    (fun b u =>
      let m := (b.ctl c).mram
      let y := u.ctl c
      let own := ((m.ident).map (·.serial)).getD []
      let foreign := b.goodPlug = none ∧ own ≠ p.serial ∧ own ≠ [] ∧ p.serial ≠ []
      let stands := y.role = .unsynced ∧ y.unsync = if p.schema = (b.ctl c).schema then 1 else 5
      (p.role = .active → stands) ∧
      (p.role ≠ .active → foreign → y.role = .hold ∧ y.cause = 4) ∧
      (p.role ≠ .active → ¬ foreign → m.epoch = 0 → p.epoch = 0 → y.role = .hold ∧ y.cause = 1) ∧
      (p.role ≠ .active → ¬ foreign → m.epoch < p.epoch → stands) ∧
      (p.role ≠ .active → ¬ foreign → p.epoch < m.epoch → y.role = .active) ∧
      (p.role ≠ .active → ¬ foreign → m.epoch ≠ 0 → p.epoch = m.epoch → m.hash ≠ p.hash → y.role = .hold ∧ y.cause = 2) ∧
      (p.role ≠ .active → ¬ foreign → m.epoch ≠ 0 → p.epoch = m.epoch → m.hash = p.hash → c = .a → y.role = .active) ∧
      (p.role ≠ .active → ¬ foreign → m.epoch ≠ 0 → p.epoch = m.epoch → m.hash = p.hash → c = .b → stands) ∧
      y.elect = some p ∧ (u.ctl c.other).electTx = none ∧ OutputsKept b u)) ∧
  (∀ t c on, Does (.electTimeout t c on)
    (fun b => (b.ctl c).running = true ∧ (b.ctl c).role = .electing ∧ (b.ctl c).elect = none ∧
      (b.ctl c).roleIn + (if c = .b ∧ on = true then 800000000 else 400000000) ≤ b.now)
    (fun b u =>
      let held := c = .b ∧ on = true ∧ ∃ k : Slot, (((b.ctl c).seen[k]).at_).isSome = true ∧ ((b.ctl c).seen[k]).holder = some .a
      (held → (u.ctl c).role = .unsynced ∧ (u.ctl c).unsync = 2) ∧
      (¬ held → (b.ctl c).mram.epoch = 0 → (u.ctl c).role = .hold ∧ (u.ctl c).cause = 1) ∧
      (¬ held → (b.ctl c).mram.epoch ≠ 0 → (u.ctl c).role = .active ∧ (u.ctl c).ready = false) ∧ OutputsKept b u)) ∧
  (∀ t c, Does (.commandReady t c)
    (fun b => (b.ctl c).running = true ∧ (b.ctl c).role = .active ∧ (b.ctl c).ready = false ∧
      ∀ k : Slot, b.present c k = false ∨ (b.cart k).removing = true ∨ ((b.ctl c).claims[k]).unclaimed = true ∨
        ((b.ctl c).claims[k]).st = .held ∧ b.holds c k = true)
    (fun b u => (u.ctl c).ready = true ∧ (u.ctl c).role = .active ∧ (u.ctl c).miles[4] = some b.now ∧ (u.ctl c).started = true ∧
      ((b.ctl c).mram.slots = [] → OutputsKept b u))) ∧
  (∀ t c a, Does (.imageConfirmed t c)
    (fun b => (b.ctl c).running = true ∧ ((b.ctl c).mram.boot.image (b.ctl c).imgB).st = .trial ∧ (b.ctl c).okFrom = some a ∧
      a + 60000000000 ≤ b.now)
    (fun b u => ((u.ctl c).mram.boot.image (b.ctl c).imgB).st = .confirmed ∧ (u.ctl c).mram.boot.trials = 0 ∧
      (u.ctl c).mram.boot.image (!(b.ctl c).imgB) = (b.ctl c).mram.boot.image (!(b.ctl c).imgB) ∧ OnlyCtl c b u))

/-- R161, R175 to R184, R189, R190, R192, R193: claims. A cartridge arms for an epoch above its own and refuses any other; one in limp-home has a restore
transaction made, one that holds its setpoints is taken as it is, with the levels it holds; a changed limp digest refuses the go; the token passes with the
epoch, and before command-ready no go is sent while another claim waits for its answer; an armed cartridge disarms after 20 ms, and a failed claim is tried again. A status frame renews the controller's view and switches nothing; a controller that finds its
cartridge held by the other slot with a higher epoch leaves ACTIVE. -/
def Obligations.ClaimsAct : Prop :=
  (∀ t c k, Does (.claimReq t c k)
    (fun b => (b.ctl c).running = true ∧ ((b.ctl c).claims[k]).st = .requested ∧ (b.cart k).armedBy = none ∧ (b.cart k).powered = true ∧
      (b.cart k).epoch < ((b.ctl c).claims[k]).epoch ∧ ((b.ctl c).claims[k]).epoch < 2 ^ 32)
    (fun b u => u.cart k = { b.cart k with armedBy := some (c, ((b.ctl c).claims[k]).epoch, b.now) } ∧ OnlyCart k b u)) ∧
  (∀ t c k, Does (.claimReq t c k)
    (fun b => (b.ctl c).running = true ∧ ((b.ctl c).claims[k]).st = .requested ∧ (b.cart k).armedBy = none ∧
      ((b.ctl c).claims[k]).epoch ≤ (b.cart k).epoch ∧ ((b.ctl c).claims[k]).reset = false)
    (fun b u =>
      let x := (b.ctl c).claims[k]
      let y := (u.ctl c).claims[k]
      y.st = .idle ∧ y.fails = x.fails + 1 ∧ (x.unclaimed = false → x.fails < 4 → y.unclaimed = false ∧ y.retryAt = some (b.now + 20000000)) ∧
      (4 ≤ x.fails → y.unclaimed = true ∧ y.retryAt = some (b.now + 1000000000)) ∧ OutputsKept b u)) ∧
  (∀ t c k a h, Does (.claimAck t c k)
    (fun b => (b.ctl c).running = true ∧ (b.ctl c).role = .active ∧ ((b.ctl c).claims[k]).st = .requested ∧
      (b.cart k).armedBy = some (c, ((b.ctl c).claims[k]).epoch, a) ∧ (b.cart k).holder = some h)
    (fun b u => ((u.ctl c).claims[k]).st = .acked ∧ ((u.ctl c).claims[k]).limp = false ∧ ((u.ctl c).claims[k]).jsn = 0 ∧
      (u.ctl c).mram = (b.ctl c).mram ∧ OnlyCtl c b u)) ∧
  (∀ t c k a, Does (.claimAck t c k)
    (fun b => (b.ctl c).running = true ∧ (b.ctl c).role = .active ∧ ((b.ctl c).claims[k]).st = .requested ∧
      (b.cart k).armedBy = some (c, ((b.ctl c).claims[k]).epoch, a) ∧ (b.cart k).holder = none ∧ b.paired = true)
    (fun b u => ((u.ctl c).claims[k]).st = .acked ∧ ((u.ctl c).claims[k]).limp = true ∧ ((u.ctl c).claims[k]).digest = (b.cart k).digest ∧
      ((u.ctl c).claims[k]).jsn = (b.ctl c).mram.jsn ∧
      (∃ j ∈ (u.ctl c).mram.slots, j.jsn = (b.ctl c).mram.jsn ∧ j.kind = 2 ∧ j.st = .prepared ∧ j.changes = (b.restoreTx c k).changes) ∧ OnlyCtl c b u)) ∧
  (∀ t c k a, Does (.claimGo t c k)
    (fun b =>
      let x := (b.ctl c).claims[k]
      (b.ctl c).running = true ∧ (b.ctl c).role = .active ∧ x.st = .acked ∧ b.restored c k = true ∧ (b.cart k).powered = true ∧
      (b.cart k).armedBy = some (c, x.epoch, a) ∧ (b.cart k).digest = x.digest ∧ x.limp = true ∧ (b.cart k).holder = none ∧ x.reset = false ∧
      b.goesAlone c k)
    (fun b u => (u.cart k).holder = some c ∧ (u.cart k).epoch = ((b.ctl c).claims[k]).epoch ∧ (u.cart k).armedBy = none ∧
      (u.cart k).claimAt = b.now ∧ ((u.ctl c).claims[k]).st = .held ∧ ((u.ctl c).claims[k]).fails = 0 ∧
      (∀ j : Slot, j ≠ k → u.cart j = b.cart j) ∧ (∀ d, slotOf d ≠ k → u.chan d = b.chan d))) ∧
  (∀ t c k a h, Does (.claimGo t c k)
    (fun b =>
      let x := (b.ctl c).claims[k]
      (b.ctl c).running = true ∧ (b.ctl c).role = .active ∧ x.st = .acked ∧ b.restored c k = true ∧ (b.cart k).powered = true ∧
      (b.cart k).armedBy = some (c, x.epoch, a) ∧ (b.cart k).digest = x.digest ∧ (b.cart k).holder = some h ∧ x.reset = false ∧ b.goesAlone c k)
    (fun b u => (u.cart k).holder = some c ∧ (u.cart k).epoch = ((b.ctl c).claims[k]).epoch ∧ ((u.ctl c).claims[k]).st = .held ∧
      (∀ d, (u.chan d).set = (b.chan d).set ∧ (slotOf d = k → ((u.ctl c).image[d]).level = (b.chan d).set.level ∧
        ((u.ctl c).mram.hosts[d]).level = (b.chan d).set.level)) ∧
      (∀ j : Slot, j ≠ k → u.cart j = b.cart j) ∧ (∀ d, slotOf d ≠ k → u.chan d = b.chan d))) ∧
  (∀ t c k a, Does (.claimGo t c k)
    (fun b =>
      let x := (b.ctl c).claims[k]
      (b.ctl c).running = true ∧ (b.ctl c).role = .active ∧ x.st = .acked ∧ b.restored c k = true ∧ (b.cart k).powered = true ∧
      (b.cart k).armedBy = some (c, x.epoch, a) ∧ (b.cart k).digest ≠ x.digest ∧ x.reset = false ∧ b.goesAlone c k)
    (fun b u => (u.cart k).limpMoved = true ∧ (u.cart k).armedBy = none ∧ (u.cart k).holder = (b.cart k).holder ∧
      ((u.ctl c).claims[k]).st = .idle ∧ ((u.ctl c).claims[k]).fails = ((b.ctl c).claims[k]).fails + 1 ∧ u.chans = b.chans)) ∧
  (∀ t c k, Does (.claimGo t c k)
    (fun b => (b.ctl c).ready = false ∧ ∃ j : Slot, ((b.ctl c).claims[j]).st = .requested)
    (fun b u => u = b)) ∧
  (∀ t k c e a, Does (.claimArmTimeout t k)
    (fun b => (b.cart k).armedBy = some (c, e, a) ∧ a + 20000000 ≤ b.now)
    (fun b u => (u.cart k).armedBy = none ∧ (u.cart k).holder = (b.cart k).holder ∧
      (((b.ctl c).claims[k]).epoch = e → ((b.ctl c).claims[k]).st = .requested ∨ ((b.ctl c).claims[k]).st = .acked → (b.ctl c).running = true → ((u.ctl c).claims[k]).st = .idle) ∧
      (∀ j : Slot, j ≠ k → u.cart j = b.cart j) ∧ u.chans = b.chans)) ∧
  (∀ t c k a, Does (.claimRetry t c k)
    (fun b => ((b.ctl c).claims[k]).retryAt = some a ∧ a ≤ b.now ∧ (b.ctl c).running = true ∧ (b.ctl c).role = .active ∧ b.present c k = true ∧
      (b.cart k).removing = false)
    (fun b u => ((u.ctl c).claims[k]).st = .requested ∧ (∀ j : Slot, ((b.ctl c).seen[j]).epoch < ((u.ctl c).claims[k]).epoch) ∧
      ((u.ctl c).claims[k]).retryAt = none ∧ (∀ j : Slot, j ≠ k → (u.ctl c).claims[j] = (b.ctl c).claims[j]) ∧ OnlyCtl c b u)) ∧
  (∀ t c k, Does (.statusFrame t c k false)
    (fun b => (b.ctl c).running = true ∧ (b.cart k).powered = true)
    (fun b u => (u.ctl c).linkErr[k] = min (2 ^ 32 - 1) ((b.ctl c).linkErr[k] + 1) ∧
      u.ctl c = { b.ctl c with linkErr := (u.ctl c).linkErr } ∧ OnlyCtl c b u)) ∧
  (∀ t c k, Does (.statusFrame t c k true)
    (fun b => (b.ctl c).running = true ∧ (b.cart k).powered = true)
    (fun b u =>
      let y := (u.ctl c).seen[k]
      y.at_ = some b.now ∧ y.holder = (b.cart k).holder ∧ y.epoch = (b.cart k).epoch ∧ y.imgJsn = (b.cart k).imgJsn ∧
      y.digest = (b.cart k).digest ∧ (∀ ch, (u.chan ch).stage = (b.chan ch).stage ∧ (u.chan ch).ctrl = (b.chan ch).ctrl) ∧
      ((b.ctl c).role ≠ .active → OnlyCtlLog c b u) ∧
      ((b.ctl c).role = .active → (b.cart k).holder = some c.other → ((b.ctl c).claims[k]).st = .held →
        ((b.ctl c).claims[k]).epoch < (b.cart k).epoch → (u.ctl c).role = .unsynced ∧ (u.ctl c).unsync = 6 ∧ (u.ctl c).ready = false)))

/-- R540, R541, R860 to R865, R871 to R875, R899, R900: the mirror. PREPARE writes the slot at the standby, PREP_ACK commits it at the ACTIVE controller,
COMMIT at the standby, and COMMIT_ACK releases it, ending at once what acts on no cartridge; a missing acknowledgement makes the standby unsynchronised and
completes the transaction alone; a digest that differs does so too; a resynchronisation or a join copies the mirrored state, and a join between schemas
copies the configuration and the keys only. -/
def Obligations.MirrorIsKept : Prop :=
  (∀ t n a j, Does (.prepare t n)
    (fun b => b.mirrors = some a ∧ (b.ctl a).mram.slot n = some j ∧ j.st = .prepared ∧ (b.ctl a.other).mram.slot n = none)
    (fun b u => (u.ctl a.other).mram.slots = (b.ctl a.other).mram.slots ++ [{ j with req := none, replied := true, prepAt := b.now }] ∧
      (u.ctl a.other).mram.jsn = max (b.ctl a.other).mram.jsn (n + 1) ∧ OnlyCtl a.other b u)) ∧
  (∀ t n a j i, Does (.prepAck t n)
    (fun b => b.mirrors = some a ∧ (b.ctl a).mram.slot n = some j ∧ j.st = .prepared ∧ (b.ctl a.other).mram.slot n = some i ∧ i.st = .prepared)
    (fun b u => (∀ x ∈ (u.ctl a).mram.slots, x.jsn = n → x.st = .committed ∧ x.sentAt = some b.now) ∧ (u.ctl a).mram.last = n ∧
      (∀ ch lvl, j.changes = [.level ch lvl true] → j.sched = false →
        ((u.ctl a).mram.hosts[ch]).level = lvl ∧ ((u.ctl a).mram.hosts[ch]).cmds = ((b.ctl a).mram.hosts[ch]).cmds + 1) ∧
      u.ctl a.other = b.ctl a.other ∧ OutputsKept b u)) ∧
  (∀ t n a j i, Does (.commit t n)
    (fun b => b.mirrors = some a ∧ (b.ctl a).mram.slot n = some j ∧ j.st = .committed ∧ j.sentAt ≠ none ∧
      (b.ctl a.other).mram.slot n = some i ∧ i.st = .prepared)
    (fun b u => (∀ x ∈ (u.ctl a.other).mram.slots, x.jsn = n → x.st = .committed) ∧ (u.ctl a.other).mram.last = n ∧
      (∀ ch lvl, j.changes = [.level ch lvl true] → j.sched = false → ((u.ctl a.other).mram.hosts[ch]).level = lvl) ∧ OnlyCtl a.other b u)) ∧
  (∀ t n a j i, Does (.commitAck t n)
    (fun b => b.mirrors = some a ∧ (b.ctl a).mram.slot n = some j ∧ j.st = .committed ∧ j.released = false ∧
      (b.ctl a.other).mram.slot n = some i ∧ i.st = .committed)
    (fun b u =>
      (maskAny j.mask = false → j.kind ≠ 6 → j.sched = false → (u.ctl a).mram.slot n = none ∧ (u.ctl a.other).mram.slot n = none) ∧
      (∀ ch lvl, maskAny j.mask = true → j.sched = false → j.changes = [.level ch lvl true] →
        (∃ x, (u.ctl a).mram.slot n = some x ∧ x.released = true) ∧ ((u.ctl a).image[ch]).level = lvl ∧
        ((u.ctl a).image[ch]).cmds = ((b.ctl a).image[ch]).cmds + 1 ∧ OnlyCtl a b u))) ∧
  (∀ t a j, Does (.mirrorTimeout t)
    (fun b => b.active = some a ∧ (b.ctl a.other).role = .synced ∧ (b.ctl a).mram.slots = [j] ∧ j.st = .prepared ∧ j.kind ≠ 6 ∧
      j.prepAt + 1000000 ≤ b.now)
    (fun b u => (u.ctl a.other).role = .unsynced ∧ (u.ctl a.other).unsync = 3 ∧ (u.ctl a).mram.last = j.jsn ∧
      (∀ x ∈ (u.ctl a).mram.slots, x.st = .committed ∧ x.released = true) ∧
      (∀ ch lvl cmd, j.changes = [.level ch lvl cmd] → j.sched = false → ((u.ctl a).mram.hosts[ch]).level = lvl ∧ OutputsKept b u))) ∧
  (∀ t a, Does (.stateDigest t)
    (fun b => b.active = some a ∧ (b.ctl a).digestAt ≤ b.now)
    (fun b u => u.ctl a = { b.ctl a with digest := some ((b.ctl a).mram.last, (b.ctl a).mram.digest8), digestAt := b.now + 100000000 } ∧ OnlyCtl a b u)) ∧
  (∀ t a n d, Does (.digestMismatch t)
    (fun b => b.mirrors = some a ∧ (b.ctl a).digest = some (n, d) ∧ n = (b.ctl a.other).mram.last ∧ (b.ctl a).mram.last = (b.ctl a.other).mram.last ∧
      (b.ctl a.other).mram.digest8 ≠ d ∧ (b.ctl a.other).mram.digest8 ≠ (b.ctl a).mram.digest8)
    (fun b u => (u.ctl a.other).role = .unsynced ∧ (u.ctl a.other).unsync = 4 ∧ (u.ctl a).digestAl = true ∧ (u.ctl a).role = .active ∧
      u = { b with ctlA := u.ctlA, ctlB := u.ctlB, mode := u.mode, ant := u.ant })) ∧
  (∀ t a, Does (.resyncComplete t)
    (fun b => b.mayCopy [2, 3, 4, 6] = some a ∧ (b.ctl a).schema = (b.ctl a.other).schema)
    (fun b u =>
      let m := (u.ctl a).mram
      let y := (u.ctl a.other).mram
      (u.ctl a.other).role = .synced ∧ y.items = m.items ∧ y.epoch = m.epoch ∧ y.hash = m.hash ∧ y.leases = m.leases ∧ y.hosts = m.hosts ∧
      y.loops = m.loops ∧ y.staging = m.staging ∧ y.jsn = m.jsn ∧ y.last = m.last ∧ (∀ i, (y.client i).keys = (m.client i).keys) ∧
      m.items = (b.ctl a).mram.items ∧ m.hosts = (b.ctl a).mram.hosts ∧
      u = { b with ctlA := u.ctlA, ctlB := u.ctlB, mode := u.mode, ant := u.ant })) ∧
  (∀ t a, Does (.joinComplete t)
    (fun b => b.mayCopy [1, 5] = some a)
    (fun b u =>
      let m := (b.ctl a).mram
      let y := (u.ctl a.other).mram
      y.items = m.items ∧ y.epoch = m.epoch ∧ y.hash = m.hash ∧ (∀ i, (y.client i).keys = (m.client i).keys) ∧
      ((b.ctl a).schema = (b.ctl a.other).schema → (u.ctl a.other).role = .synced ∧ y.hosts = m.hosts ∧ y.last = m.last) ∧
      ((b.ctl a).schema ≠ (b.ctl a.other).schema → (u.ctl a.other).role = .unsynced ∧ (u.ctl a.other).unsync = 5 ∧ y.slots = [] ∧
        y.hosts = (b.ctl a.other).mram.hosts ∧ OnlyCtlLog a.other b u)))

/-- R737, R743, R853 to R855, R876 to R880, R886, R888, R895: the pair. A heartbeat is received by either lane and ends the count of missed windows, and with
it a standby's time follows the ACTIVE controller's; four missed windows with the peer's frames fresh are a loss of the link alone; FAIL_N is followed; a
handoff changes the roles in one step; a split re-elects after 10 s without the peer; a failed TCXO is FAULTED; a standby that declares the ACTIVE controller
lost takes over with every cartridge that stays. -/
def Obligations.PairActs : Prop :=
  (∀ t c, Does (.heartbeatSend t c)
    (fun b => (b.ctl c).running = true ∧ (b.ctl c).role ≠ .electing ∧ (b.ctl c).role ≠ .hold ∧ (b.ctl c).beatDue ≤ b.now)
    (fun b u => u.ctl c = { b.ctl c with beatTx := some (b.beatOf c false), beatDue := b.now + 250000 } ∧ OnlyCtl c b u)) ∧
  (∀ t c l0 l1 bt, Does (.heartbeat t c l0 l1)
    (fun b => (b.ctl c).running = true ∧ (b.ctl c.other).beatTx = some bt)
    (fun b u =>
      let x := b.ctl c
      let y := u.ctl c
      (u.ctl c.other).beatTx = none ∧
      (l0 = true ∨ l1 = true → y.missed = 0 ∧ y.beatAt = some b.now ∧ y.beat = some bt) ∧
      (l0 = false → l1 = false → y.missed = x.missed ∧ y.beatAt = x.beatAt ∧ y.beat = x.beat) ∧
      y.pairErr = min 0xFFFFFFFF (x.pairErr + (if x.lanes[0].up = true ∧ l0 = false then 1 else 0) + (if x.lanes[1].up = true ∧ l1 = false then 1 else 0)) ∧
      (bt.role = .active → x.role = .synced → (b.ctl c.other).role = .active → x.lanes[0].up = true → l0 = true → (b.ctl c.other).link = true →
        y.time.st = (b.ctl c.other).time.st ∧ y.time.src = (b.ctl c.other).time.src ∧ y.time.tai = (b.ctl c.other).time.tai) ∧
      OutputsKept b u)) ∧
  (∀ t c on, Does (.heartbeatMissed t c on)
    (fun b => (b.ctl c).running = true ∧ (b.ctl c).role ≠ .electing ∧ (b.ctl c).role ≠ .hold ∧
      (b.ctl c).beatAt.getD (b.ctl c).roleIn + ((b.ctl c).missed + 1) * 250 * 1000 ≤ b.now)
    (fun b u =>
      let x := b.ctl c
      let y := u.ctl c
      let fresh := ∃ k : Slot, ((x.seen[k]).at_).isSome = true ∧ (x.seen[k]).holder = some c.other ∧ (x.seen[k]).fresh = true
      y.missed = min 255 (x.missed + 1) ∧ y.peerOn = on ∧
      (3 ≤ x.missed → x.role = .synced → fresh → y.role = .unsynced ∧ y.unsync = 2) ∧
      (x.missed < 3 ∨ x.role ≠ .synced ∨ ¬ fresh → y.role = x.role) ∧
      (∀ i : Fin 2, 3 ≤ x.lanes[i].miss → y.lanes[i].up = false) ∧ OutputsKept b u)) ∧
  (∀ t c, Does (.failN t c false) (fun b => (b.ctl c.other).failN = true) (fun b u => u = b)) ∧
  (∀ t c on, Does (.failN t c on)
    (fun b => (b.ctl c).running = true ∧ (on = true ∨ (b.ctl c.other).failN = false))
    (fun b u => (u.ctl c).peerFail = on ∧ (on = false → (u.ctl c).peerGone = none) ∧
      (on = true → (u.ctl c).peerGone = some ((b.ctl c).peerGone.getD b.now)) ∧ (u.ctl c).role = (b.ctl c).role ∧ Ctlr.Logged (b.ctl c.other) (u.ctl c.other) ∧
      u = { b with ctlA := u.ctlA, ctlB := u.ctlB, mode := u.mode })) ∧
  (∀ t a j, Does (.handoff t)
    (fun b => b.mirrors = some a ∧ (b.ctl a).mram.slots = [j] ∧ j.kind = 6 ∧ j.st = .committed ∧ j.released = true ∧ (b.ctl a).busyForSwap = false)
    (fun b u => (u.ctl a.other).role = .active ∧ (u.ctl a.other).ready = true ∧ (u.ctl a.other).swapAt = some b.now ∧ (u.ctl a).ready = false ∧
      (j.swapCause ≠ 3 → (u.ctl a).role = if (b.ctl a).lever then .service else .synced) ∧
      (j.swapCause = 3 → (u.ctl a).role = .booting ∨ (u.ctl a).role = .faulted) ∧
      (∀ k : Slot, b.present a.other k = true → (b.cart k).removing = false → (b.cart k).holder = some a → (b.cart k).armedBy = none →
        (b.cart k).epoch < b.nextClaim a.other → b.nextClaim a.other < 2 ^ 32 →
        (u.cart k).holder = some a.other ∧ (u.cart k).epoch = b.nextClaim a.other))) ∧
  (∀ t a k, Does (.autoRoleSwap t)
    (fun b => b.mirrors = some a ∧ b.present a k = true ∧ b.reaches a k = false ∧
      (∀ i : Slot, b.present a i = true → b.reaches a.other i = true) ∧ (b.ctl a).swapAt = none ∧ (b.ctl a).mram.swapping = false)
    (fun b u => (∃ j ∈ (u.ctl a).mram.slots, j.jsn = (b.ctl a).mram.jsn ∧ j.kind = 6 ∧ j.st = .prepared ∧ j.swapCause = 2) ∧
      (u.ctl a).role = .active ∧ OnlyCtl a b u)) ∧
  (∀ t c on, Does (.splitReelect t c on)
    (fun b => (b.ctl c).running = true ∧ (b.ctl c).role = .hold ∧ (b.ctl c).cause = 2)
    (fun b u =>
      let x := b.ctl c
      let y := u.ctl c
      let gone := x.peerFail = true ∨ on = false
      (gone → (∃ a, x.peerGone = some a ∧ a + 10000000000 ≤ b.now) → y.role = .electing ∧ y.elect = none) ∧
      (gone → x.peerGone = none → y.role = .hold ∧ y.peerGone = some b.now) ∧
      (¬ gone → y.role = .hold ∧ y.peerGone = none) ∧ OutputsKept b u)) ∧
  (∀ t c no r g, Does (.tcxoFail t c no r g)
    (fun b => (b.ctl c).running = true ∧ ((b.ctl c).role = .active ∨ (b.ctl c).role = .synced ∨ (b.ctl c).role = .unsynced ∨ (b.ctl c).role = .hold) ∧
      (no = true ∨ 100 < r ∧ 100 < g))
    (fun b u => (u.ctl c).role = .faulted ∧ (u.ctl c).cause = 8 ∧ (u.ctl c).failN = true ∧ (u.ctl c).time.tcxoFail = true ∧
      OnlyCtlMode c b u)) ∧
  (∀ t c w, Does (.failover t c)
    (fun b => b.lostCause c = some w)
    (fun b u => (u.ctl c).role = .active ∧ (u.ctl c).ready = true ∧ (u.ctl c).transfer = none ∧ (u.ctl c.other).transfer = none ∧
      (∀ k : Slot, b.present c k = true → (b.cart k).removing = false → (b.cart k).holder = some c.other → (b.cart k).armedBy = none →
        (b.cart k).epoch < b.nextClaim c → b.nextClaim c < 2 ^ 32 →
        (u.cart k).holder = some c ∧ (u.cart k).epoch = b.nextClaim c ∧ (u.cart k).holdAt = b.now)))

/-- R383, R802, R804, R805, R808, R813, R815, R927: the log. A record takes the next index, in the write queue in DUAL and in MRAM otherwise, or is counted as
lost where the queue admits none; LOSS covers what was lost; a ballast channel's change makes one voyage entry, kept until its record stands in MRAM; a gap
of 1 ms in the mirrored log makes the standby unsynchronised; the energy counters are written each minute; a cartridge link lost to the standby switches
nothing. -/
def Obligations.LogIsKept : Prop :=
  (∀ t code flags source object body w, Does (.logRecord t code flags source object body)
    (fun b => b.writer b.lead = some w)
    (fun b u =>
      let l := (b.ctl w).mram.log
      let m := (u.ctl w).mram.log
      let r := { b.record b.lead code flags source object body with index := l.next }
      (l.queue.length < 56 → m.next = (if 0xFFFFFFFE ≤ l.next then 0 else l.next + 1) ∧ m.losses = l.losses ∧
        (b.paired = true → m.queue = l.queue ++ [r] ∧ m.recs = l.recs) ∧
        (b.paired = false → m.queue = [] ∧ m.recs.getLast? = some r)) ∧
      (64 ≤ l.queue.length → b.paired = true → m.queue = l.queue ∧ m.next = l.next ∧ m.lost = l.lost + 1 ∧ m.losses = (l.losses + 1) % 2 ^ 32) ∧
      OnlyLog b u)) ∧
  (∀ t, Does (.loss t)
    (fun b => (b.ctl b.lead).running = true ∧ (b.ctl b.lead).mram.log.lost ≠ 0 ∧ (b.ctl b.lead).mram.log.queue.length < 56)
    (fun b u =>
      let l := (b.ctl b.lead).mram.log
      let m := (u.ctl b.lead).mram.log
      let r := { b.record b.lead 0x1201 0 b.lead.code 0 (be 4 l.lost ++ be 4 l.losses ++ beInt 8 l.lostFrom ++ beInt 8 l.lostTo ++ [0]) with index := l.next }
      m.lost = 0 ∧ (b.paired = true → m.queue = l.queue ++ [r]) ∧ (b.paired = false → m.queue = [] ∧ m.recs.getLast? = some r) ∧ OnlyCtl b.lead b u)) ∧
  (∀ t ch, Does (.voyage t ch)
    (fun b => b.chItem ch 0x0126 = 1 ∧ (b.chan ch).stage.output.conducts ≠ (b.chan ch).stage.voyOn ∧ (b.cart (slotOf ch)).powered = true)
    (fun b u =>
      let x := b.cart (slotOf ch)
      let y := u.cart (slotOf ch)
      (x.voy.length < 64 → y.voySeq = (x.voySeq + 1) % 2 ^ 32 ∧ y.voyLost = x.voyLost ∧ ∃ e, y.voy = x.voy ++ [e] ∧ e.seq = x.voySeq ∧
        e.pos = ch.val % 4 ∧ e.began = (b.chan ch).stage.output.conducts ∧ e.cause = (b.chan ch).stage.cause ∧ e.unset = x.unset ∧
        e.time = (b.now : Int) + x.timeOff) ∧
      (64 ≤ x.voy.length → y.voy = x.voy ∧ y.voyLost = x.voyLost + 1) ∧
      (u.chan ch).stage = { (b.chan ch).stage with voyOn := (b.chan ch).stage.output.conducts } ∧
      (∀ d, d ≠ ch → u.chan d = b.chan d) ∧ OnlySlot (slotOf ch) b u)) ∧
  (∀ t k c, Does (.voyageAck t k)
    (fun b => b.active = some c ∧ b.holds c k = true)
    (fun b u =>
      let l := (b.ctl c).mram.log
      let seen := (b.cart k).voy.filter fun e => l.voySeen.contains ((b.cart k).serial, e.seq)
      ((∀ r ∈ l.queue, r.code ≠ 0x1101) → (u.ctl c).voyAck[k] = seen.map (·.seq)) ∧
      (∀ n ∈ (u.ctl c).voyAck[k], ((b.cart k).serial, n) ∈ l.voySeen) ∧ OnlyCtl c b u)) ∧
  (∀ t c a, Does (.mirrorGapTimeout t c)
    (fun b => (b.ctl c).running = true ∧ (b.ctl c).role = .synced ∧ (b.ctl c).mram.log.gapAt = some a ∧ a + 1000000 ≤ b.now)
    (fun b u => (u.ctl c).role = .unsynced ∧ (u.ctl c).unsync = 3 ∧ OutputsKept b u ∧
      u = { b with ctlA := u.ctlA, ctlB := u.ctlB, mode := u.mode, ant := u.ant })) ∧
  (∀ t c, Does (.energyCounterWrite t c)
    (fun b => (b.ctl c).running = true)
    (fun b u => (∀ ch : Ch, (u.ctl c).mram.energy[ch] = { (b.ctl c).mram.energy[ch] with
        saved := ((b.ctl c).mram.energy[ch]).mwh, savedRem := ((b.ctl c).mram.energy[ch]).rem, savedBase := ((b.ctl c).mram.energy[ch]).base }) ∧
      u.ctl c = { b.ctl c with mram := { (b.ctl c).mram with energy := (u.ctl c).mram.energy } } ∧ OnlyCtl c b u)) ∧
  (∀ t c k a, Does (.cartridgeLinkLoss t c k)
    (fun b => (b.ctl c).running = true ∧ (b.ctl c).standby = true ∧ ((b.ctl c).seen[k]).at_ = some a ∧ a + 100000 ≤ b.now)
    (fun b u => (u.ctl c).seen[k] = { (b.ctl c).seen[k] with at_ := none } ∧ (∀ j : Slot, j ≠ k → (u.ctl c).seen[j] = (b.ctl c).seen[j]) ∧
      (u.ctl c).role = (b.ctl c).role ∧ u.unitMode = b.unitMode ∧ OnlyCtlLog c b u))

/-- R929 to R932, R937, R939: latent faults. A scrub pass is counted with what it corrected; a double-bit error in the journal is repaired and counted, by the
standby of a pair as a resynchronisation, one in a cone entry leaves it zero, one in the almanac loses it; the series test finds a shorted and an open
element, or is put off by 10 s; the daily self-test is due on each cartridge held. -/
def Obligations.LatentFaultsAreFound : Prop :=
  (∀ t c n m, Does (.scrubPass t (.ctrl c) n m)
    (fun b => (b.ctl c).running = true ∧ ((b.ctl c).scrubEn = true ∨ (b.ctl c).standby = true) ∧ (b.ctl c).scrubIn + 1782000000000 ≤ b.now)
    (fun b u => u.ctl c = { b.ctl c with
        scrubAt := some b.now, scrubIn := b.now, scrubs := ((b.ctl c).scrubs + 1) % 65536, mramCe := min 0xFFFFFFFF ((b.ctl c).mramCe + n)
        sramCe := min 0xFFFFFFFF ((b.ctl c).sramCe + m) } ∧ OnlyCtl c b u)) ∧
  (∀ t c n m, Does (.scrubPass t (.ctrl c) n m)
    (fun b => (b.ctl c).scrubEn = false ∧ (b.ctl c).standby = false ∨ b.now < (b.ctl c).scrubIn + 1782000000000)
    (fun b u => u = b)) ∧
  (∀ t k n m, Does (.scrubPass t (.cart k) n m)
    (fun b => (b.cart k).powered = true ∧ (b.cart k).scrubIn + 1782000000000 ≤ b.now)
    (fun b u => u.cart k = { b.cart k with scrubIn := b.now, scrubCe := min 0xFFFFFFFF ((b.cart k).scrubCe + n) } ∧ OnlyCart k b u)) ∧
  (∀ t c addr, Does (.doubleBitError t (.ctrl c) addr)
    (fun b => (b.ctl c).running = true ∧ 0x0300000 ≤ addr ∧ addr ≤ 0x03FFFFF)
    (fun b u =>
      (b.paired = true → (b.ctl c).role = .synced → (u.ctl c).role = .unsynced ∧ (u.ctl c).unsync = 4 ∧ OutputsKept b u) ∧
      (b.paired = true → (b.ctl c).role ≠ .synced → u = b) ∧
      (b.paired = false → u.ctl c = { b.ctl c with mramCe := min 0xFFFFFFFF ((b.ctl c).mramCe + 1) } ∧ OnlyCtl c b u))) ∧
  (∀ t c addr e, Does (.doubleBitError t (.ctrl c) addr)
    (fun b => (b.ctl c).running = true ∧ 0x0400000 ≤ addr ∧ addr ≤ 0x040FFFF ∧ b.paired = false ∧
      (b.ctl c).mram.cone.entries[(addr - 0x0400000) / 64]? = some e)
    (fun b u => (u.ctl c).mram.cone.entries[(addr - 0x0400000) / 64]? = some { index := e.index } ∧
      (u.ctl c).mram.cone.entries.length = (b.ctl c).mram.cone.entries.length ∧ OnlyCtlLog c b u)) ∧
  (∀ t c addr, Does (.doubleBitError t (.ctrl c) addr)
    (fun b => (b.ctl c).running = true ∧ 0x0F00000 ≤ addr ∧ addr ≤ 0x0F0FFFF)
    (fun b u => (u.ctl c).gnss.alm = false ∧ (u.ctl c).gnss.almLost = true ∧ OnlyGnssLog c b u)) ∧
  (∀ t k addr, Does (.doubleBitError t (.cart k) addr)
    (fun b => (b.cart k).powered = true)
    (fun b u => (Config.cartRegion addr = 1 → ∀ p : Fin 4, (u.chan (chOf k p)).prot.savedOk = false) ∧
      (Config.cartRegion addr = 0 → b.active = none → ∀ p : Fin 4, u.chItem (chOf k p) 0x0100 = cartDefault 0x0100) ∧ OnlySlotLog k b u)) ∧
  (∀ t c out mid, Does (.seriesTest t c out mid)
    (fun b => (b.cart (slotOf c)).powered = true ∧ (b.chan c).stage.serDue b.now = true ∧ (b.chan c).prot.trip = .none)
    (fun b u =>
      (b.serTestable c = false → (u.chan c).stage = { (b.chan c).stage with serRetry := some (b.now + 10000000000) } ∧ OnlyChan c b u) ∧
      (b.serTestable c = true → (u.chan c).stage.serTestAt = b.now ∧ (u.chan c).stage.serRetry = none) ∧
      (b.serTestable c = true → 3000 ≤ out → (u.chan c).prot.discFail = 2 ∧ (u.chan c).prot.trip = .none ∧ OnlyChanLog c b u) ∧
      (b.serTestable c = true → out < 3000 → mid + 2000 < (b.cart (slotOf c)).busMv → Tripped c 0x15 u ∧ ∀ d, d ≠ c → u.chan d = b.chan d) ∧
      (b.serTestable c = true → out < 3000 → (b.cart (slotOf c)).busMv ≤ mid + 2000 → (u.chan c).prot = (b.chan c).prot ∧ OnlyChan c b u))) ∧
  (∀ t c, Does (.dailySelftest t c)
    (fun b => (b.ctl c).running = true ∧ (b.ctl c).role = .active ∧ (b.ctl c).testAt + 86400000000000 ≤ b.now)
    (fun b u => u.ctl c = { b.ctl c with testAt := b.now } ∧
      (∀ k, u.cart k = if b.holds c k = true ∧ (b.cart k).frozen = false then { b.cart k with hsTested := false } else b.cart k) ∧
      u.chans = b.chans ∧ u.ctl c.other = b.ctl c.other))

/-- R685, R688 to R694, R697 to R699, R702, R707, R708: the expansion port. A transaction that ends answers a read or a transfer, and takes a program or an
erase one step further: enabled, then polled; a poll reads the status, sends the program once enabled, and completes, or times out, what is polled; the
time-out fails every window operation and marks the device absent; a probe reads the identification, and all zeros or all ones are no device; the supply at
its limit for 100 ms is an alarm until 1 s below it. SCK's period is 10 ns times the least whole number not below 100 MHz over EXP_CLK; outside a transaction
SCK stands at the idle level of its mode; the select of the transaction, or DSEL_N with DA[2:0], is low from its assertion to its release; and a controller
that does not drive the port leaves the pins to their pulls. -/
def Obligations.ExpansionActs : Prop :=
  (∀ t c rx tx o, Does (.spiTransactionEnd t c rx)
    (fun b =>
      let x := (b.ctl c).exp
      (b.ctl c).running = true ∧ x.tx = some (tx, o) ∧ tx.release ≤ b.now ∧ x.queue = [o])
    (fun b u =>
      let x := (b.ctl c).exp
      let y := (u.ctl c).exp
      y.tx = none ∧ y.freeAt = b.now + 100 ∧
      (∀ a n, o.kind = .read a n → y.queue = []) ∧ (∀ sel n l, o.kind = .xfer sel n l → y.queue = []) ∧
      (o.kind.slow = true → o.st = .queued → y.queue = [{ o with st := .enabled }] ∧ u.out = [] ∧ OnlyCtl c b u) ∧
      (o.kind.slow = true → o.st = .enabled →
        y.queue = [{ o with st := .polling, relAt := b.now, pollAt := b.now + x.items.val 0x0906 0 * 1000 }] ∧ y.busy = true ∧ u.out = [] ∧ OnlyCtl c b u) ∧
      OutputsKept b u)) ∧
  (∀ t c status o, Does (.winPoll t c status)
    (fun b =>
      let x := (b.ctl c).exp
      (b.ctl c).running = true ∧ x.fitsShort (x.shortTx [0x05] 16 b.now) b.now = true ∧ x.wait = false ∧ x.queue = [o] ∧ o.kind.window = true)
    (fun b u =>
      let x := (b.ctl c).exp
      let y := (u.ctl c).exp
      let tx := x.shortTx [0x05] 16 b.now
      let poll := x.items.val 0x0906 0 * 1000
      (o.st = .enabled → bit status 1 = true → ∃ p : SpiTx, u.out = [.spi c tx, .spi c p] ∧ y.tx = some (p, o) ∧ y.queue = [o] ∧ p =
        { sel := x.items.val 0x0905 0, mode := x.items.val 0x0902 0, period := sckPeriod (x.items.val 0x0903 0), width := 8, frames := o.kind.program
          total := 8 * o.kind.program.length, start := b.now + 100 }) ∧
      (o.st = .enabled → bit status 1 = false → y.queue = [] ∧ .spi c tx ∈ u.out) ∧
      (o.st = .polling → o.pollAt ≤ tx.start → bit status 0 = false → y.queue = [] ∧ y.tmo = x.tmo ∧ .spi c tx ∈ u.out) ∧
      (o.st = .polling → o.pollAt ≤ tx.start → bit status 0 = true → tx.start < o.relAt + x.timeout o.kind →
        y.queue = [{ o with pollAt := o.relAt + poll * ((tx.start - o.relAt) / poll + 1) }] ∧ y.busy = true ∧ u.out = [.spi c tx]) ∧
      (o.st = .polling → tx.start < o.pollAt → y = x ∧ u.out = []) ∧ OutputsKept b u)) ∧
  (∀ t c status o, Does (.winTimeout t c status)
    (fun b =>
      let x := (b.ctl c).exp
      let tx := x.shortTx [0x05] 16 b.now
      (b.ctl c).running = true ∧ x.fitsShort tx b.now = true ∧ x.wait = false ∧ x.queue = [o] ∧ o.kind.window = true ∧ o.st = .polling ∧
      bit status 0 = true ∧ o.pollAt ≤ tx.start ∧ o.relAt + x.timeout o.kind ≤ tx.start)
    (fun b u =>
      let x := (b.ctl c).exp
      let y := (u.ctl c).exp
      y.queue = [] ∧ y.absent = true ∧ y.fault = true ∧ y.tmo = min (2 ^ 32 - 1) (x.tmo + 1) ∧ .spi c (x.shortTx [0x05] 16 b.now) ∈ u.out ∧
      OutputsKept b u)) ∧
  (∀ t c p, Does (.winProbe t c p)
    (fun b =>
      let x := (b.ctl c).exp
      (b.ctl c).running = true ∧ bit (x.param 0 1) 0 = false ∧ x.fitsShort (x.shortTx [0x9F] 32 b.now) b.now = true ∧ x.wait = false ∧
      x.probe = true ∧ x.queue = [])
    (fun b u =>
      let x := (b.ctl c).exp
      let y := (u.ctl c).exp
      let none_ := p.jedec = 0 ∨ p.jedec = 0xFFFFFF
      .spi c (x.shortTx [0x9F] 32 b.now) ∈ u.out ∧ (none_ → y.absent = true ∧ y.absAl = true ∧ y.table = none) ∧
      (¬ none_ → y.absent = false ∧ y.absAl = false ∧ y.jedec = p.jedec ∧ y.sfdp = false ∧ y.unsupp = false ∧ y.table = none) ∧
      OutputsKept b u)) ∧
  (∀ t c p, Does (.winProbe t c p)
    (fun b =>
      let x := (b.ctl c).exp
      let sfdp := x.shortTx [0x5A, 0, 0, 0] 104 b.now
      (b.ctl c).running = true ∧ bit (x.param 0 1) 0 = true ∧ x.fitsShort (x.shortTx [0x9F] 32 (sfdp.start - 100)) b.now = true ∧ x.wait = false ∧
      x.probe = true ∧ x.queue = [] ∧ p.jedec ≠ 0 ∧ p.jedec ≠ 0xFFFFFF)
    (fun b u =>
      let x := (b.ctl c).exp
      let y := (u.ctl c).exp
      let sfdp := x.shortTx [0x5A, 0, 0, 0] 104 b.now
      .spi c (x.shortTx [0x9F] 32 (sfdp.start - 100)) ∈ u.out ∧ .spi c sfdp ∈ u.out ∧ y.absent = false ∧ y.sfdp = p.sfdp ∧ y.jedec = p.jedec ∧
      (y.unsupp = true ↔ p.sfdp = true ∧ (p.four = true ∨ p.page.getD (x.param 1 1) < 6 ∨ 9 < p.page.getD (x.param 1 1))) ∧ OutputsKept b u)) ∧
  (∀ mhz, 1 ≤ mhz → ∃ n, sckPeriod mhz = 10 * n ∧ 100 ≤ n * mhz ∧ (n - 1) * mhz < 100) ∧
  (∀ (x : Exp) (tx : SpiTx) (o : ExpOp) (t : Instant), x.drive = true → x.tx = some (tx, o) → 2 ≤ tx.period →
    let on := decide (tx.assert ≤ t ∧ t < tx.release)
    (t < tx.edge 0 ∨ tx.release ≤ t → (x.pins t).sck = decide (2 ≤ tx.mode)) ∧
    (x.decoded = false → (x.pins t).dsel = true ∧ ∀ i : Fin 2, (x.pins t).sel[i] = !(on && decide (tx.sel = i.val))) ∧
    (x.decoded = true → (x.pins t).dsel = !on ∧ ((x.pins t).sel = Vector.replicate 2 true) ∧ (tx.start ≤ t → (x.pins t).da = tx.sel))) ∧
  (∀ t c, (∀ x : Exp, x.drive = false → x.pins t = {}) ∧ ∀ s : State, (s.ctl c).exp.drive = true → (s.ctl c.other).exp.drive = false →
    s.x40 = (s.ctl c).exp.pins s.now) ∧
  (∀ t ma, Does (.expSupply t ma)
    (fun b => b.expPowered = true ∧ b.expOver = false)
    (fun b u => (u.expOver = true ↔ 200 ≤ ma ∧ ∃ a, b.expSince = some a ∧ a + 100000000 ≤ b.now) ∧ (ma < 200 → u.expSince = none) ∧ Logged b u ∧
      u = { b with expOver := u.expOver, expSince := u.expSince, ctlA := u.ctlA, ctlB := u.ctlB })) ∧
  (∀ t ma, Does (.expSupplyCleared t ma)
    (fun b => b.expOver = true)
    (fun b u => (u.expOver = false ↔ ma < 200 ∧ ∃ a, b.expSince = some a ∧ a + 1000000000 ≤ b.now) ∧ (200 ≤ ma → u.expSince = none) ∧ Logged b u ∧
      u = { b with expOver := u.expOver, expSince := u.expSince, ctlA := u.ctlA, ctlB := u.ctlB }))

/-- A step takes the command at the front of the queue and runs its meaning with the queue's rest; on an empty queue the block idles (log entry 5). -/
def Obligations.StepTakesTheFront : Prop :=
  (∀ (i : Instr) (s : State) (rest : List Instr), step { s with pending := i :: rest } = exec i { s with pending := rest }) ∧
  (∀ s : State, s.pending = [] → step s = .next s)

/-- Every command completes from every state, with a later clock or the same, and touches no command that waits (log entry 1). -/
def Obligations.CommandsComplete : Prop :=
  ∀ (i : Instr) (s : State), Gives (exec i s) (fun u => u.pending = s.pending ∧ u.now = max s.now i.instant)

/-- R39, R42, R45, R48, R49: the unit mode is SPLIT where both controllers are in HOLD for a split; else, with none ACTIVE, LIMP once no cartridge is
held, and until then the mode that stood; else, once the ACTIVE controller has claimed, DUAL where the other is STANDBY_SYNCED and the pair link up, and
SOLO where not; and LIMP stays until it has claimed. The reading of R45 beside R42 and R49 is log entry 16's. -/
def Obligations.UnitModeInOrder : Prop :=
  ∀ s : State,
    let split : Prop := ∀ c, (s.ctl c).role = .hold ∧ (s.ctl c).cause = 2
    let none_ : Prop := ∀ c, (s.ctl c).role ≠ .active
    let held : Prop := ∃ k c, (s.cart k).holder = some c
    let claimed : Prop := ∃ c, s.active = some c ∧ ((s.ctl c).ready = true ∨ (∃ k, (s.cart k).holder = some c) ∧
      ∀ k : Slot, s.present c k = true → (s.cart k).removing = false → ((s.ctl c).claims[k]).unclaimed = false → (s.cart k).holder = some c)
    let dual : Prop := ∃ c, s.active = some c ∧ (s.ctl c).role = .active ∧ (s.ctl c.other).role = .synced ∧ ∀ d, (s.ctl d).link = true
    (split → s.unitMode = .split) ∧ (¬split → none_ → ¬held → s.unitMode = .limp) ∧
    (¬split → none_ → held → s.mode ≠ .split → s.unitMode = s.mode) ∧ (¬split → claimed → dual → s.unitMode = .dual) ∧
    (¬split → claimed → ¬dual → s.unitMode = .solo) ∧ (¬split → ¬claimed → s.mode = .limp → s.unitMode = .limp)

/-- R653, R654, R657, R658, R661, R663: every register whose reset value its table gives reads that value in the state before first power, but
CTRL_ROLE, TIME_STAT and FAN_STAT, which read the present mode, the 37 s of R716 and the full duty of R38. Registers without a row here have no value
in the tables. The three promises of Safety.lean hold at reset, where the unit is in LIMP with no controller ACTIVE (R49), every channel is OFF (R239)
with its generator disabled at the defaults of R288 (R340), and nothing waits. State.reset itself, the unit before its first power, is log entry 4's. -/
def Obligations.ResetLeaves : Prop :=
  (∀ c, ∀ o ∈ [0x14, 0x18, 0x1C, 0x20, 0x24, 0x2C, 0x30, 0x34, 0x40, 0x44, 0x48, 0x4C, 0x54, 0x58, 0x60, 0x64, 0x68, 0x6C, 0x70, 0x80, 0x84, 0x88, 0x8C,
      0xA0, 0xA4, 0xB0, 0xB4, 0xB8, 0xBC, 0xC0, 0xC4, 0xC8, 0xCC, 0xD4, 0xD8, 0xDC, 0xE0, 0xF4], State.reset.ctrlWord c o = 0) ∧
  (∀ c, State.reset.ctrlWord c 0xD0 = 1 ∧ State.reset.ctrlWord c 0xF0 = 0xFFFFFFFF) ∧
  (∀ k : Slot, ∀ o ∈ [0x10, 0x1C, 0x20, 0x24, 0x28, 0x2C, 0x30, 0x34, 0x38, 0x54, 0x58], State.reset.cartWord k o = 0) ∧
  (∀ k : Slot, State.reset.cartWord k 0x3C = 0x32 ∧ ∀ o ∈ [0x40, 0x44, 0x48, 0x4C], State.reset.cartWord k o = 0x00010000) ∧
  (∀ c : Ch, ∀ r ∈ [(0x00, 0x00000018), (0x04, 0x80000000), (0x08, 0x00001F40), (0x0C, 0), (0x10, 0), (0x14, 0), (0x18, 0), (0x1C, 4), (0x20, 0), (0x24, 0),
      (0x28, 0), (0x2C, 0x00000A30), (0x30, 0x00320190), (0x34, 0x01F40000), (0x38, 0x0214281E), (0x3C, 0x00640032), (0x40, 0x00C80064),
      (0x44, 0x00140000), (0x48, 0x0014012C), (0x4C, 0x003C0078), (0x50, 0x00646431)], State.reset.chanWord c r.1 0 = r.2) ∧
  (∀ c : Ch, ∀ r ∈ [(0x5C, 0x00001F40), (0x60, 0), (0x64, 0), (0xA0, 0), (0xA8, 0xFFFFFFFF), (0xAC, 0), (0xB0, 0x80000000), (0xB4, 0x80000000), (0xB8, 0),
      (0xBC, 0), (0xD0, 0xFFFFFFFF), (0xD4, 0xFFFFFFFF), (0xD8, 0)], State.reset.chanWord c r.1 0 = r.2) ∧
  (∀ c, State.reset.gnssWord c 0x04 = 3 ∧ ∀ o ∈ [0x08, 0x0C, 0x10, 0x14, 0x18, 0x1C, 0x20, 0x24, 0x28, 0x40, 0x44, 0xBC], State.reset.gnssWord c o = 0) ∧
  (∀ c, ∀ o ∈ [0x18, 0x1C, 0x20], (State.reset.ctl c).expWord o = 0) ∧
  State.reset.Untripped ∧ State.reset.JournalFresh ∧ State.reset.InTime ∧ State.reset.unitMode = .limp ∧ State.reset.active = none ∧
  (∀ c : Ch, (State.reset.chan c).stage.output = .off ∧ (State.reset.chan c).gen.enabled = false ∧ (State.reset.chan c).gen.act = {}) ∧
  State.reset.pending = []

/-- A channel that conducts stands under no trip (R220, R243, R261): every step keeps this. -/
def Obligations.TrippedChannelsStayOff : Prop :=
  ∀ s u : State, s.Untripped → step s = .next u → u.Untripped

/-- Every transaction in a journal has a JSN below its controller's next one, so that no JSN is used twice (R857): every step keeps this. -/
def Obligations.JournalNumbersStayFresh : Prop :=
  ∀ s u : State, s.JournalFresh → step s = .next u → u.JournalFresh

/-- While only well-formed commands wait, the clock stays within its 63 bits (R12, R14): every step keeps this. -/
def Obligations.ClockStaysInRange : Prop :=
  ∀ s u : State, s.InTime → step s = .next u → u.InTime

/-- R523, R15: a packet as the unit writes it is 40 + L bytes long and reads back as the same fields, whatever they are; and bytes that read as a packet are
those fields written out again. -/
def Obligations.PacketsReadBack : Prop :=
  (∀ p : Packet, p.flags < 256 → p.gen < 256 → p.seq < 2 ^ 48 → p.opcode < 65536 → p.status < 65536 → -(2 ^ 63 : Int) ≤ p.time → p.time < 2 ^ 63 →
    p.params.length ≤ 1024 → p.tag.length = 16 →
    p.bytes.length = 40 + p.params.length ∧
    packetOf p.bytes = some { flags := p.flags, client := p.client.val, gen := p.gen, seq := p.seq, opcode := p.opcode, status := p.status, time := p.time
                              params := p.params, tag := p.tag
                              head := packetHead p.flags p.client p.gen p.seq p.opcode p.status p.time p.params }) ∧
  (∀ b k, packetOf b = some k → b = k.head ++ k.tag ∧ k.tag.length = 16 ∧ k.params.length ≤ 1024 ∧
    k.head = [0x02] ++ be 1 k.flags ++ be 1 k.client ++ be 1 k.gen ++ be 6 k.seq ++ be 2 k.opcode ++ be 2 k.params.length ++ be 2 k.status ++
      beInt 8 k.time ++ k.params)

/-- R525, R505, R563: a reply carries the client slot, key generation, sequence and RETRANS flag of its request, and leaves by the request's own port to the
address and port it came from, whether it is sent at once or waits for an address to be resolved. -/
def Obligations.RepliesAnswerTheirRequest : Prop :=
  ∀ (s : State) (c : Ctl) (q : Request) (op status : Nat) (time : UnitTime) (params : Bytes),
    let u := s.reply c q op status time params
    let mine := fun (o : Sent) => ∃ p, o = .reply c q.via q.src (q.toUnit && (s.ctl c).role = .active) p ∧
      p.client = q.client ∧ p.gen = q.gen ∧ p.seq = q.seq ∧ bit p.flags 0 = true ∧ bit p.flags 3 = q.retrans ∧
      p.opcode = op ||| 0x8000 ∧ p.status = status ∧ p.time = time ∧ p.params = params
    (∀ o ∈ u.out, o ∈ s.out ∨ mine o ∨ ∃ b ip, q.via = .bus b ∧ o = .arpRequest c b ip) ∧
    (∀ d b, ∀ w ∈ ((u.ctl d).phy b).waits, w ∈ ((s.ctl d).phy b).waits ∨ (d = c ∧ q.via = .bus b ∧ mine w.wait))

/-- R523, R524, R528, R562, R563: a PING that passes is answered at once by one packet, on X50 and to an address in the port's ARP cache on a bus: REPLY set,
opcode 0x8000, DONE, no parameters, the unit time of its execution, and the tag over bytes 0 to 23 under the key that the request names. -/
def Obligations.PingIsAnswered : Prop :=
  let answer := fun (q : Request) (k : KeyGen) (b : State) =>
    let time := (b.letIn q).utime q.ctl
    let flags := 1 ||| (b2n q.retrans <<< 3)
    ({ flags := flags, client := q.client, gen := q.gen, seq := q.seq, opcode := 0x8000, status := 0, time := time, params := []
       tag := tagOf k.key (packetHead flags q.client q.gen q.seq 0x8000 0 time []) } : Packet)
  (∀ t q k, q.via = .x50 → q.noReply = false → q.boot = false → Does (.ping t q)
    (fun b => Passes hPing q b ∧ ((b.letIn q).ctl q.ctl).key q.client q.gen b.now = some k)
    (fun b u => u.out = [.reply q.ctl .x50 q.src (q.toUnit && (b.ctl q.ctl).role = .active) (answer q k b)])) ∧
  (∀ t q k p a, q.via = .bus p → q.noReply = false → q.boot = false → Does (.ping t q)
    (fun b => Passes hPing q b ∧ ((b.letIn q).ctl q.ctl).key q.client q.gen b.now = some k ∧ (b.ctl q.ctl).addr p = some a ∧ a.near q.src.ip a.unit = true ∧
      q.src.ip ≠ 0 ∧ ((b.ctl q.ctl).phy p).st ≠ .down ∧ ((b.ctl q.ctl).phy p).queued b.now < 16 ∧ ∃ e ∈ ((b.ctl q.ctl).phy p).arp, e.ip = q.src.ip ∧ b.now < e.at_ + 300 * 1000000000)
    (fun b u => u.out = [.reply q.ctl (.bus p) q.src (q.toUnit && (b.ctl q.ctl).role = .active) (answer q k b)]))

/-- R574, R537, R567: a new request meets the checks in their order, and the first that fails gives its answer: NOT_ACTIVE with no entry, then DENIED,
BAD_PARAM or RANGE, then BUSY with no entry, then CONFLICT, EPOCH_STALE or HW_FAULT, each as an error reply that leaves its entry. A request that no
controller answers here changes nothing. -/
def Obligations.RequestsAreCheckedInOrder : Prop :=
  ∀ i h q, i.asked = some (h, q) →
    let new := fun (b : State) => b.answers h.op q = true ∧
      ((b.useKey q.ctl q.client q.gen).ctl ((b.useKey q.ctl q.client q.gen).winCtl q.ctl)).mram.window q.client q.seq q.retrans = .fresh
    let first := fun (b : State) => firstOf [h.deniedAt, h.paramAt, h.rangeAt] (b.letIn q) q.ctl q
    let last := fun (b : State) => firstOf [h.conflictAt, h.hw] (b.letIn q) q.ctl q
    Does i (fun b => b.answers h.op q = false) (fun b u => u = b) ∧
    Does i (fun b => new b ∧ (b.letIn q).notActive h q = true) (fun b u => u = b.keep ((b.letIn q).sayNotActive h.op q)) ∧
    (∀ r, Does i (fun b => new b ∧ (b.letIn q).notActive h q = false ∧ first b = some r) (fun b u => u = b.keep ((b.letIn q).refuse h q r))) ∧
    (∀ y, Does i (fun b => new b ∧ (b.letIn q).notActive h q = false ∧ first b = none ∧ (b.letIn q).bounded h q.ctl q = some y)
      (fun b u => u = b.keep ((b.letIn q).sayBusy h.op q y))) ∧
    (∀ r, Does i (fun b => new b ∧ (b.letIn q).notActive h q = false ∧ first b = none ∧ (b.letIn q).bounded h q.ctl q = none ∧ last b = some r)
      (fun b u => u = b.keep ((b.letIn q).refuse h q r)))

/-- R535, R536, R539, R588: a retransmission executes nothing of a journaled request. One with another digest is answered CONFLICT, one that still executes
gets no reply, a scheduled one is answered ACCEPTED with its T, a completed one with its entry's status and time; and a packet that is neither new nor a
retransmission is dropped. Beyond the use of its key, only the reply is left. -/
def Obligations.RetransmissionsExecuteNothing : Prop :=
  ∀ i h q, i.asked = some (h, q) →
    let k := fun (b : State) => b.useKey q.ctl q.client q.gen
    let win := fun (b : State) => ((k b).ctl ((k b).winCtl q.ctl)).mram.window q.client q.seq q.retrans
    Does i (fun b => b.answers h.op q = true ∧ win b = .drop) (fun b u => u = k b) ∧
    (∀ e, e.digest ≠ digestOf h.op q → Does i (fun b => b.answers h.op q = true ∧ win b = .again e)
      (fun b u => u = b.keep ((k b).reply q.ctl q h.op 0x0401 ((k b).utime q.ctl) (errParams 0xFFFF 0 3)))) ∧
    (∀ e, e.digest = digestOf h.op q → e.st = .inProgress → Does i (fun b => b.answers h.op q = true ∧ win b = .again e) (fun b u => u = k b)) ∧
    (∀ e, e.digest = digestOf h.op q → e.st = .scheduled → Does i (fun b => b.answers h.op q = true ∧ win b = .again e)
      (fun b u => u = b.keep ((k b).reply q.ctl q h.op 1 e.time (replyParams (k b) q.ctl q e)))) ∧
    (∀ e, e.digest = digestOf h.op q → e.st = .complete → e.jour = true → Does i (fun b => b.answers h.op q = true ∧ win b = .again e)
      (fun b u => u = b.keep ((k b).reply q.ctl q h.op e.status e.time
        (if e.status ≤ 1 then replyParams (k b) q.ctl q e else errParams e.off e.chan e.detail))))

/-- R601, R857, R858, R860, R862, R865: SET_CHANNEL through the journal. In SOLO its transaction takes the next JSN, is prepared, committed and released at
once with flag [2] of its header, gives every channel it names its HOST level and no other channel a change, makes its entry, and stays in its slot for the
cartridges to apply. In DUAL it is prepared only, and nothing is changed or answered yet. No output moves in either. -/
def Obligations.SetChannelIsJournaled : Prop :=
  (∀ t q, q.time = 0 → Does (.setChannel t q)
    (fun b => Passes hSetChannel q b ∧ b.paired = false ∧ b.JournalFresh)
    (fun b u =>
      let x := (b.ctl q.ctl).mram
      let y := (u.ctl q.ctl).mram
      let cs := (b.letIn q).named 0x0101 q.params
      y.jsn = x.jsn + 1 ∧ y.last = x.jsn ∧
      (∀ ch : Ch, ch ∈ cs → y.hosts[ch].level = levelOf (field q.params 1 1)) ∧ (∀ ch : Ch, ch ∉ cs → y.hosts[ch] = x.hosts[ch]) ∧
      (∃ j, y.slot x.jsn = some j ∧ j.st = .committed ∧ j.noMirror = true ∧ j.released = true ∧ j.mask = (b.letIn q).actsOn q.ctl cs) ∧
      (∃ e ∈ (y.client q.client).win, e.seq = q.seq ∧ e.st = .complete ∧ e.status = 0 ∧ e.jour = true) ∧
      OutputsKept b u)) ∧
  (∀ t q, Does (.setChannel t q)
    (fun b => Passes hSetChannel q b ∧ b.paired = true ∧ b.JournalFresh)
    (fun b u =>
      let x := (b.ctl q.ctl).mram
      let y := (u.ctl q.ctl).mram
      y.jsn = x.jsn + 1 ∧ y.last = x.last ∧ y.hosts = x.hosts ∧
      (∃ j, y.slot x.jsn = some j ∧ j.st = .prepared ∧ j.mask = (b.letIn q).actsOn q.ctl ((b.letIn q).named 0x0101 q.params)) ∧
      u.out = [] ∧ OutputsKept b u))

/-- R536: how the window takes a request's sequence s against its highest H: dropped where s is 0 or below H − 63; new above H, which becomes s while the
entries below the new H − 63 go; between them new where no entry stands for s, and else dropped without RETRANS and a retransmission with it. A request that
still executes has no entry yet, and stands as one here (R539). At H = 2^48 − 1 nothing is new any more (R538). -/
def Obligations.WindowClassifies : Prop :=
  ∀ (m : Mram) (cl : Client) (s : Nat) (retrans : Bool),
    let h := (m.client cl).high
    let entry := (m.client cl).win.find? fun e => e.seq = s
    ((s = 0 ∨ s < h - 63) → m.window cl s retrans = .drop) ∧
    (s ≠ 0 → h < s → h ≠ 2 ^ 48 - 1 → m.window cl s retrans = .fresh ∧ ((m.client cl).raise s).high = s ∧
      ∀ e, e ∈ ((m.client cl).raise s).win ↔ e ∈ (m.client cl).win ∧ s - 63 ≤ e.seq) ∧
    (s ≠ 0 → h - 63 ≤ s → s ≤ h →
      (entry = none → m.entryOf cl s = none → m.window cl s retrans = if h = 2 ^ 48 - 1 then .drop else .fresh) ∧
      (∀ e, entry = none → m.entryOf cl s = some e → m.window cl s false = .drop ∧ m.window cl s true = .again e) ∧
      (∀ e, entry = some e → m.window cl s false = .drop ∧
        m.window cl s true = .again (if m.working cl s then { e with st := .inProgress } else e)))
end

