-- ==== Sys2Proof/Laws/State.lean ====
section
/-!
SUPPORT. Laws/State.lean: what each update of the state leaves of each part, one lemma for a part and an update. A proof reads the state through
these and unfolds no record update.
-/
namespace Sys2Proof.Machine

@[simp] theorem Ctl.other_ne (c : Ctl) : (c.other = c) = False := by cases c <;> simp [Ctl.other]
@[simp] theorem Ctl.ne_other (c : Ctl) : (c = c.other) = False := by cases c <;> simp [Ctl.other]
@[simp] theorem Ctl.other_other (c : Ctl) : c.other.other = c := by cases c <;> rfl

/-! Elements of a vector. -/

@[simp] theorem setV_get {α : Type} {n : Nat} (v : Vector α n) (i j : Fin n) (x : α) : (setV v i x)[j] = if j = i then x else v[j] := by
  simp only [setV, Fin.getElem_fin, Vector.getElem_set]
  by_cases h : j = i
  · simp [h]
  · have : ¬i.val = j.val := fun e => h (Fin.ext e.symm)
    simp [h, this]

@[simp] theorem modV_get {α : Type} {n : Nat} (v : Vector α n) (i j : Fin n) (f : α → α) : (modV v i f)[j] = if j = i then f v[j] else v[j] := by
  simp only [modV, Fin.getElem_fin, Vector.getElem_set]
  by_cases h : j = i
  · simp [h]
  · have : ¬i.val = j.val := fun e => h (Fin.ext e.symm)
    simp [h, this]

/-! Parts of the state by index. -/

@[simp] theorem State.ctl_setCtl (s : State) (c d : Ctl) (x : Ctlr) : (s.setCtl c x).ctl d = if d = c then x else s.ctl d := by
  cases c <;> cases d <;> simp [State.setCtl, State.ctl]
@[simp] theorem State.ctl_modCtl (s : State) (c d : Ctl) (f : Ctlr → Ctlr) : (s.modCtl c f).ctl d = if d = c then f (s.ctl d) else s.ctl d := by
  by_cases h : d = c <;> simp [State.modCtl, h]

@[simp] theorem State.cart_setCart (s : State) (i j : Slot) (x : Cart) : (s.setCart i x).cart j = if j = i then x else s.cart j := by
  simpa [State.setCart, State.cart, setV] using setV_get s.carts i j x
@[simp] theorem State.cart_modCart (s : State) (i j : Slot) (f : Cart → Cart) : (s.modCart i f).cart j = if j = i then f (s.cart j) else s.cart j := by
  by_cases h : j = i <;> simp [State.modCart, h]

@[simp] theorem State.chan_setChan (s : State) (i j : Ch) (x : Chan) : (s.setChan i x).chan j = if j = i then x else s.chan j := by
  simpa [State.setChan, State.chan, setV] using setV_get s.chans i j x
@[simp] theorem State.chan_modChan (s : State) (i j : Ch) (f : Chan → Chan) : (s.modChan i f).chan j = if j = i then f (s.chan j) else s.chan j := by
  by_cases h : j = i <;> simp [State.modChan, h]

@[simp] theorem State.twin_setTwin (s : State) (i j : Pair) (x : Twin) : (s.setTwin i x).twin j = if j = i then x else s.twin j := by
  simpa [State.setTwin, State.twin, setV] using setV_get s.twins i j x
@[simp] theorem State.twin_modTwin (s : State) (i j : Pair) (f : Twin → Twin) : (s.modTwin i f).twin j = if j = i then f (s.twin j) else s.twin j := by
  by_cases h : j = i <;> simp [State.modTwin, h]

@[simp] theorem State.loop_setLoop (s : State) (i j : Quad) (x : Loop) : (s.setLoop i x).loop j = if j = i then x else s.loop j := by
  simpa [State.setLoop, State.loop, setV] using setV_get s.loops i j x
@[simp] theorem State.loop_modLoop (s : State) (i j : Quad) (f : Loop → Loop) : (s.modLoop i f).loop j = if j = i then f (s.loop j) else s.loop j := by
  by_cases h : j = i <;> simp [State.modLoop, h]

@[simp] theorem State.tach_setTach (s : State) (i j : Quad) (x : Tach) : (s.setTach i x).tach j = if j = i then x else s.tach j := by
  simpa [State.setTach, State.tach, setV] using setV_get s.tachs i j x
@[simp] theorem State.tach_modTach (s : State) (i j : Quad) (f : Tach → Tach) : (s.modTach i f).tach j = if j = i then f (s.tach j) else s.tach j := by
  by_cases h : j = i <;> simp [State.modTach, h]


/-! `setCtl` leaves the other parts. -/

@[simp] theorem State.cart_setCtl (s : State) (c : Ctl) (x : Ctlr) (j : Slot) : (s.setCtl c x).cart j = s.cart j := by cases c <;> rfl
@[simp] theorem State.chan_setCtl (s : State) (c : Ctl) (x : Ctlr) (j : Ch) : (s.setCtl c x).chan j = s.chan j := by cases c <;> rfl
@[simp] theorem State.twin_setCtl (s : State) (c : Ctl) (x : Ctlr) (j : Pair) : (s.setCtl c x).twin j = s.twin j := by cases c <;> rfl
@[simp] theorem State.loop_setCtl (s : State) (c : Ctl) (x : Ctlr) (j : Quad) : (s.setCtl c x).loop j = s.loop j := by cases c <;> rfl
@[simp] theorem State.tach_setCtl (s : State) (c : Ctl) (x : Ctlr) (j : Quad) : (s.setCtl c x).tach j = s.tach j := by cases c <;> rfl
@[simp] theorem State.cool_setCtl (s : State) (c : Ctl) (x : Ctlr)  : (s.setCtl c x).cool = s.cool := by cases c <;> rfl
@[simp] theorem State.ant_setCtl (s : State) (c : Ctl) (x : Ctlr)  : (s.setCtl c x).ant = s.ant := by cases c <;> rfl
@[simp] theorem State.plug_setCtl (s : State) (c : Ctl) (x : Ctlr)  : (s.setCtl c x).plug = s.plug := by cases c <;> rfl
@[simp] theorem State.s50_setCtl (s : State) (c : Ctl) (x : Ctlr)  : (s.setCtl c x).s50 = s.s50 := by cases c <;> rfl
@[simp] theorem State.x50_setCtl (s : State) (c : Ctl) (x : Ctlr)  : (s.setCtl c x).x50 = s.x50 := by cases c <;> rfl
@[simp] theorem State.expOver_setCtl (s : State) (c : Ctl) (x : Ctlr)  : (s.setCtl c x).expOver = s.expOver := by cases c <;> rfl
@[simp] theorem State.expSince_setCtl (s : State) (c : Ctl) (x : Ctlr)  : (s.setCtl c x).expSince = s.expSince := by cases c <;> rfl
@[simp] theorem State.mode_setCtl (s : State) (c : Ctl) (x : Ctlr)  : (s.setCtl c x).mode = s.mode := by cases c <;> rfl
@[simp] theorem State.out_setCtl (s : State) (c : Ctl) (x : Ctlr)  : (s.setCtl c x).out = s.out := by cases c <;> rfl
@[simp] theorem State.free_setCtl (s : State) (c : Ctl) (x : Ctlr)  : (s.setCtl c x).free = s.free := by cases c <;> rfl
@[simp] theorem State.now_setCtl (s : State) (c : Ctl) (x : Ctlr)  : (s.setCtl c x).now = s.now := by cases c <;> rfl
@[simp] theorem State.pending_setCtl (s : State) (c : Ctl) (x : Ctlr)  : (s.setCtl c x).pending = s.pending := by cases c <;> rfl

/-! `modCtl` leaves the other parts. -/

@[simp] theorem State.cart_modCtl (s : State) (c : Ctl) (f : Ctlr → Ctlr) (j : Slot) : (s.modCtl c f).cart j = s.cart j := by cases c <;> rfl
@[simp] theorem State.chan_modCtl (s : State) (c : Ctl) (f : Ctlr → Ctlr) (j : Ch) : (s.modCtl c f).chan j = s.chan j := by cases c <;> rfl
@[simp] theorem State.twin_modCtl (s : State) (c : Ctl) (f : Ctlr → Ctlr) (j : Pair) : (s.modCtl c f).twin j = s.twin j := by cases c <;> rfl
@[simp] theorem State.loop_modCtl (s : State) (c : Ctl) (f : Ctlr → Ctlr) (j : Quad) : (s.modCtl c f).loop j = s.loop j := by cases c <;> rfl
@[simp] theorem State.tach_modCtl (s : State) (c : Ctl) (f : Ctlr → Ctlr) (j : Quad) : (s.modCtl c f).tach j = s.tach j := by cases c <;> rfl
@[simp] theorem State.cool_modCtl (s : State) (c : Ctl) (f : Ctlr → Ctlr)  : (s.modCtl c f).cool = s.cool := by cases c <;> rfl
@[simp] theorem State.ant_modCtl (s : State) (c : Ctl) (f : Ctlr → Ctlr)  : (s.modCtl c f).ant = s.ant := by cases c <;> rfl
@[simp] theorem State.plug_modCtl (s : State) (c : Ctl) (f : Ctlr → Ctlr)  : (s.modCtl c f).plug = s.plug := by cases c <;> rfl
@[simp] theorem State.s50_modCtl (s : State) (c : Ctl) (f : Ctlr → Ctlr)  : (s.modCtl c f).s50 = s.s50 := by cases c <;> rfl
@[simp] theorem State.x50_modCtl (s : State) (c : Ctl) (f : Ctlr → Ctlr)  : (s.modCtl c f).x50 = s.x50 := by cases c <;> rfl
@[simp] theorem State.expOver_modCtl (s : State) (c : Ctl) (f : Ctlr → Ctlr)  : (s.modCtl c f).expOver = s.expOver := by cases c <;> rfl
@[simp] theorem State.expSince_modCtl (s : State) (c : Ctl) (f : Ctlr → Ctlr)  : (s.modCtl c f).expSince = s.expSince := by cases c <;> rfl
@[simp] theorem State.mode_modCtl (s : State) (c : Ctl) (f : Ctlr → Ctlr)  : (s.modCtl c f).mode = s.mode := by cases c <;> rfl
@[simp] theorem State.out_modCtl (s : State) (c : Ctl) (f : Ctlr → Ctlr)  : (s.modCtl c f).out = s.out := by cases c <;> rfl
@[simp] theorem State.free_modCtl (s : State) (c : Ctl) (f : Ctlr → Ctlr)  : (s.modCtl c f).free = s.free := by cases c <;> rfl
@[simp] theorem State.now_modCtl (s : State) (c : Ctl) (f : Ctlr → Ctlr)  : (s.modCtl c f).now = s.now := by cases c <;> rfl
@[simp] theorem State.pending_modCtl (s : State) (c : Ctl) (f : Ctlr → Ctlr)  : (s.modCtl c f).pending = s.pending := by cases c <;> rfl

/-! `setCart` leaves the other parts. -/

@[simp] theorem State.ctl_setCart (s : State) (i : Slot) (x : Cart) (d : Ctl) : (s.setCart i x).ctl d = s.ctl d := by cases d <;> rfl
@[simp] theorem State.chan_setCart (s : State) (i : Slot) (x : Cart) (j : Ch) : (s.setCart i x).chan j = s.chan j := rfl
@[simp] theorem State.twin_setCart (s : State) (i : Slot) (x : Cart) (j : Pair) : (s.setCart i x).twin j = s.twin j := rfl
@[simp] theorem State.loop_setCart (s : State) (i : Slot) (x : Cart) (j : Quad) : (s.setCart i x).loop j = s.loop j := rfl
@[simp] theorem State.tach_setCart (s : State) (i : Slot) (x : Cart) (j : Quad) : (s.setCart i x).tach j = s.tach j := rfl
@[simp] theorem State.cool_setCart (s : State) (i : Slot) (x : Cart)  : (s.setCart i x).cool = s.cool := rfl
@[simp] theorem State.ant_setCart (s : State) (i : Slot) (x : Cart)  : (s.setCart i x).ant = s.ant := rfl
@[simp] theorem State.plug_setCart (s : State) (i : Slot) (x : Cart)  : (s.setCart i x).plug = s.plug := rfl
@[simp] theorem State.s50_setCart (s : State) (i : Slot) (x : Cart)  : (s.setCart i x).s50 = s.s50 := rfl
@[simp] theorem State.x50_setCart (s : State) (i : Slot) (x : Cart)  : (s.setCart i x).x50 = s.x50 := rfl
@[simp] theorem State.expOver_setCart (s : State) (i : Slot) (x : Cart)  : (s.setCart i x).expOver = s.expOver := rfl
@[simp] theorem State.expSince_setCart (s : State) (i : Slot) (x : Cart)  : (s.setCart i x).expSince = s.expSince := rfl
@[simp] theorem State.mode_setCart (s : State) (i : Slot) (x : Cart)  : (s.setCart i x).mode = s.mode := rfl
@[simp] theorem State.out_setCart (s : State) (i : Slot) (x : Cart)  : (s.setCart i x).out = s.out := rfl
@[simp] theorem State.free_setCart (s : State) (i : Slot) (x : Cart)  : (s.setCart i x).free = s.free := rfl
@[simp] theorem State.now_setCart (s : State) (i : Slot) (x : Cart)  : (s.setCart i x).now = s.now := rfl
@[simp] theorem State.pending_setCart (s : State) (i : Slot) (x : Cart)  : (s.setCart i x).pending = s.pending := rfl

/-! `modCart` leaves the other parts. -/

@[simp] theorem State.ctl_modCart (s : State) (i : Slot) (f : Cart → Cart) (d : Ctl) : (s.modCart i f).ctl d = s.ctl d := by cases d <;> rfl
@[simp] theorem State.chan_modCart (s : State) (i : Slot) (f : Cart → Cart) (j : Ch) : (s.modCart i f).chan j = s.chan j := rfl
@[simp] theorem State.twin_modCart (s : State) (i : Slot) (f : Cart → Cart) (j : Pair) : (s.modCart i f).twin j = s.twin j := rfl
@[simp] theorem State.loop_modCart (s : State) (i : Slot) (f : Cart → Cart) (j : Quad) : (s.modCart i f).loop j = s.loop j := rfl
@[simp] theorem State.tach_modCart (s : State) (i : Slot) (f : Cart → Cart) (j : Quad) : (s.modCart i f).tach j = s.tach j := rfl
@[simp] theorem State.cool_modCart (s : State) (i : Slot) (f : Cart → Cart)  : (s.modCart i f).cool = s.cool := rfl
@[simp] theorem State.ant_modCart (s : State) (i : Slot) (f : Cart → Cart)  : (s.modCart i f).ant = s.ant := rfl
@[simp] theorem State.plug_modCart (s : State) (i : Slot) (f : Cart → Cart)  : (s.modCart i f).plug = s.plug := rfl
@[simp] theorem State.s50_modCart (s : State) (i : Slot) (f : Cart → Cart)  : (s.modCart i f).s50 = s.s50 := rfl
@[simp] theorem State.x50_modCart (s : State) (i : Slot) (f : Cart → Cart)  : (s.modCart i f).x50 = s.x50 := rfl
@[simp] theorem State.expOver_modCart (s : State) (i : Slot) (f : Cart → Cart)  : (s.modCart i f).expOver = s.expOver := rfl
@[simp] theorem State.expSince_modCart (s : State) (i : Slot) (f : Cart → Cart)  : (s.modCart i f).expSince = s.expSince := rfl
@[simp] theorem State.mode_modCart (s : State) (i : Slot) (f : Cart → Cart)  : (s.modCart i f).mode = s.mode := rfl
@[simp] theorem State.out_modCart (s : State) (i : Slot) (f : Cart → Cart)  : (s.modCart i f).out = s.out := rfl
@[simp] theorem State.free_modCart (s : State) (i : Slot) (f : Cart → Cart)  : (s.modCart i f).free = s.free := rfl
@[simp] theorem State.now_modCart (s : State) (i : Slot) (f : Cart → Cart)  : (s.modCart i f).now = s.now := rfl
@[simp] theorem State.pending_modCart (s : State) (i : Slot) (f : Cart → Cart)  : (s.modCart i f).pending = s.pending := rfl

/-! `setChan` leaves the other parts. -/

@[simp] theorem State.ctl_setChan (s : State) (i : Ch) (x : Chan) (d : Ctl) : (s.setChan i x).ctl d = s.ctl d := by cases d <;> rfl
@[simp] theorem State.cart_setChan (s : State) (i : Ch) (x : Chan) (j : Slot) : (s.setChan i x).cart j = s.cart j := rfl
@[simp] theorem State.twin_setChan (s : State) (i : Ch) (x : Chan) (j : Pair) : (s.setChan i x).twin j = s.twin j := rfl
@[simp] theorem State.loop_setChan (s : State) (i : Ch) (x : Chan) (j : Quad) : (s.setChan i x).loop j = s.loop j := rfl
@[simp] theorem State.tach_setChan (s : State) (i : Ch) (x : Chan) (j : Quad) : (s.setChan i x).tach j = s.tach j := rfl
@[simp] theorem State.cool_setChan (s : State) (i : Ch) (x : Chan)  : (s.setChan i x).cool = s.cool := rfl
@[simp] theorem State.ant_setChan (s : State) (i : Ch) (x : Chan)  : (s.setChan i x).ant = s.ant := rfl
@[simp] theorem State.plug_setChan (s : State) (i : Ch) (x : Chan)  : (s.setChan i x).plug = s.plug := rfl
@[simp] theorem State.s50_setChan (s : State) (i : Ch) (x : Chan)  : (s.setChan i x).s50 = s.s50 := rfl
@[simp] theorem State.x50_setChan (s : State) (i : Ch) (x : Chan)  : (s.setChan i x).x50 = s.x50 := rfl
@[simp] theorem State.expOver_setChan (s : State) (i : Ch) (x : Chan)  : (s.setChan i x).expOver = s.expOver := rfl
@[simp] theorem State.expSince_setChan (s : State) (i : Ch) (x : Chan)  : (s.setChan i x).expSince = s.expSince := rfl
@[simp] theorem State.mode_setChan (s : State) (i : Ch) (x : Chan)  : (s.setChan i x).mode = s.mode := rfl
@[simp] theorem State.out_setChan (s : State) (i : Ch) (x : Chan)  : (s.setChan i x).out = s.out := rfl
@[simp] theorem State.free_setChan (s : State) (i : Ch) (x : Chan)  : (s.setChan i x).free = s.free := rfl
@[simp] theorem State.now_setChan (s : State) (i : Ch) (x : Chan)  : (s.setChan i x).now = s.now := rfl
@[simp] theorem State.pending_setChan (s : State) (i : Ch) (x : Chan)  : (s.setChan i x).pending = s.pending := rfl

/-! `modChan` leaves the other parts. -/

@[simp] theorem State.ctl_modChan (s : State) (i : Ch) (f : Chan → Chan) (d : Ctl) : (s.modChan i f).ctl d = s.ctl d := by cases d <;> rfl
@[simp] theorem State.cart_modChan (s : State) (i : Ch) (f : Chan → Chan) (j : Slot) : (s.modChan i f).cart j = s.cart j := rfl
@[simp] theorem State.twin_modChan (s : State) (i : Ch) (f : Chan → Chan) (j : Pair) : (s.modChan i f).twin j = s.twin j := rfl
@[simp] theorem State.loop_modChan (s : State) (i : Ch) (f : Chan → Chan) (j : Quad) : (s.modChan i f).loop j = s.loop j := rfl
@[simp] theorem State.tach_modChan (s : State) (i : Ch) (f : Chan → Chan) (j : Quad) : (s.modChan i f).tach j = s.tach j := rfl
@[simp] theorem State.cool_modChan (s : State) (i : Ch) (f : Chan → Chan)  : (s.modChan i f).cool = s.cool := rfl
@[simp] theorem State.ant_modChan (s : State) (i : Ch) (f : Chan → Chan)  : (s.modChan i f).ant = s.ant := rfl
@[simp] theorem State.plug_modChan (s : State) (i : Ch) (f : Chan → Chan)  : (s.modChan i f).plug = s.plug := rfl
@[simp] theorem State.s50_modChan (s : State) (i : Ch) (f : Chan → Chan)  : (s.modChan i f).s50 = s.s50 := rfl
@[simp] theorem State.x50_modChan (s : State) (i : Ch) (f : Chan → Chan)  : (s.modChan i f).x50 = s.x50 := rfl
@[simp] theorem State.expOver_modChan (s : State) (i : Ch) (f : Chan → Chan)  : (s.modChan i f).expOver = s.expOver := rfl
@[simp] theorem State.expSince_modChan (s : State) (i : Ch) (f : Chan → Chan)  : (s.modChan i f).expSince = s.expSince := rfl
@[simp] theorem State.mode_modChan (s : State) (i : Ch) (f : Chan → Chan)  : (s.modChan i f).mode = s.mode := rfl
@[simp] theorem State.out_modChan (s : State) (i : Ch) (f : Chan → Chan)  : (s.modChan i f).out = s.out := rfl
@[simp] theorem State.free_modChan (s : State) (i : Ch) (f : Chan → Chan)  : (s.modChan i f).free = s.free := rfl
@[simp] theorem State.now_modChan (s : State) (i : Ch) (f : Chan → Chan)  : (s.modChan i f).now = s.now := rfl
@[simp] theorem State.pending_modChan (s : State) (i : Ch) (f : Chan → Chan)  : (s.modChan i f).pending = s.pending := rfl

/-! `setTwin` leaves the other parts. -/

@[simp] theorem State.ctl_setTwin (s : State) (i : Pair) (x : Twin) (d : Ctl) : (s.setTwin i x).ctl d = s.ctl d := by cases d <;> rfl
@[simp] theorem State.cart_setTwin (s : State) (i : Pair) (x : Twin) (j : Slot) : (s.setTwin i x).cart j = s.cart j := rfl
@[simp] theorem State.chan_setTwin (s : State) (i : Pair) (x : Twin) (j : Ch) : (s.setTwin i x).chan j = s.chan j := rfl
@[simp] theorem State.loop_setTwin (s : State) (i : Pair) (x : Twin) (j : Quad) : (s.setTwin i x).loop j = s.loop j := rfl
@[simp] theorem State.tach_setTwin (s : State) (i : Pair) (x : Twin) (j : Quad) : (s.setTwin i x).tach j = s.tach j := rfl
@[simp] theorem State.cool_setTwin (s : State) (i : Pair) (x : Twin)  : (s.setTwin i x).cool = s.cool := rfl
@[simp] theorem State.ant_setTwin (s : State) (i : Pair) (x : Twin)  : (s.setTwin i x).ant = s.ant := rfl
@[simp] theorem State.plug_setTwin (s : State) (i : Pair) (x : Twin)  : (s.setTwin i x).plug = s.plug := rfl
@[simp] theorem State.s50_setTwin (s : State) (i : Pair) (x : Twin)  : (s.setTwin i x).s50 = s.s50 := rfl
@[simp] theorem State.x50_setTwin (s : State) (i : Pair) (x : Twin)  : (s.setTwin i x).x50 = s.x50 := rfl
@[simp] theorem State.expOver_setTwin (s : State) (i : Pair) (x : Twin)  : (s.setTwin i x).expOver = s.expOver := rfl
@[simp] theorem State.expSince_setTwin (s : State) (i : Pair) (x : Twin)  : (s.setTwin i x).expSince = s.expSince := rfl
@[simp] theorem State.mode_setTwin (s : State) (i : Pair) (x : Twin)  : (s.setTwin i x).mode = s.mode := rfl
@[simp] theorem State.out_setTwin (s : State) (i : Pair) (x : Twin)  : (s.setTwin i x).out = s.out := rfl
@[simp] theorem State.free_setTwin (s : State) (i : Pair) (x : Twin)  : (s.setTwin i x).free = s.free := rfl
@[simp] theorem State.now_setTwin (s : State) (i : Pair) (x : Twin)  : (s.setTwin i x).now = s.now := rfl
@[simp] theorem State.pending_setTwin (s : State) (i : Pair) (x : Twin)  : (s.setTwin i x).pending = s.pending := rfl

/-! `modTwin` leaves the other parts. -/

@[simp] theorem State.ctl_modTwin (s : State) (i : Pair) (f : Twin → Twin) (d : Ctl) : (s.modTwin i f).ctl d = s.ctl d := by cases d <;> rfl
@[simp] theorem State.cart_modTwin (s : State) (i : Pair) (f : Twin → Twin) (j : Slot) : (s.modTwin i f).cart j = s.cart j := rfl
@[simp] theorem State.chan_modTwin (s : State) (i : Pair) (f : Twin → Twin) (j : Ch) : (s.modTwin i f).chan j = s.chan j := rfl
@[simp] theorem State.loop_modTwin (s : State) (i : Pair) (f : Twin → Twin) (j : Quad) : (s.modTwin i f).loop j = s.loop j := rfl
@[simp] theorem State.tach_modTwin (s : State) (i : Pair) (f : Twin → Twin) (j : Quad) : (s.modTwin i f).tach j = s.tach j := rfl
@[simp] theorem State.cool_modTwin (s : State) (i : Pair) (f : Twin → Twin)  : (s.modTwin i f).cool = s.cool := rfl
@[simp] theorem State.ant_modTwin (s : State) (i : Pair) (f : Twin → Twin)  : (s.modTwin i f).ant = s.ant := rfl
@[simp] theorem State.plug_modTwin (s : State) (i : Pair) (f : Twin → Twin)  : (s.modTwin i f).plug = s.plug := rfl
@[simp] theorem State.s50_modTwin (s : State) (i : Pair) (f : Twin → Twin)  : (s.modTwin i f).s50 = s.s50 := rfl
@[simp] theorem State.x50_modTwin (s : State) (i : Pair) (f : Twin → Twin)  : (s.modTwin i f).x50 = s.x50 := rfl
@[simp] theorem State.expOver_modTwin (s : State) (i : Pair) (f : Twin → Twin)  : (s.modTwin i f).expOver = s.expOver := rfl
@[simp] theorem State.expSince_modTwin (s : State) (i : Pair) (f : Twin → Twin)  : (s.modTwin i f).expSince = s.expSince := rfl
@[simp] theorem State.mode_modTwin (s : State) (i : Pair) (f : Twin → Twin)  : (s.modTwin i f).mode = s.mode := rfl
@[simp] theorem State.out_modTwin (s : State) (i : Pair) (f : Twin → Twin)  : (s.modTwin i f).out = s.out := rfl
@[simp] theorem State.free_modTwin (s : State) (i : Pair) (f : Twin → Twin)  : (s.modTwin i f).free = s.free := rfl
@[simp] theorem State.now_modTwin (s : State) (i : Pair) (f : Twin → Twin)  : (s.modTwin i f).now = s.now := rfl
@[simp] theorem State.pending_modTwin (s : State) (i : Pair) (f : Twin → Twin)  : (s.modTwin i f).pending = s.pending := rfl

/-! `setLoop` leaves the other parts. -/

@[simp] theorem State.ctl_setLoop (s : State) (i : Quad) (x : Loop) (d : Ctl) : (s.setLoop i x).ctl d = s.ctl d := by cases d <;> rfl
@[simp] theorem State.cart_setLoop (s : State) (i : Quad) (x : Loop) (j : Slot) : (s.setLoop i x).cart j = s.cart j := rfl
@[simp] theorem State.chan_setLoop (s : State) (i : Quad) (x : Loop) (j : Ch) : (s.setLoop i x).chan j = s.chan j := rfl
@[simp] theorem State.twin_setLoop (s : State) (i : Quad) (x : Loop) (j : Pair) : (s.setLoop i x).twin j = s.twin j := rfl
@[simp] theorem State.tach_setLoop (s : State) (i : Quad) (x : Loop) (j : Quad) : (s.setLoop i x).tach j = s.tach j := rfl
@[simp] theorem State.cool_setLoop (s : State) (i : Quad) (x : Loop)  : (s.setLoop i x).cool = s.cool := rfl
@[simp] theorem State.ant_setLoop (s : State) (i : Quad) (x : Loop)  : (s.setLoop i x).ant = s.ant := rfl
@[simp] theorem State.plug_setLoop (s : State) (i : Quad) (x : Loop)  : (s.setLoop i x).plug = s.plug := rfl
@[simp] theorem State.s50_setLoop (s : State) (i : Quad) (x : Loop)  : (s.setLoop i x).s50 = s.s50 := rfl
@[simp] theorem State.x50_setLoop (s : State) (i : Quad) (x : Loop)  : (s.setLoop i x).x50 = s.x50 := rfl
@[simp] theorem State.expOver_setLoop (s : State) (i : Quad) (x : Loop)  : (s.setLoop i x).expOver = s.expOver := rfl
@[simp] theorem State.expSince_setLoop (s : State) (i : Quad) (x : Loop)  : (s.setLoop i x).expSince = s.expSince := rfl
@[simp] theorem State.mode_setLoop (s : State) (i : Quad) (x : Loop)  : (s.setLoop i x).mode = s.mode := rfl
@[simp] theorem State.out_setLoop (s : State) (i : Quad) (x : Loop)  : (s.setLoop i x).out = s.out := rfl
@[simp] theorem State.free_setLoop (s : State) (i : Quad) (x : Loop)  : (s.setLoop i x).free = s.free := rfl
@[simp] theorem State.now_setLoop (s : State) (i : Quad) (x : Loop)  : (s.setLoop i x).now = s.now := rfl
@[simp] theorem State.pending_setLoop (s : State) (i : Quad) (x : Loop)  : (s.setLoop i x).pending = s.pending := rfl

/-! `modLoop` leaves the other parts. -/

@[simp] theorem State.ctl_modLoop (s : State) (i : Quad) (f : Loop → Loop) (d : Ctl) : (s.modLoop i f).ctl d = s.ctl d := by cases d <;> rfl
@[simp] theorem State.cart_modLoop (s : State) (i : Quad) (f : Loop → Loop) (j : Slot) : (s.modLoop i f).cart j = s.cart j := rfl
@[simp] theorem State.chan_modLoop (s : State) (i : Quad) (f : Loop → Loop) (j : Ch) : (s.modLoop i f).chan j = s.chan j := rfl
@[simp] theorem State.twin_modLoop (s : State) (i : Quad) (f : Loop → Loop) (j : Pair) : (s.modLoop i f).twin j = s.twin j := rfl
@[simp] theorem State.tach_modLoop (s : State) (i : Quad) (f : Loop → Loop) (j : Quad) : (s.modLoop i f).tach j = s.tach j := rfl
@[simp] theorem State.cool_modLoop (s : State) (i : Quad) (f : Loop → Loop)  : (s.modLoop i f).cool = s.cool := rfl
@[simp] theorem State.ant_modLoop (s : State) (i : Quad) (f : Loop → Loop)  : (s.modLoop i f).ant = s.ant := rfl
@[simp] theorem State.plug_modLoop (s : State) (i : Quad) (f : Loop → Loop)  : (s.modLoop i f).plug = s.plug := rfl
@[simp] theorem State.s50_modLoop (s : State) (i : Quad) (f : Loop → Loop)  : (s.modLoop i f).s50 = s.s50 := rfl
@[simp] theorem State.x50_modLoop (s : State) (i : Quad) (f : Loop → Loop)  : (s.modLoop i f).x50 = s.x50 := rfl
@[simp] theorem State.expOver_modLoop (s : State) (i : Quad) (f : Loop → Loop)  : (s.modLoop i f).expOver = s.expOver := rfl
@[simp] theorem State.expSince_modLoop (s : State) (i : Quad) (f : Loop → Loop)  : (s.modLoop i f).expSince = s.expSince := rfl
@[simp] theorem State.mode_modLoop (s : State) (i : Quad) (f : Loop → Loop)  : (s.modLoop i f).mode = s.mode := rfl
@[simp] theorem State.out_modLoop (s : State) (i : Quad) (f : Loop → Loop)  : (s.modLoop i f).out = s.out := rfl
@[simp] theorem State.free_modLoop (s : State) (i : Quad) (f : Loop → Loop)  : (s.modLoop i f).free = s.free := rfl
@[simp] theorem State.now_modLoop (s : State) (i : Quad) (f : Loop → Loop)  : (s.modLoop i f).now = s.now := rfl
@[simp] theorem State.pending_modLoop (s : State) (i : Quad) (f : Loop → Loop)  : (s.modLoop i f).pending = s.pending := rfl

/-! `setTach` leaves the other parts. -/

@[simp] theorem State.ctl_setTach (s : State) (i : Quad) (x : Tach) (d : Ctl) : (s.setTach i x).ctl d = s.ctl d := by cases d <;> rfl
@[simp] theorem State.cart_setTach (s : State) (i : Quad) (x : Tach) (j : Slot) : (s.setTach i x).cart j = s.cart j := rfl
@[simp] theorem State.chan_setTach (s : State) (i : Quad) (x : Tach) (j : Ch) : (s.setTach i x).chan j = s.chan j := rfl
@[simp] theorem State.twin_setTach (s : State) (i : Quad) (x : Tach) (j : Pair) : (s.setTach i x).twin j = s.twin j := rfl
@[simp] theorem State.loop_setTach (s : State) (i : Quad) (x : Tach) (j : Quad) : (s.setTach i x).loop j = s.loop j := rfl
@[simp] theorem State.cool_setTach (s : State) (i : Quad) (x : Tach)  : (s.setTach i x).cool = s.cool := rfl
@[simp] theorem State.ant_setTach (s : State) (i : Quad) (x : Tach)  : (s.setTach i x).ant = s.ant := rfl
@[simp] theorem State.plug_setTach (s : State) (i : Quad) (x : Tach)  : (s.setTach i x).plug = s.plug := rfl
@[simp] theorem State.s50_setTach (s : State) (i : Quad) (x : Tach)  : (s.setTach i x).s50 = s.s50 := rfl
@[simp] theorem State.x50_setTach (s : State) (i : Quad) (x : Tach)  : (s.setTach i x).x50 = s.x50 := rfl
@[simp] theorem State.expOver_setTach (s : State) (i : Quad) (x : Tach)  : (s.setTach i x).expOver = s.expOver := rfl
@[simp] theorem State.expSince_setTach (s : State) (i : Quad) (x : Tach)  : (s.setTach i x).expSince = s.expSince := rfl
@[simp] theorem State.mode_setTach (s : State) (i : Quad) (x : Tach)  : (s.setTach i x).mode = s.mode := rfl
@[simp] theorem State.out_setTach (s : State) (i : Quad) (x : Tach)  : (s.setTach i x).out = s.out := rfl
@[simp] theorem State.free_setTach (s : State) (i : Quad) (x : Tach)  : (s.setTach i x).free = s.free := rfl
@[simp] theorem State.now_setTach (s : State) (i : Quad) (x : Tach)  : (s.setTach i x).now = s.now := rfl
@[simp] theorem State.pending_setTach (s : State) (i : Quad) (x : Tach)  : (s.setTach i x).pending = s.pending := rfl

/-! `modTach` leaves the other parts. -/

@[simp] theorem State.ctl_modTach (s : State) (i : Quad) (f : Tach → Tach) (d : Ctl) : (s.modTach i f).ctl d = s.ctl d := by cases d <;> rfl
@[simp] theorem State.cart_modTach (s : State) (i : Quad) (f : Tach → Tach) (j : Slot) : (s.modTach i f).cart j = s.cart j := rfl
@[simp] theorem State.chan_modTach (s : State) (i : Quad) (f : Tach → Tach) (j : Ch) : (s.modTach i f).chan j = s.chan j := rfl
@[simp] theorem State.twin_modTach (s : State) (i : Quad) (f : Tach → Tach) (j : Pair) : (s.modTach i f).twin j = s.twin j := rfl
@[simp] theorem State.loop_modTach (s : State) (i : Quad) (f : Tach → Tach) (j : Quad) : (s.modTach i f).loop j = s.loop j := rfl
@[simp] theorem State.cool_modTach (s : State) (i : Quad) (f : Tach → Tach)  : (s.modTach i f).cool = s.cool := rfl
@[simp] theorem State.ant_modTach (s : State) (i : Quad) (f : Tach → Tach)  : (s.modTach i f).ant = s.ant := rfl
@[simp] theorem State.plug_modTach (s : State) (i : Quad) (f : Tach → Tach)  : (s.modTach i f).plug = s.plug := rfl
@[simp] theorem State.s50_modTach (s : State) (i : Quad) (f : Tach → Tach)  : (s.modTach i f).s50 = s.s50 := rfl
@[simp] theorem State.x50_modTach (s : State) (i : Quad) (f : Tach → Tach)  : (s.modTach i f).x50 = s.x50 := rfl
@[simp] theorem State.expOver_modTach (s : State) (i : Quad) (f : Tach → Tach)  : (s.modTach i f).expOver = s.expOver := rfl
@[simp] theorem State.expSince_modTach (s : State) (i : Quad) (f : Tach → Tach)  : (s.modTach i f).expSince = s.expSince := rfl
@[simp] theorem State.mode_modTach (s : State) (i : Quad) (f : Tach → Tach)  : (s.modTach i f).mode = s.mode := rfl
@[simp] theorem State.out_modTach (s : State) (i : Quad) (f : Tach → Tach)  : (s.modTach i f).out = s.out := rfl
@[simp] theorem State.free_modTach (s : State) (i : Quad) (f : Tach → Tach)  : (s.modTach i f).free = s.free := rfl
@[simp] theorem State.now_modTach (s : State) (i : Quad) (f : Tach → Tach)  : (s.modTach i f).now = s.now := rfl
@[simp] theorem State.pending_modTach (s : State) (i : Quad) (f : Tach → Tach)  : (s.modTach i f).pending = s.pending := rfl

/-! `modCool` leaves the other parts. -/

@[simp] theorem State.ctl_modCool (s : State) (f : Cool → Cool) (d : Ctl) : (s.modCool f).ctl d = s.ctl d := by cases d <;> rfl
@[simp] theorem State.cart_modCool (s : State) (f : Cool → Cool) (j : Slot) : (s.modCool f).cart j = s.cart j := rfl
@[simp] theorem State.chan_modCool (s : State) (f : Cool → Cool) (j : Ch) : (s.modCool f).chan j = s.chan j := rfl
@[simp] theorem State.twin_modCool (s : State) (f : Cool → Cool) (j : Pair) : (s.modCool f).twin j = s.twin j := rfl
@[simp] theorem State.loop_modCool (s : State) (f : Cool → Cool) (j : Quad) : (s.modCool f).loop j = s.loop j := rfl
@[simp] theorem State.tach_modCool (s : State) (f : Cool → Cool) (j : Quad) : (s.modCool f).tach j = s.tach j := rfl
@[simp] theorem State.ant_modCool (s : State) (f : Cool → Cool)  : (s.modCool f).ant = s.ant := rfl
@[simp] theorem State.plug_modCool (s : State) (f : Cool → Cool)  : (s.modCool f).plug = s.plug := rfl
@[simp] theorem State.s50_modCool (s : State) (f : Cool → Cool)  : (s.modCool f).s50 = s.s50 := rfl
@[simp] theorem State.x50_modCool (s : State) (f : Cool → Cool)  : (s.modCool f).x50 = s.x50 := rfl
@[simp] theorem State.expOver_modCool (s : State) (f : Cool → Cool)  : (s.modCool f).expOver = s.expOver := rfl
@[simp] theorem State.expSince_modCool (s : State) (f : Cool → Cool)  : (s.modCool f).expSince = s.expSince := rfl
@[simp] theorem State.mode_modCool (s : State) (f : Cool → Cool)  : (s.modCool f).mode = s.mode := rfl
@[simp] theorem State.out_modCool (s : State) (f : Cool → Cool)  : (s.modCool f).out = s.out := rfl
@[simp] theorem State.free_modCool (s : State) (f : Cool → Cool)  : (s.modCool f).free = s.free := rfl
@[simp] theorem State.now_modCool (s : State) (f : Cool → Cool)  : (s.modCool f).now = s.now := rfl
@[simp] theorem State.pending_modCool (s : State) (f : Cool → Cool)  : (s.modCool f).pending = s.pending := rfl

/-! `modAnt` leaves the other parts. -/

@[simp] theorem State.ctl_modAnt (s : State) (f : Ant → Ant) (d : Ctl) : (s.modAnt f).ctl d = s.ctl d := by cases d <;> rfl
@[simp] theorem State.cart_modAnt (s : State) (f : Ant → Ant) (j : Slot) : (s.modAnt f).cart j = s.cart j := rfl
@[simp] theorem State.chan_modAnt (s : State) (f : Ant → Ant) (j : Ch) : (s.modAnt f).chan j = s.chan j := rfl
@[simp] theorem State.twin_modAnt (s : State) (f : Ant → Ant) (j : Pair) : (s.modAnt f).twin j = s.twin j := rfl
@[simp] theorem State.loop_modAnt (s : State) (f : Ant → Ant) (j : Quad) : (s.modAnt f).loop j = s.loop j := rfl
@[simp] theorem State.tach_modAnt (s : State) (f : Ant → Ant) (j : Quad) : (s.modAnt f).tach j = s.tach j := rfl
@[simp] theorem State.cool_modAnt (s : State) (f : Ant → Ant)  : (s.modAnt f).cool = s.cool := rfl
@[simp] theorem State.plug_modAnt (s : State) (f : Ant → Ant)  : (s.modAnt f).plug = s.plug := rfl
@[simp] theorem State.s50_modAnt (s : State) (f : Ant → Ant)  : (s.modAnt f).s50 = s.s50 := rfl
@[simp] theorem State.x50_modAnt (s : State) (f : Ant → Ant)  : (s.modAnt f).x50 = s.x50 := rfl
@[simp] theorem State.expOver_modAnt (s : State) (f : Ant → Ant)  : (s.modAnt f).expOver = s.expOver := rfl
@[simp] theorem State.expSince_modAnt (s : State) (f : Ant → Ant)  : (s.modAnt f).expSince = s.expSince := rfl
@[simp] theorem State.mode_modAnt (s : State) (f : Ant → Ant)  : (s.modAnt f).mode = s.mode := rfl
@[simp] theorem State.out_modAnt (s : State) (f : Ant → Ant)  : (s.modAnt f).out = s.out := rfl
@[simp] theorem State.free_modAnt (s : State) (f : Ant → Ant)  : (s.modAnt f).free = s.free := rfl
@[simp] theorem State.now_modAnt (s : State) (f : Ant → Ant)  : (s.modAnt f).now = s.now := rfl
@[simp] theorem State.pending_modAnt (s : State) (f : Ant → Ant)  : (s.modAnt f).pending = s.pending := rfl

/-! `emit` leaves the other parts. -/

@[simp] theorem State.ctl_emit (s : State) (o : Sent) (d : Ctl) : (s.emit o).ctl d = s.ctl d := by cases d <;> rfl
@[simp] theorem State.cart_emit (s : State) (o : Sent) (j : Slot) : (s.emit o).cart j = s.cart j := rfl
@[simp] theorem State.chan_emit (s : State) (o : Sent) (j : Ch) : (s.emit o).chan j = s.chan j := rfl
@[simp] theorem State.twin_emit (s : State) (o : Sent) (j : Pair) : (s.emit o).twin j = s.twin j := rfl
@[simp] theorem State.loop_emit (s : State) (o : Sent) (j : Quad) : (s.emit o).loop j = s.loop j := rfl
@[simp] theorem State.tach_emit (s : State) (o : Sent) (j : Quad) : (s.emit o).tach j = s.tach j := rfl
@[simp] theorem State.cool_emit (s : State) (o : Sent)  : (s.emit o).cool = s.cool := rfl
@[simp] theorem State.ant_emit (s : State) (o : Sent)  : (s.emit o).ant = s.ant := rfl
@[simp] theorem State.plug_emit (s : State) (o : Sent)  : (s.emit o).plug = s.plug := rfl
@[simp] theorem State.s50_emit (s : State) (o : Sent)  : (s.emit o).s50 = s.s50 := rfl
@[simp] theorem State.x50_emit (s : State) (o : Sent)  : (s.emit o).x50 = s.x50 := rfl
@[simp] theorem State.expOver_emit (s : State) (o : Sent)  : (s.emit o).expOver = s.expOver := rfl
@[simp] theorem State.expSince_emit (s : State) (o : Sent)  : (s.emit o).expSince = s.expSince := rfl
@[simp] theorem State.mode_emit (s : State) (o : Sent)  : (s.emit o).mode = s.mode := rfl
@[simp] theorem State.free_emit (s : State) (o : Sent)  : (s.emit o).free = s.free := rfl
@[simp] theorem State.now_emit (s : State) (o : Sent)  : (s.emit o).now = s.now := rfl
@[simp] theorem State.pending_emit (s : State) (o : Sent)  : (s.emit o).pending = s.pending := rfl

@[simp] theorem State.cool_modCool (s : State) (f : Cool → Cool) : (s.modCool f).cool = f s.cool := rfl
@[simp] theorem State.ant_modAnt (s : State) (f : Ant → Ant) : (s.modAnt f).ant = f s.ant := rfl
@[simp] theorem State.out_emit (s : State) (o : Sent) : (s.emit o).out = s.out ++ [o] := rfl

/-! The start and the end of a command. -/

@[simp] theorem State.ctl_begin (s : State) (t : Instant) (d : Ctl) : (s.begin t).ctl d = s.ctl d := by cases d <;> rfl
@[simp] theorem State.ctl_keep (s u : State) (d : Ctl) : (s.keep u).ctl d = u.ctl d := by cases d <;> rfl
@[simp] theorem State.ctl_draw (s : State) (d : Ctl) : s.draw.2.ctl d = s.ctl d := by cases d <;> rfl
@[simp] theorem State.cart_begin (s : State) (t : Instant) (j : Slot) : (s.begin t).cart j = s.cart j := rfl
@[simp] theorem State.cart_keep (s u : State) (j : Slot) : (s.keep u).cart j = u.cart j := rfl
@[simp] theorem State.cart_draw (s : State) (j : Slot) : s.draw.2.cart j = s.cart j := rfl
@[simp] theorem State.chan_begin (s : State) (t : Instant) (j : Ch) : (s.begin t).chan j = s.chan j := rfl
@[simp] theorem State.chan_keep (s u : State) (j : Ch) : (s.keep u).chan j = u.chan j := rfl
@[simp] theorem State.chan_draw (s : State) (j : Ch) : s.draw.2.chan j = s.chan j := rfl
@[simp] theorem State.twin_begin (s : State) (t : Instant) (j : Pair) : (s.begin t).twin j = s.twin j := rfl
@[simp] theorem State.twin_keep (s u : State) (j : Pair) : (s.keep u).twin j = u.twin j := rfl
@[simp] theorem State.twin_draw (s : State) (j : Pair) : s.draw.2.twin j = s.twin j := rfl
@[simp] theorem State.loop_begin (s : State) (t : Instant) (j : Quad) : (s.begin t).loop j = s.loop j := rfl
@[simp] theorem State.loop_keep (s u : State) (j : Quad) : (s.keep u).loop j = u.loop j := rfl
@[simp] theorem State.loop_draw (s : State) (j : Quad) : s.draw.2.loop j = s.loop j := rfl
@[simp] theorem State.tach_begin (s : State) (t : Instant) (j : Quad) : (s.begin t).tach j = s.tach j := rfl
@[simp] theorem State.tach_keep (s u : State) (j : Quad) : (s.keep u).tach j = u.tach j := rfl
@[simp] theorem State.tach_draw (s : State) (j : Quad) : s.draw.2.tach j = s.tach j := rfl
@[simp] theorem State.cool_begin (s : State) (t : Instant)  : (s.begin t).cool = s.cool := rfl
@[simp] theorem State.cool_keep (s u : State)  : (s.keep u).cool = u.cool := rfl
@[simp] theorem State.cool_draw (s : State)  : s.draw.2.cool = s.cool := rfl
@[simp] theorem State.ant_begin (s : State) (t : Instant)  : (s.begin t).ant = s.ant := rfl
@[simp] theorem State.ant_keep (s u : State)  : (s.keep u).ant = u.ant := rfl
@[simp] theorem State.ant_draw (s : State)  : s.draw.2.ant = s.ant := rfl
@[simp] theorem State.plug_begin (s : State) (t : Instant)  : (s.begin t).plug = s.plug := rfl
@[simp] theorem State.plug_keep (s u : State)  : (s.keep u).plug = u.plug := rfl
@[simp] theorem State.plug_draw (s : State)  : s.draw.2.plug = s.plug := rfl
@[simp] theorem State.s50_begin (s : State) (t : Instant)  : (s.begin t).s50 = s.s50 := rfl
@[simp] theorem State.s50_keep (s u : State)  : (s.keep u).s50 = u.s50 := rfl
@[simp] theorem State.s50_draw (s : State)  : s.draw.2.s50 = s.s50 := rfl
@[simp] theorem State.x50_begin (s : State) (t : Instant)  : (s.begin t).x50 = s.x50 := rfl
@[simp] theorem State.x50_keep (s u : State)  : (s.keep u).x50 = u.x50 := rfl
@[simp] theorem State.x50_draw (s : State)  : s.draw.2.x50 = s.x50 := rfl
@[simp] theorem State.expOver_begin (s : State) (t : Instant)  : (s.begin t).expOver = s.expOver := rfl
@[simp] theorem State.expOver_keep (s u : State)  : (s.keep u).expOver = u.expOver := rfl
@[simp] theorem State.expOver_draw (s : State)  : s.draw.2.expOver = s.expOver := rfl
@[simp] theorem State.expSince_begin (s : State) (t : Instant)  : (s.begin t).expSince = s.expSince := rfl
@[simp] theorem State.expSince_keep (s u : State)  : (s.keep u).expSince = u.expSince := rfl
@[simp] theorem State.expSince_draw (s : State)  : s.draw.2.expSince = s.expSince := rfl
@[simp] theorem State.mode_begin (s : State) (t : Instant)  : (s.begin t).mode = s.mode := rfl
@[simp] theorem State.mode_keep (s u : State)  : (s.keep u).mode = u.mode := rfl
@[simp] theorem State.mode_draw (s : State)  : s.draw.2.mode = s.mode := rfl
@[simp] theorem State.out_keep (s u : State)  : (s.keep u).out = u.out := rfl
@[simp] theorem State.out_draw (s : State)  : s.draw.2.out = s.out := rfl
@[simp] theorem State.free_begin (s : State) (t : Instant)  : (s.begin t).free = s.free := rfl
@[simp] theorem State.free_keep (s u : State)  : (s.keep u).free = u.free := rfl
@[simp] theorem State.now_draw (s : State)  : s.draw.2.now = s.now := rfl
@[simp] theorem State.pending_begin (s : State) (t : Instant)  : (s.begin t).pending = s.pending := rfl
@[simp] theorem State.pending_draw (s : State)  : s.draw.2.pending = s.pending := rfl
@[simp] theorem State.now_begin (s : State) (t : Instant) : (s.begin t).now = max s.now t := rfl
@[simp] theorem State.out_begin (s : State) (t : Instant) : (s.begin t).out = [] := rfl
@[simp] theorem State.now_keep (s u : State) : (s.keep u).now = s.now := rfl
@[simp] theorem State.pending_keep (s u : State) : (s.keep u).pending = s.pending := rfl
@[simp] theorem State.free_draw (s : State) : s.draw.2.free = s.free + 1 := rfl
@[simp] theorem State.draw_fst (s : State) : s.draw.1 = Config.freeNat s.free := rfl

/-- Every command answers a next state. -/
theorem run_eq (t : Instant) (f : State → State) (s : State) : run t f s = .next ((s.begin t).keep (f (s.begin t))) := rfl

@[simp] theorem when_true (f : State → State) (s : State) : when true f s = f s := rfl
@[simp] theorem when_false (f : State → State) (s : State) : when false f s = s := rfl

/-- Two states that agree in every part are equal. -/
theorem State.ext_parts {s u : State} (h0 : s.now = u.now) (h1 : ∀ c, s.ctl c = u.ctl c) (h2 : s.carts = u.carts) (h3 : s.chans = u.chans)
    (h4 : s.twins = u.twins) (h5 : s.loops = u.loops) (h6 : s.tachs = u.tachs) (h7 : s.cool = u.cool) (h8 : s.ant = u.ant)
    (h9 : s.plug = u.plug) (h10 : s.s50 = u.s50) (h11 : s.x50 = u.x50) (h12 : s.expOver = u.expOver) (h13 : s.expSince = u.expSince)
    (h14 : s.mode = u.mode) (h15 : s.out = u.out) (h16 : s.free = u.free) (h17 : s.pending = u.pending) : s = u := by
  have ha := h1 .a
  have hb := h1 .b
  cases s; cases u; simp_all [State.ctl]

/-! Parts of a controller. -/

@[simp] theorem State.modMram_eq (s : State) (c : Ctl) (f : Mram → Mram) : s.modMram c f = s.modCtl c (·.modMram f) := rfl
@[simp] theorem Ctlr.fitted_modMram (x : Ctlr) (f : Mram → Mram) : (x.modMram f).fitted = x.fitted := rfl
@[simp] theorem Ctlr.powered_modMram (x : Ctlr) (f : Mram → Mram) : (x.modMram f).powered = x.powered := rfl
@[simp] theorem Ctlr.serial_modMram (x : Ctlr) (f : Mram → Mram) : (x.modMram f).serial = x.serial := rfl
@[simp] theorem Ctlr.issue_modMram (x : Ctlr) (f : Mram → Mram) : (x.modMram f).issue = x.issue := rfl
@[simp] theorem Ctlr.role_modMram (x : Ctlr) (f : Mram → Mram) : (x.modMram f).role = x.role := rfl
@[simp] theorem Ctlr.cause_modMram (x : Ctlr) (f : Mram → Mram) : (x.modMram f).cause = x.cause := rfl
@[simp] theorem Ctlr.take_modMram (x : Ctlr) (f : Mram → Mram) : (x.modMram f).take = x.take := rfl
@[simp] theorem Ctlr.unsync_modMram (x : Ctlr) (f : Mram → Mram) : (x.modMram f).unsync = x.unsync := rfl
@[simp] theorem Ctlr.roleAt_modMram (x : Ctlr) (f : Mram → Mram) : (x.modMram f).roleAt = x.roleAt := rfl
@[simp] theorem Ctlr.roleIn_modMram (x : Ctlr) (f : Mram → Mram) : (x.modMram f).roleIn = x.roleIn := rfl
@[simp] theorem Ctlr.roleEv_modMram (x : Ctlr) (f : Mram → Mram) : (x.modMram f).roleEv = x.roleEv := rfl
@[simp] theorem Ctlr.okFrom_modMram (x : Ctlr) (f : Mram → Mram) : (x.modMram f).okFrom = x.okFrom := rfl
@[simp] theorem Ctlr.swapAt_modMram (x : Ctlr) (f : Mram → Mram) : (x.modMram f).swapAt = x.swapAt := rfl
@[simp] theorem Ctlr.boot_modMram (x : Ctlr) (f : Mram → Mram) : (x.modMram f).boot = x.boot := rfl
@[simp] theorem Ctlr.refAt_modMram (x : Ctlr) (f : Mram → Mram) : (x.modMram f).refAt = x.refAt := rfl
@[simp] theorem Ctlr.miles_modMram (x : Ctlr) (f : Mram → Mram) : (x.modMram f).miles = x.miles := rfl
@[simp] theorem Ctlr.started_modMram (x : Ctlr) (f : Mram → Mram) : (x.modMram f).started = x.started := rfl
@[simp] theorem Ctlr.bootRst_modMram (x : Ctlr) (f : Mram → Mram) : (x.modMram f).bootRst = x.bootRst := rfl
@[simp] theorem Ctlr.bootEv_modMram (x : Ctlr) (f : Mram → Mram) : (x.modMram f).bootEv = x.bootEv := rfl
@[simp] theorem Ctlr.imgB_modMram (x : Ctlr) (f : Mram → Mram) : (x.modMram f).imgB = x.imgB := rfl
@[simp] theorem Ctlr.ready_modMram (x : Ctlr) (f : Mram → Mram) : (x.modMram f).ready = x.ready := rfl
@[simp] theorem Ctlr.failN_modMram (x : Ctlr) (f : Mram → Mram) : (x.modMram f).failN = x.failN := rfl
@[simp] theorem Ctlr.peerFail_modMram (x : Ctlr) (f : Mram → Mram) : (x.modMram f).peerFail = x.peerFail := rfl
@[simp] theorem Ctlr.peerGone_modMram (x : Ctlr) (f : Mram → Mram) : (x.modMram f).peerGone = x.peerGone := rfl
@[simp] theorem Ctlr.lanes_modMram (x : Ctlr) (f : Mram → Mram) : (x.modMram f).lanes = x.lanes := rfl
@[simp] theorem Ctlr.missed_modMram (x : Ctlr) (f : Mram → Mram) : (x.modMram f).missed = x.missed := rfl
@[simp] theorem Ctlr.beatAt_modMram (x : Ctlr) (f : Mram → Mram) : (x.modMram f).beatAt = x.beatAt := rfl
@[simp] theorem Ctlr.linkAl_modMram (x : Ctlr) (f : Mram → Mram) : (x.modMram f).linkAl = x.linkAl := rfl
@[simp] theorem Ctlr.beatDue_modMram (x : Ctlr) (f : Mram → Mram) : (x.modMram f).beatDue = x.beatDue := rfl
@[simp] theorem Ctlr.beatTx_modMram (x : Ctlr) (f : Mram → Mram) : (x.modMram f).beatTx = x.beatTx := rfl
@[simp] theorem Ctlr.beat_modMram (x : Ctlr) (f : Mram → Mram) : (x.modMram f).beat = x.beat := rfl
@[simp] theorem Ctlr.electTx_modMram (x : Ctlr) (f : Mram → Mram) : (x.modMram f).electTx = x.electTx := rfl
@[simp] theorem Ctlr.elect_modMram (x : Ctlr) (f : Mram → Mram) : (x.modMram f).elect = x.elect := rfl
@[simp] theorem Ctlr.peerOn_modMram (x : Ctlr) (f : Mram → Mram) : (x.modMram f).peerOn = x.peerOn := rfl
@[simp] theorem Ctlr.schema_modMram (x : Ctlr) (f : Mram → Mram) : (x.modMram f).schema = x.schema := rfl
@[simp] theorem Ctlr.line_modMram (x : Ctlr) (f : Mram → Mram) : (x.modMram f).line = x.line := rfl
@[simp] theorem Ctlr.minor_modMram (x : Ctlr) (f : Mram → Mram) : (x.modMram f).minor = x.minor := rfl
@[simp] theorem Ctlr.build_modMram (x : Ctlr) (f : Mram → Mram) : (x.modMram f).build = x.build := rfl
@[simp] theorem Ctlr.digest_modMram (x : Ctlr) (f : Mram → Mram) : (x.modMram f).digest = x.digest := rfl
@[simp] theorem Ctlr.digestAt_modMram (x : Ctlr) (f : Mram → Mram) : (x.modMram f).digestAt = x.digestAt := rfl
@[simp] theorem Ctlr.digestAl_modMram (x : Ctlr) (f : Mram → Mram) : (x.modMram f).digestAl = x.digestAl := rfl
@[simp] theorem Ctlr.lever_modMram (x : Ctlr) (f : Mram → Mram) : (x.modMram f).lever = x.lever := rfl
@[simp] theorem Ctlr.leverAt_modMram (x : Ctlr) (f : Mram → Mram) : (x.modMram f).leverAt = x.leverAt := rfl
@[simp] theorem Ctlr.seen_modMram (x : Ctlr) (f : Mram → Mram) : (x.modMram f).seen = x.seen := rfl
@[simp] theorem Ctlr.claims_modMram (x : Ctlr) (f : Mram → Mram) : (x.modMram f).claims = x.claims := rfl
@[simp] theorem Ctlr.tx_modMram (x : Ctlr) (f : Mram → Mram) : (x.modMram f).tx = x.tx := rfl
@[simp] theorem Ctlr.image_modMram (x : Ctlr) (f : Mram → Mram) : (x.modMram f).image = x.image := rfl
@[simp] theorem Ctlr.imgJsn_modMram (x : Ctlr) (f : Mram → Mram) : (x.modMram f).imgJsn = x.imgJsn := rfl
@[simp] theorem Ctlr.acts_modMram (x : Ctlr) (f : Mram → Mram) : (x.modMram f).acts = x.acts := rfl
@[simp] theorem Ctlr.voyAck_modMram (x : Ctlr) (f : Mram → Mram) : (x.modMram f).voyAck = x.voyAck := rfl
@[simp] theorem Ctlr.slotDue_modMram (x : Ctlr) (f : Mram → Mram) : (x.modMram f).slotDue = x.slotDue := rfl
@[simp] theorem Ctlr.latchAt_modMram (x : Ctlr) (f : Mram → Mram) : (x.modMram f).latchAt = x.latchAt := rfl
@[simp] theorem Ctlr.latched_modMram (x : Ctlr) (f : Mram → Mram) : (x.modMram f).latched = x.latched := rfl
@[simp] theorem Ctlr.hk_modMram (x : Ctlr) (f : Mram → Mram) : (x.modMram f).hk = x.hk := rfl
@[simp] theorem Ctlr.alarms_modMram (x : Ctlr) (f : Mram → Mram) : (x.modMram f).alarms = x.alarms := rfl
@[simp] theorem Ctlr.transfer_modMram (x : Ctlr) (f : Mram → Mram) : (x.modMram f).transfer = x.transfer := rfl
@[simp] theorem Ctlr.phyA_modMram (x : Ctlr) (f : Mram → Mram) : (x.modMram f).phyA = x.phyA := rfl
@[simp] theorem Ctlr.phyB_modMram (x : Ctlr) (f : Mram → Mram) : (x.modMram f).phyB = x.phyB := rfl
@[simp] theorem Ctlr.dups_modMram (x : Ctlr) (f : Mram → Mram) : (x.modMram f).dups = x.dups := rfl
@[simp] theorem Ctlr.addrDue_modMram (x : Ctlr) (f : Mram → Mram) : (x.modMram f).addrDue = x.addrDue := rfl
@[simp] theorem Ctlr.addrs_modMram (x : Ctlr) (f : Mram → Mram) : (x.modMram f).addrs = x.addrs := rfl
@[simp] theorem Ctlr.lines_modMram (x : Ctlr) (f : Mram → Mram) : (x.modMram f).lines = x.lines := rfl
@[simp] theorem Ctlr.lineAl_modMram (x : Ctlr) (f : Mram → Mram) : (x.modMram f).lineAl = x.lineAl := rfl
@[simp] theorem Ctlr.testAt_modMram (x : Ctlr) (f : Mram → Mram) : (x.modMram f).testAt = x.testAt := rfl
@[simp] theorem Ctlr.testRun_modMram (x : Ctlr) (f : Mram → Mram) : (x.modMram f).testRun = x.testRun := rfl
@[simp] theorem Ctlr.scrubEn_modMram (x : Ctlr) (f : Mram → Mram) : (x.modMram f).scrubEn = x.scrubEn := rfl
@[simp] theorem Ctlr.scrubAt_modMram (x : Ctlr) (f : Mram → Mram) : (x.modMram f).scrubAt = x.scrubAt := rfl
@[simp] theorem Ctlr.scrubIn_modMram (x : Ctlr) (f : Mram → Mram) : (x.modMram f).scrubIn = x.scrubIn := rfl
@[simp] theorem Ctlr.scrubRun_modMram (x : Ctlr) (f : Mram → Mram) : (x.modMram f).scrubRun = x.scrubRun := rfl
@[simp] theorem Ctlr.scrubs_modMram (x : Ctlr) (f : Mram → Mram) : (x.modMram f).scrubs = x.scrubs := rfl
@[simp] theorem Ctlr.mramCe_modMram (x : Ctlr) (f : Mram → Mram) : (x.modMram f).mramCe = x.mramCe := rfl
@[simp] theorem Ctlr.sramCe_modMram (x : Ctlr) (f : Mram → Mram) : (x.modMram f).sramCe = x.sramCe := rfl
@[simp] theorem Ctlr.pairErr_modMram (x : Ctlr) (f : Mram → Mram) : (x.modMram f).pairErr = x.pairErr := rfl
@[simp] theorem Ctlr.linkErr_modMram (x : Ctlr) (f : Mram → Mram) : (x.modMram f).linkErr = x.linkErr := rfl
@[simp] theorem Ctlr.utimeLo_modMram (x : Ctlr) (f : Mram → Mram) : (x.modMram f).utimeLo = x.utimeLo := rfl
@[simp] theorem Ctlr.directAl_modMram (x : Ctlr) (f : Mram → Mram) : (x.modMram f).directAl = x.directAl := rfl
@[simp] theorem Ctlr.stale_modMram (x : Ctlr) (f : Mram → Mram) : (x.modMram f).stale = x.stale := rfl
@[simp] theorem Ctlr.sup_modMram (x : Ctlr) (f : Mram → Mram) : (x.modMram f).sup = x.sup := rfl
@[simp] theorem Ctlr.time_modMram (x : Ctlr) (f : Mram → Mram) : (x.modMram f).time = x.time := rfl
@[simp] theorem Ctlr.gnss_modMram (x : Ctlr) (f : Mram → Mram) : (x.modMram f).gnss = x.gnss := rfl
@[simp] theorem Ctlr.exp_modMram (x : Ctlr) (f : Mram → Mram) : (x.modMram f).exp = x.exp := rfl
@[simp] theorem Ctlr.mram_modMram (x : Ctlr) (f : Mram → Mram) : (x.modMram f).mram = f x.mram := rfl
@[simp] theorem State.modTime_eq (s : State) (c : Ctl) (f : TimeSt → TimeSt) : s.modTime c f = s.modCtl c (·.modTime f) := rfl
@[simp] theorem Ctlr.fitted_modTime (x : Ctlr) (f : TimeSt → TimeSt) : (x.modTime f).fitted = x.fitted := rfl
@[simp] theorem Ctlr.powered_modTime (x : Ctlr) (f : TimeSt → TimeSt) : (x.modTime f).powered = x.powered := rfl
@[simp] theorem Ctlr.serial_modTime (x : Ctlr) (f : TimeSt → TimeSt) : (x.modTime f).serial = x.serial := rfl
@[simp] theorem Ctlr.issue_modTime (x : Ctlr) (f : TimeSt → TimeSt) : (x.modTime f).issue = x.issue := rfl
@[simp] theorem Ctlr.role_modTime (x : Ctlr) (f : TimeSt → TimeSt) : (x.modTime f).role = x.role := rfl
@[simp] theorem Ctlr.cause_modTime (x : Ctlr) (f : TimeSt → TimeSt) : (x.modTime f).cause = x.cause := rfl
@[simp] theorem Ctlr.take_modTime (x : Ctlr) (f : TimeSt → TimeSt) : (x.modTime f).take = x.take := rfl
@[simp] theorem Ctlr.unsync_modTime (x : Ctlr) (f : TimeSt → TimeSt) : (x.modTime f).unsync = x.unsync := rfl
@[simp] theorem Ctlr.roleAt_modTime (x : Ctlr) (f : TimeSt → TimeSt) : (x.modTime f).roleAt = x.roleAt := rfl
@[simp] theorem Ctlr.roleIn_modTime (x : Ctlr) (f : TimeSt → TimeSt) : (x.modTime f).roleIn = x.roleIn := rfl
@[simp] theorem Ctlr.roleEv_modTime (x : Ctlr) (f : TimeSt → TimeSt) : (x.modTime f).roleEv = x.roleEv := rfl
@[simp] theorem Ctlr.okFrom_modTime (x : Ctlr) (f : TimeSt → TimeSt) : (x.modTime f).okFrom = x.okFrom := rfl
@[simp] theorem Ctlr.swapAt_modTime (x : Ctlr) (f : TimeSt → TimeSt) : (x.modTime f).swapAt = x.swapAt := rfl
@[simp] theorem Ctlr.boot_modTime (x : Ctlr) (f : TimeSt → TimeSt) : (x.modTime f).boot = x.boot := rfl
@[simp] theorem Ctlr.refAt_modTime (x : Ctlr) (f : TimeSt → TimeSt) : (x.modTime f).refAt = x.refAt := rfl
@[simp] theorem Ctlr.miles_modTime (x : Ctlr) (f : TimeSt → TimeSt) : (x.modTime f).miles = x.miles := rfl
@[simp] theorem Ctlr.started_modTime (x : Ctlr) (f : TimeSt → TimeSt) : (x.modTime f).started = x.started := rfl
@[simp] theorem Ctlr.bootRst_modTime (x : Ctlr) (f : TimeSt → TimeSt) : (x.modTime f).bootRst = x.bootRst := rfl
@[simp] theorem Ctlr.bootEv_modTime (x : Ctlr) (f : TimeSt → TimeSt) : (x.modTime f).bootEv = x.bootEv := rfl
@[simp] theorem Ctlr.imgB_modTime (x : Ctlr) (f : TimeSt → TimeSt) : (x.modTime f).imgB = x.imgB := rfl
@[simp] theorem Ctlr.ready_modTime (x : Ctlr) (f : TimeSt → TimeSt) : (x.modTime f).ready = x.ready := rfl
@[simp] theorem Ctlr.failN_modTime (x : Ctlr) (f : TimeSt → TimeSt) : (x.modTime f).failN = x.failN := rfl
@[simp] theorem Ctlr.peerFail_modTime (x : Ctlr) (f : TimeSt → TimeSt) : (x.modTime f).peerFail = x.peerFail := rfl
@[simp] theorem Ctlr.peerGone_modTime (x : Ctlr) (f : TimeSt → TimeSt) : (x.modTime f).peerGone = x.peerGone := rfl
@[simp] theorem Ctlr.lanes_modTime (x : Ctlr) (f : TimeSt → TimeSt) : (x.modTime f).lanes = x.lanes := rfl
@[simp] theorem Ctlr.missed_modTime (x : Ctlr) (f : TimeSt → TimeSt) : (x.modTime f).missed = x.missed := rfl
@[simp] theorem Ctlr.beatAt_modTime (x : Ctlr) (f : TimeSt → TimeSt) : (x.modTime f).beatAt = x.beatAt := rfl
@[simp] theorem Ctlr.linkAl_modTime (x : Ctlr) (f : TimeSt → TimeSt) : (x.modTime f).linkAl = x.linkAl := rfl
@[simp] theorem Ctlr.beatDue_modTime (x : Ctlr) (f : TimeSt → TimeSt) : (x.modTime f).beatDue = x.beatDue := rfl
@[simp] theorem Ctlr.beatTx_modTime (x : Ctlr) (f : TimeSt → TimeSt) : (x.modTime f).beatTx = x.beatTx := rfl
@[simp] theorem Ctlr.beat_modTime (x : Ctlr) (f : TimeSt → TimeSt) : (x.modTime f).beat = x.beat := rfl
@[simp] theorem Ctlr.electTx_modTime (x : Ctlr) (f : TimeSt → TimeSt) : (x.modTime f).electTx = x.electTx := rfl
@[simp] theorem Ctlr.elect_modTime (x : Ctlr) (f : TimeSt → TimeSt) : (x.modTime f).elect = x.elect := rfl
@[simp] theorem Ctlr.peerOn_modTime (x : Ctlr) (f : TimeSt → TimeSt) : (x.modTime f).peerOn = x.peerOn := rfl
@[simp] theorem Ctlr.schema_modTime (x : Ctlr) (f : TimeSt → TimeSt) : (x.modTime f).schema = x.schema := rfl
@[simp] theorem Ctlr.line_modTime (x : Ctlr) (f : TimeSt → TimeSt) : (x.modTime f).line = x.line := rfl
@[simp] theorem Ctlr.minor_modTime (x : Ctlr) (f : TimeSt → TimeSt) : (x.modTime f).minor = x.minor := rfl
@[simp] theorem Ctlr.build_modTime (x : Ctlr) (f : TimeSt → TimeSt) : (x.modTime f).build = x.build := rfl
@[simp] theorem Ctlr.digest_modTime (x : Ctlr) (f : TimeSt → TimeSt) : (x.modTime f).digest = x.digest := rfl
@[simp] theorem Ctlr.digestAt_modTime (x : Ctlr) (f : TimeSt → TimeSt) : (x.modTime f).digestAt = x.digestAt := rfl
@[simp] theorem Ctlr.digestAl_modTime (x : Ctlr) (f : TimeSt → TimeSt) : (x.modTime f).digestAl = x.digestAl := rfl
@[simp] theorem Ctlr.lever_modTime (x : Ctlr) (f : TimeSt → TimeSt) : (x.modTime f).lever = x.lever := rfl
@[simp] theorem Ctlr.leverAt_modTime (x : Ctlr) (f : TimeSt → TimeSt) : (x.modTime f).leverAt = x.leverAt := rfl
@[simp] theorem Ctlr.seen_modTime (x : Ctlr) (f : TimeSt → TimeSt) : (x.modTime f).seen = x.seen := rfl
@[simp] theorem Ctlr.claims_modTime (x : Ctlr) (f : TimeSt → TimeSt) : (x.modTime f).claims = x.claims := rfl
@[simp] theorem Ctlr.tx_modTime (x : Ctlr) (f : TimeSt → TimeSt) : (x.modTime f).tx = x.tx := rfl
@[simp] theorem Ctlr.image_modTime (x : Ctlr) (f : TimeSt → TimeSt) : (x.modTime f).image = x.image := rfl
@[simp] theorem Ctlr.imgJsn_modTime (x : Ctlr) (f : TimeSt → TimeSt) : (x.modTime f).imgJsn = x.imgJsn := rfl
@[simp] theorem Ctlr.acts_modTime (x : Ctlr) (f : TimeSt → TimeSt) : (x.modTime f).acts = x.acts := rfl
@[simp] theorem Ctlr.voyAck_modTime (x : Ctlr) (f : TimeSt → TimeSt) : (x.modTime f).voyAck = x.voyAck := rfl
@[simp] theorem Ctlr.slotDue_modTime (x : Ctlr) (f : TimeSt → TimeSt) : (x.modTime f).slotDue = x.slotDue := rfl
@[simp] theorem Ctlr.latchAt_modTime (x : Ctlr) (f : TimeSt → TimeSt) : (x.modTime f).latchAt = x.latchAt := rfl
@[simp] theorem Ctlr.latched_modTime (x : Ctlr) (f : TimeSt → TimeSt) : (x.modTime f).latched = x.latched := rfl
@[simp] theorem Ctlr.hk_modTime (x : Ctlr) (f : TimeSt → TimeSt) : (x.modTime f).hk = x.hk := rfl
@[simp] theorem Ctlr.alarms_modTime (x : Ctlr) (f : TimeSt → TimeSt) : (x.modTime f).alarms = x.alarms := rfl
@[simp] theorem Ctlr.transfer_modTime (x : Ctlr) (f : TimeSt → TimeSt) : (x.modTime f).transfer = x.transfer := rfl
@[simp] theorem Ctlr.phyA_modTime (x : Ctlr) (f : TimeSt → TimeSt) : (x.modTime f).phyA = x.phyA := rfl
@[simp] theorem Ctlr.phyB_modTime (x : Ctlr) (f : TimeSt → TimeSt) : (x.modTime f).phyB = x.phyB := rfl
@[simp] theorem Ctlr.dups_modTime (x : Ctlr) (f : TimeSt → TimeSt) : (x.modTime f).dups = x.dups := rfl
@[simp] theorem Ctlr.addrDue_modTime (x : Ctlr) (f : TimeSt → TimeSt) : (x.modTime f).addrDue = x.addrDue := rfl
@[simp] theorem Ctlr.addrs_modTime (x : Ctlr) (f : TimeSt → TimeSt) : (x.modTime f).addrs = x.addrs := rfl
@[simp] theorem Ctlr.lines_modTime (x : Ctlr) (f : TimeSt → TimeSt) : (x.modTime f).lines = x.lines := rfl
@[simp] theorem Ctlr.lineAl_modTime (x : Ctlr) (f : TimeSt → TimeSt) : (x.modTime f).lineAl = x.lineAl := rfl
@[simp] theorem Ctlr.testAt_modTime (x : Ctlr) (f : TimeSt → TimeSt) : (x.modTime f).testAt = x.testAt := rfl
@[simp] theorem Ctlr.testRun_modTime (x : Ctlr) (f : TimeSt → TimeSt) : (x.modTime f).testRun = x.testRun := rfl
@[simp] theorem Ctlr.scrubEn_modTime (x : Ctlr) (f : TimeSt → TimeSt) : (x.modTime f).scrubEn = x.scrubEn := rfl
@[simp] theorem Ctlr.scrubAt_modTime (x : Ctlr) (f : TimeSt → TimeSt) : (x.modTime f).scrubAt = x.scrubAt := rfl
@[simp] theorem Ctlr.scrubIn_modTime (x : Ctlr) (f : TimeSt → TimeSt) : (x.modTime f).scrubIn = x.scrubIn := rfl
@[simp] theorem Ctlr.scrubRun_modTime (x : Ctlr) (f : TimeSt → TimeSt) : (x.modTime f).scrubRun = x.scrubRun := rfl
@[simp] theorem Ctlr.scrubs_modTime (x : Ctlr) (f : TimeSt → TimeSt) : (x.modTime f).scrubs = x.scrubs := rfl
@[simp] theorem Ctlr.mramCe_modTime (x : Ctlr) (f : TimeSt → TimeSt) : (x.modTime f).mramCe = x.mramCe := rfl
@[simp] theorem Ctlr.sramCe_modTime (x : Ctlr) (f : TimeSt → TimeSt) : (x.modTime f).sramCe = x.sramCe := rfl
@[simp] theorem Ctlr.pairErr_modTime (x : Ctlr) (f : TimeSt → TimeSt) : (x.modTime f).pairErr = x.pairErr := rfl
@[simp] theorem Ctlr.linkErr_modTime (x : Ctlr) (f : TimeSt → TimeSt) : (x.modTime f).linkErr = x.linkErr := rfl
@[simp] theorem Ctlr.utimeLo_modTime (x : Ctlr) (f : TimeSt → TimeSt) : (x.modTime f).utimeLo = x.utimeLo := rfl
@[simp] theorem Ctlr.directAl_modTime (x : Ctlr) (f : TimeSt → TimeSt) : (x.modTime f).directAl = x.directAl := rfl
@[simp] theorem Ctlr.stale_modTime (x : Ctlr) (f : TimeSt → TimeSt) : (x.modTime f).stale = x.stale := rfl
@[simp] theorem Ctlr.sup_modTime (x : Ctlr) (f : TimeSt → TimeSt) : (x.modTime f).sup = x.sup := rfl
@[simp] theorem Ctlr.gnss_modTime (x : Ctlr) (f : TimeSt → TimeSt) : (x.modTime f).gnss = x.gnss := rfl
@[simp] theorem Ctlr.exp_modTime (x : Ctlr) (f : TimeSt → TimeSt) : (x.modTime f).exp = x.exp := rfl
@[simp] theorem Ctlr.mram_modTime (x : Ctlr) (f : TimeSt → TimeSt) : (x.modTime f).mram = x.mram := rfl
@[simp] theorem Ctlr.time_modTime (x : Ctlr) (f : TimeSt → TimeSt) : (x.modTime f).time = f x.time := rfl
@[simp] theorem State.modGnss_eq (s : State) (c : Ctl) (f : Gnss → Gnss) : s.modGnss c f = s.modCtl c (·.modGnss f) := rfl
@[simp] theorem Ctlr.fitted_modGnss (x : Ctlr) (f : Gnss → Gnss) : (x.modGnss f).fitted = x.fitted := rfl
@[simp] theorem Ctlr.powered_modGnss (x : Ctlr) (f : Gnss → Gnss) : (x.modGnss f).powered = x.powered := rfl
@[simp] theorem Ctlr.serial_modGnss (x : Ctlr) (f : Gnss → Gnss) : (x.modGnss f).serial = x.serial := rfl
@[simp] theorem Ctlr.issue_modGnss (x : Ctlr) (f : Gnss → Gnss) : (x.modGnss f).issue = x.issue := rfl
@[simp] theorem Ctlr.role_modGnss (x : Ctlr) (f : Gnss → Gnss) : (x.modGnss f).role = x.role := rfl
@[simp] theorem Ctlr.cause_modGnss (x : Ctlr) (f : Gnss → Gnss) : (x.modGnss f).cause = x.cause := rfl
@[simp] theorem Ctlr.take_modGnss (x : Ctlr) (f : Gnss → Gnss) : (x.modGnss f).take = x.take := rfl
@[simp] theorem Ctlr.unsync_modGnss (x : Ctlr) (f : Gnss → Gnss) : (x.modGnss f).unsync = x.unsync := rfl
@[simp] theorem Ctlr.roleAt_modGnss (x : Ctlr) (f : Gnss → Gnss) : (x.modGnss f).roleAt = x.roleAt := rfl
@[simp] theorem Ctlr.roleIn_modGnss (x : Ctlr) (f : Gnss → Gnss) : (x.modGnss f).roleIn = x.roleIn := rfl
@[simp] theorem Ctlr.roleEv_modGnss (x : Ctlr) (f : Gnss → Gnss) : (x.modGnss f).roleEv = x.roleEv := rfl
@[simp] theorem Ctlr.okFrom_modGnss (x : Ctlr) (f : Gnss → Gnss) : (x.modGnss f).okFrom = x.okFrom := rfl
@[simp] theorem Ctlr.swapAt_modGnss (x : Ctlr) (f : Gnss → Gnss) : (x.modGnss f).swapAt = x.swapAt := rfl
@[simp] theorem Ctlr.boot_modGnss (x : Ctlr) (f : Gnss → Gnss) : (x.modGnss f).boot = x.boot := rfl
@[simp] theorem Ctlr.refAt_modGnss (x : Ctlr) (f : Gnss → Gnss) : (x.modGnss f).refAt = x.refAt := rfl
@[simp] theorem Ctlr.miles_modGnss (x : Ctlr) (f : Gnss → Gnss) : (x.modGnss f).miles = x.miles := rfl
@[simp] theorem Ctlr.started_modGnss (x : Ctlr) (f : Gnss → Gnss) : (x.modGnss f).started = x.started := rfl
@[simp] theorem Ctlr.bootRst_modGnss (x : Ctlr) (f : Gnss → Gnss) : (x.modGnss f).bootRst = x.bootRst := rfl
@[simp] theorem Ctlr.bootEv_modGnss (x : Ctlr) (f : Gnss → Gnss) : (x.modGnss f).bootEv = x.bootEv := rfl
@[simp] theorem Ctlr.imgB_modGnss (x : Ctlr) (f : Gnss → Gnss) : (x.modGnss f).imgB = x.imgB := rfl
@[simp] theorem Ctlr.ready_modGnss (x : Ctlr) (f : Gnss → Gnss) : (x.modGnss f).ready = x.ready := rfl
@[simp] theorem Ctlr.failN_modGnss (x : Ctlr) (f : Gnss → Gnss) : (x.modGnss f).failN = x.failN := rfl
@[simp] theorem Ctlr.peerFail_modGnss (x : Ctlr) (f : Gnss → Gnss) : (x.modGnss f).peerFail = x.peerFail := rfl
@[simp] theorem Ctlr.peerGone_modGnss (x : Ctlr) (f : Gnss → Gnss) : (x.modGnss f).peerGone = x.peerGone := rfl
@[simp] theorem Ctlr.lanes_modGnss (x : Ctlr) (f : Gnss → Gnss) : (x.modGnss f).lanes = x.lanes := rfl
@[simp] theorem Ctlr.missed_modGnss (x : Ctlr) (f : Gnss → Gnss) : (x.modGnss f).missed = x.missed := rfl
@[simp] theorem Ctlr.beatAt_modGnss (x : Ctlr) (f : Gnss → Gnss) : (x.modGnss f).beatAt = x.beatAt := rfl
@[simp] theorem Ctlr.linkAl_modGnss (x : Ctlr) (f : Gnss → Gnss) : (x.modGnss f).linkAl = x.linkAl := rfl
@[simp] theorem Ctlr.beatDue_modGnss (x : Ctlr) (f : Gnss → Gnss) : (x.modGnss f).beatDue = x.beatDue := rfl
@[simp] theorem Ctlr.beatTx_modGnss (x : Ctlr) (f : Gnss → Gnss) : (x.modGnss f).beatTx = x.beatTx := rfl
@[simp] theorem Ctlr.beat_modGnss (x : Ctlr) (f : Gnss → Gnss) : (x.modGnss f).beat = x.beat := rfl
@[simp] theorem Ctlr.electTx_modGnss (x : Ctlr) (f : Gnss → Gnss) : (x.modGnss f).electTx = x.electTx := rfl
@[simp] theorem Ctlr.elect_modGnss (x : Ctlr) (f : Gnss → Gnss) : (x.modGnss f).elect = x.elect := rfl
@[simp] theorem Ctlr.peerOn_modGnss (x : Ctlr) (f : Gnss → Gnss) : (x.modGnss f).peerOn = x.peerOn := rfl
@[simp] theorem Ctlr.schema_modGnss (x : Ctlr) (f : Gnss → Gnss) : (x.modGnss f).schema = x.schema := rfl
@[simp] theorem Ctlr.line_modGnss (x : Ctlr) (f : Gnss → Gnss) : (x.modGnss f).line = x.line := rfl
@[simp] theorem Ctlr.minor_modGnss (x : Ctlr) (f : Gnss → Gnss) : (x.modGnss f).minor = x.minor := rfl
@[simp] theorem Ctlr.build_modGnss (x : Ctlr) (f : Gnss → Gnss) : (x.modGnss f).build = x.build := rfl
@[simp] theorem Ctlr.digest_modGnss (x : Ctlr) (f : Gnss → Gnss) : (x.modGnss f).digest = x.digest := rfl
@[simp] theorem Ctlr.digestAt_modGnss (x : Ctlr) (f : Gnss → Gnss) : (x.modGnss f).digestAt = x.digestAt := rfl
@[simp] theorem Ctlr.digestAl_modGnss (x : Ctlr) (f : Gnss → Gnss) : (x.modGnss f).digestAl = x.digestAl := rfl
@[simp] theorem Ctlr.lever_modGnss (x : Ctlr) (f : Gnss → Gnss) : (x.modGnss f).lever = x.lever := rfl
@[simp] theorem Ctlr.leverAt_modGnss (x : Ctlr) (f : Gnss → Gnss) : (x.modGnss f).leverAt = x.leverAt := rfl
@[simp] theorem Ctlr.seen_modGnss (x : Ctlr) (f : Gnss → Gnss) : (x.modGnss f).seen = x.seen := rfl
@[simp] theorem Ctlr.claims_modGnss (x : Ctlr) (f : Gnss → Gnss) : (x.modGnss f).claims = x.claims := rfl
@[simp] theorem Ctlr.tx_modGnss (x : Ctlr) (f : Gnss → Gnss) : (x.modGnss f).tx = x.tx := rfl
@[simp] theorem Ctlr.image_modGnss (x : Ctlr) (f : Gnss → Gnss) : (x.modGnss f).image = x.image := rfl
@[simp] theorem Ctlr.imgJsn_modGnss (x : Ctlr) (f : Gnss → Gnss) : (x.modGnss f).imgJsn = x.imgJsn := rfl
@[simp] theorem Ctlr.acts_modGnss (x : Ctlr) (f : Gnss → Gnss) : (x.modGnss f).acts = x.acts := rfl
@[simp] theorem Ctlr.voyAck_modGnss (x : Ctlr) (f : Gnss → Gnss) : (x.modGnss f).voyAck = x.voyAck := rfl
@[simp] theorem Ctlr.slotDue_modGnss (x : Ctlr) (f : Gnss → Gnss) : (x.modGnss f).slotDue = x.slotDue := rfl
@[simp] theorem Ctlr.latchAt_modGnss (x : Ctlr) (f : Gnss → Gnss) : (x.modGnss f).latchAt = x.latchAt := rfl
@[simp] theorem Ctlr.latched_modGnss (x : Ctlr) (f : Gnss → Gnss) : (x.modGnss f).latched = x.latched := rfl
@[simp] theorem Ctlr.hk_modGnss (x : Ctlr) (f : Gnss → Gnss) : (x.modGnss f).hk = x.hk := rfl
@[simp] theorem Ctlr.alarms_modGnss (x : Ctlr) (f : Gnss → Gnss) : (x.modGnss f).alarms = x.alarms := rfl
@[simp] theorem Ctlr.transfer_modGnss (x : Ctlr) (f : Gnss → Gnss) : (x.modGnss f).transfer = x.transfer := rfl
@[simp] theorem Ctlr.phyA_modGnss (x : Ctlr) (f : Gnss → Gnss) : (x.modGnss f).phyA = x.phyA := rfl
@[simp] theorem Ctlr.phyB_modGnss (x : Ctlr) (f : Gnss → Gnss) : (x.modGnss f).phyB = x.phyB := rfl
@[simp] theorem Ctlr.dups_modGnss (x : Ctlr) (f : Gnss → Gnss) : (x.modGnss f).dups = x.dups := rfl
@[simp] theorem Ctlr.addrDue_modGnss (x : Ctlr) (f : Gnss → Gnss) : (x.modGnss f).addrDue = x.addrDue := rfl
@[simp] theorem Ctlr.addrs_modGnss (x : Ctlr) (f : Gnss → Gnss) : (x.modGnss f).addrs = x.addrs := rfl
@[simp] theorem Ctlr.lines_modGnss (x : Ctlr) (f : Gnss → Gnss) : (x.modGnss f).lines = x.lines := rfl
@[simp] theorem Ctlr.lineAl_modGnss (x : Ctlr) (f : Gnss → Gnss) : (x.modGnss f).lineAl = x.lineAl := rfl
@[simp] theorem Ctlr.testAt_modGnss (x : Ctlr) (f : Gnss → Gnss) : (x.modGnss f).testAt = x.testAt := rfl
@[simp] theorem Ctlr.testRun_modGnss (x : Ctlr) (f : Gnss → Gnss) : (x.modGnss f).testRun = x.testRun := rfl
@[simp] theorem Ctlr.scrubEn_modGnss (x : Ctlr) (f : Gnss → Gnss) : (x.modGnss f).scrubEn = x.scrubEn := rfl
@[simp] theorem Ctlr.scrubAt_modGnss (x : Ctlr) (f : Gnss → Gnss) : (x.modGnss f).scrubAt = x.scrubAt := rfl
@[simp] theorem Ctlr.scrubIn_modGnss (x : Ctlr) (f : Gnss → Gnss) : (x.modGnss f).scrubIn = x.scrubIn := rfl
@[simp] theorem Ctlr.scrubRun_modGnss (x : Ctlr) (f : Gnss → Gnss) : (x.modGnss f).scrubRun = x.scrubRun := rfl
@[simp] theorem Ctlr.scrubs_modGnss (x : Ctlr) (f : Gnss → Gnss) : (x.modGnss f).scrubs = x.scrubs := rfl
@[simp] theorem Ctlr.mramCe_modGnss (x : Ctlr) (f : Gnss → Gnss) : (x.modGnss f).mramCe = x.mramCe := rfl
@[simp] theorem Ctlr.sramCe_modGnss (x : Ctlr) (f : Gnss → Gnss) : (x.modGnss f).sramCe = x.sramCe := rfl
@[simp] theorem Ctlr.pairErr_modGnss (x : Ctlr) (f : Gnss → Gnss) : (x.modGnss f).pairErr = x.pairErr := rfl
@[simp] theorem Ctlr.linkErr_modGnss (x : Ctlr) (f : Gnss → Gnss) : (x.modGnss f).linkErr = x.linkErr := rfl
@[simp] theorem Ctlr.utimeLo_modGnss (x : Ctlr) (f : Gnss → Gnss) : (x.modGnss f).utimeLo = x.utimeLo := rfl
@[simp] theorem Ctlr.directAl_modGnss (x : Ctlr) (f : Gnss → Gnss) : (x.modGnss f).directAl = x.directAl := rfl
@[simp] theorem Ctlr.stale_modGnss (x : Ctlr) (f : Gnss → Gnss) : (x.modGnss f).stale = x.stale := rfl
@[simp] theorem Ctlr.sup_modGnss (x : Ctlr) (f : Gnss → Gnss) : (x.modGnss f).sup = x.sup := rfl
@[simp] theorem Ctlr.time_modGnss (x : Ctlr) (f : Gnss → Gnss) : (x.modGnss f).time = x.time := rfl
@[simp] theorem Ctlr.exp_modGnss (x : Ctlr) (f : Gnss → Gnss) : (x.modGnss f).exp = x.exp := rfl
@[simp] theorem Ctlr.mram_modGnss (x : Ctlr) (f : Gnss → Gnss) : (x.modGnss f).mram = x.mram := rfl
@[simp] theorem Ctlr.gnss_modGnss (x : Ctlr) (f : Gnss → Gnss) : (x.modGnss f).gnss = f x.gnss := rfl
@[simp] theorem State.modExp_eq (s : State) (c : Ctl) (f : Exp → Exp) : s.modExp c f = s.modCtl c (·.modExp f) := rfl
@[simp] theorem Ctlr.fitted_modExp (x : Ctlr) (f : Exp → Exp) : (x.modExp f).fitted = x.fitted := rfl
@[simp] theorem Ctlr.powered_modExp (x : Ctlr) (f : Exp → Exp) : (x.modExp f).powered = x.powered := rfl
@[simp] theorem Ctlr.serial_modExp (x : Ctlr) (f : Exp → Exp) : (x.modExp f).serial = x.serial := rfl
@[simp] theorem Ctlr.issue_modExp (x : Ctlr) (f : Exp → Exp) : (x.modExp f).issue = x.issue := rfl
@[simp] theorem Ctlr.role_modExp (x : Ctlr) (f : Exp → Exp) : (x.modExp f).role = x.role := rfl
@[simp] theorem Ctlr.cause_modExp (x : Ctlr) (f : Exp → Exp) : (x.modExp f).cause = x.cause := rfl
@[simp] theorem Ctlr.take_modExp (x : Ctlr) (f : Exp → Exp) : (x.modExp f).take = x.take := rfl
@[simp] theorem Ctlr.unsync_modExp (x : Ctlr) (f : Exp → Exp) : (x.modExp f).unsync = x.unsync := rfl
@[simp] theorem Ctlr.roleAt_modExp (x : Ctlr) (f : Exp → Exp) : (x.modExp f).roleAt = x.roleAt := rfl
@[simp] theorem Ctlr.roleIn_modExp (x : Ctlr) (f : Exp → Exp) : (x.modExp f).roleIn = x.roleIn := rfl
@[simp] theorem Ctlr.roleEv_modExp (x : Ctlr) (f : Exp → Exp) : (x.modExp f).roleEv = x.roleEv := rfl
@[simp] theorem Ctlr.okFrom_modExp (x : Ctlr) (f : Exp → Exp) : (x.modExp f).okFrom = x.okFrom := rfl
@[simp] theorem Ctlr.swapAt_modExp (x : Ctlr) (f : Exp → Exp) : (x.modExp f).swapAt = x.swapAt := rfl
@[simp] theorem Ctlr.boot_modExp (x : Ctlr) (f : Exp → Exp) : (x.modExp f).boot = x.boot := rfl
@[simp] theorem Ctlr.refAt_modExp (x : Ctlr) (f : Exp → Exp) : (x.modExp f).refAt = x.refAt := rfl
@[simp] theorem Ctlr.miles_modExp (x : Ctlr) (f : Exp → Exp) : (x.modExp f).miles = x.miles := rfl
@[simp] theorem Ctlr.started_modExp (x : Ctlr) (f : Exp → Exp) : (x.modExp f).started = x.started := rfl
@[simp] theorem Ctlr.bootRst_modExp (x : Ctlr) (f : Exp → Exp) : (x.modExp f).bootRst = x.bootRst := rfl
@[simp] theorem Ctlr.bootEv_modExp (x : Ctlr) (f : Exp → Exp) : (x.modExp f).bootEv = x.bootEv := rfl
@[simp] theorem Ctlr.imgB_modExp (x : Ctlr) (f : Exp → Exp) : (x.modExp f).imgB = x.imgB := rfl
@[simp] theorem Ctlr.ready_modExp (x : Ctlr) (f : Exp → Exp) : (x.modExp f).ready = x.ready := rfl
@[simp] theorem Ctlr.failN_modExp (x : Ctlr) (f : Exp → Exp) : (x.modExp f).failN = x.failN := rfl
@[simp] theorem Ctlr.peerFail_modExp (x : Ctlr) (f : Exp → Exp) : (x.modExp f).peerFail = x.peerFail := rfl
@[simp] theorem Ctlr.peerGone_modExp (x : Ctlr) (f : Exp → Exp) : (x.modExp f).peerGone = x.peerGone := rfl
@[simp] theorem Ctlr.lanes_modExp (x : Ctlr) (f : Exp → Exp) : (x.modExp f).lanes = x.lanes := rfl
@[simp] theorem Ctlr.missed_modExp (x : Ctlr) (f : Exp → Exp) : (x.modExp f).missed = x.missed := rfl
@[simp] theorem Ctlr.beatAt_modExp (x : Ctlr) (f : Exp → Exp) : (x.modExp f).beatAt = x.beatAt := rfl
@[simp] theorem Ctlr.linkAl_modExp (x : Ctlr) (f : Exp → Exp) : (x.modExp f).linkAl = x.linkAl := rfl
@[simp] theorem Ctlr.beatDue_modExp (x : Ctlr) (f : Exp → Exp) : (x.modExp f).beatDue = x.beatDue := rfl
@[simp] theorem Ctlr.beatTx_modExp (x : Ctlr) (f : Exp → Exp) : (x.modExp f).beatTx = x.beatTx := rfl
@[simp] theorem Ctlr.beat_modExp (x : Ctlr) (f : Exp → Exp) : (x.modExp f).beat = x.beat := rfl
@[simp] theorem Ctlr.electTx_modExp (x : Ctlr) (f : Exp → Exp) : (x.modExp f).electTx = x.electTx := rfl
@[simp] theorem Ctlr.elect_modExp (x : Ctlr) (f : Exp → Exp) : (x.modExp f).elect = x.elect := rfl
@[simp] theorem Ctlr.peerOn_modExp (x : Ctlr) (f : Exp → Exp) : (x.modExp f).peerOn = x.peerOn := rfl
@[simp] theorem Ctlr.schema_modExp (x : Ctlr) (f : Exp → Exp) : (x.modExp f).schema = x.schema := rfl
@[simp] theorem Ctlr.line_modExp (x : Ctlr) (f : Exp → Exp) : (x.modExp f).line = x.line := rfl
@[simp] theorem Ctlr.minor_modExp (x : Ctlr) (f : Exp → Exp) : (x.modExp f).minor = x.minor := rfl
@[simp] theorem Ctlr.build_modExp (x : Ctlr) (f : Exp → Exp) : (x.modExp f).build = x.build := rfl
@[simp] theorem Ctlr.digest_modExp (x : Ctlr) (f : Exp → Exp) : (x.modExp f).digest = x.digest := rfl
@[simp] theorem Ctlr.digestAt_modExp (x : Ctlr) (f : Exp → Exp) : (x.modExp f).digestAt = x.digestAt := rfl
@[simp] theorem Ctlr.digestAl_modExp (x : Ctlr) (f : Exp → Exp) : (x.modExp f).digestAl = x.digestAl := rfl
@[simp] theorem Ctlr.lever_modExp (x : Ctlr) (f : Exp → Exp) : (x.modExp f).lever = x.lever := rfl
@[simp] theorem Ctlr.leverAt_modExp (x : Ctlr) (f : Exp → Exp) : (x.modExp f).leverAt = x.leverAt := rfl
@[simp] theorem Ctlr.seen_modExp (x : Ctlr) (f : Exp → Exp) : (x.modExp f).seen = x.seen := rfl
@[simp] theorem Ctlr.claims_modExp (x : Ctlr) (f : Exp → Exp) : (x.modExp f).claims = x.claims := rfl
@[simp] theorem Ctlr.tx_modExp (x : Ctlr) (f : Exp → Exp) : (x.modExp f).tx = x.tx := rfl
@[simp] theorem Ctlr.image_modExp (x : Ctlr) (f : Exp → Exp) : (x.modExp f).image = x.image := rfl
@[simp] theorem Ctlr.imgJsn_modExp (x : Ctlr) (f : Exp → Exp) : (x.modExp f).imgJsn = x.imgJsn := rfl
@[simp] theorem Ctlr.acts_modExp (x : Ctlr) (f : Exp → Exp) : (x.modExp f).acts = x.acts := rfl
@[simp] theorem Ctlr.voyAck_modExp (x : Ctlr) (f : Exp → Exp) : (x.modExp f).voyAck = x.voyAck := rfl
@[simp] theorem Ctlr.slotDue_modExp (x : Ctlr) (f : Exp → Exp) : (x.modExp f).slotDue = x.slotDue := rfl
@[simp] theorem Ctlr.latchAt_modExp (x : Ctlr) (f : Exp → Exp) : (x.modExp f).latchAt = x.latchAt := rfl
@[simp] theorem Ctlr.latched_modExp (x : Ctlr) (f : Exp → Exp) : (x.modExp f).latched = x.latched := rfl
@[simp] theorem Ctlr.hk_modExp (x : Ctlr) (f : Exp → Exp) : (x.modExp f).hk = x.hk := rfl
@[simp] theorem Ctlr.alarms_modExp (x : Ctlr) (f : Exp → Exp) : (x.modExp f).alarms = x.alarms := rfl
@[simp] theorem Ctlr.transfer_modExp (x : Ctlr) (f : Exp → Exp) : (x.modExp f).transfer = x.transfer := rfl
@[simp] theorem Ctlr.phyA_modExp (x : Ctlr) (f : Exp → Exp) : (x.modExp f).phyA = x.phyA := rfl
@[simp] theorem Ctlr.phyB_modExp (x : Ctlr) (f : Exp → Exp) : (x.modExp f).phyB = x.phyB := rfl
@[simp] theorem Ctlr.dups_modExp (x : Ctlr) (f : Exp → Exp) : (x.modExp f).dups = x.dups := rfl
@[simp] theorem Ctlr.addrDue_modExp (x : Ctlr) (f : Exp → Exp) : (x.modExp f).addrDue = x.addrDue := rfl
@[simp] theorem Ctlr.addrs_modExp (x : Ctlr) (f : Exp → Exp) : (x.modExp f).addrs = x.addrs := rfl
@[simp] theorem Ctlr.lines_modExp (x : Ctlr) (f : Exp → Exp) : (x.modExp f).lines = x.lines := rfl
@[simp] theorem Ctlr.lineAl_modExp (x : Ctlr) (f : Exp → Exp) : (x.modExp f).lineAl = x.lineAl := rfl
@[simp] theorem Ctlr.testAt_modExp (x : Ctlr) (f : Exp → Exp) : (x.modExp f).testAt = x.testAt := rfl
@[simp] theorem Ctlr.testRun_modExp (x : Ctlr) (f : Exp → Exp) : (x.modExp f).testRun = x.testRun := rfl
@[simp] theorem Ctlr.scrubEn_modExp (x : Ctlr) (f : Exp → Exp) : (x.modExp f).scrubEn = x.scrubEn := rfl
@[simp] theorem Ctlr.scrubAt_modExp (x : Ctlr) (f : Exp → Exp) : (x.modExp f).scrubAt = x.scrubAt := rfl
@[simp] theorem Ctlr.scrubIn_modExp (x : Ctlr) (f : Exp → Exp) : (x.modExp f).scrubIn = x.scrubIn := rfl
@[simp] theorem Ctlr.scrubRun_modExp (x : Ctlr) (f : Exp → Exp) : (x.modExp f).scrubRun = x.scrubRun := rfl
@[simp] theorem Ctlr.scrubs_modExp (x : Ctlr) (f : Exp → Exp) : (x.modExp f).scrubs = x.scrubs := rfl
@[simp] theorem Ctlr.mramCe_modExp (x : Ctlr) (f : Exp → Exp) : (x.modExp f).mramCe = x.mramCe := rfl
@[simp] theorem Ctlr.sramCe_modExp (x : Ctlr) (f : Exp → Exp) : (x.modExp f).sramCe = x.sramCe := rfl
@[simp] theorem Ctlr.pairErr_modExp (x : Ctlr) (f : Exp → Exp) : (x.modExp f).pairErr = x.pairErr := rfl
@[simp] theorem Ctlr.linkErr_modExp (x : Ctlr) (f : Exp → Exp) : (x.modExp f).linkErr = x.linkErr := rfl
@[simp] theorem Ctlr.utimeLo_modExp (x : Ctlr) (f : Exp → Exp) : (x.modExp f).utimeLo = x.utimeLo := rfl
@[simp] theorem Ctlr.directAl_modExp (x : Ctlr) (f : Exp → Exp) : (x.modExp f).directAl = x.directAl := rfl
@[simp] theorem Ctlr.stale_modExp (x : Ctlr) (f : Exp → Exp) : (x.modExp f).stale = x.stale := rfl
@[simp] theorem Ctlr.sup_modExp (x : Ctlr) (f : Exp → Exp) : (x.modExp f).sup = x.sup := rfl
@[simp] theorem Ctlr.time_modExp (x : Ctlr) (f : Exp → Exp) : (x.modExp f).time = x.time := rfl
@[simp] theorem Ctlr.gnss_modExp (x : Ctlr) (f : Exp → Exp) : (x.modExp f).gnss = x.gnss := rfl
@[simp] theorem Ctlr.mram_modExp (x : Ctlr) (f : Exp → Exp) : (x.modExp f).mram = x.mram := rfl
@[simp] theorem Ctlr.exp_modExp (x : Ctlr) (f : Exp → Exp) : (x.modExp f).exp = f x.exp := rfl
@[simp] theorem State.modSup_eq (s : State) (c : Ctl) (f : Supply → Supply) : s.modSup c f = s.modCtl c (·.modSup f) := rfl
@[simp] theorem Ctlr.fitted_modSup (x : Ctlr) (f : Supply → Supply) : (x.modSup f).fitted = x.fitted := rfl
@[simp] theorem Ctlr.powered_modSup (x : Ctlr) (f : Supply → Supply) : (x.modSup f).powered = x.powered := rfl
@[simp] theorem Ctlr.serial_modSup (x : Ctlr) (f : Supply → Supply) : (x.modSup f).serial = x.serial := rfl
@[simp] theorem Ctlr.issue_modSup (x : Ctlr) (f : Supply → Supply) : (x.modSup f).issue = x.issue := rfl
@[simp] theorem Ctlr.role_modSup (x : Ctlr) (f : Supply → Supply) : (x.modSup f).role = x.role := rfl
@[simp] theorem Ctlr.cause_modSup (x : Ctlr) (f : Supply → Supply) : (x.modSup f).cause = x.cause := rfl
@[simp] theorem Ctlr.take_modSup (x : Ctlr) (f : Supply → Supply) : (x.modSup f).take = x.take := rfl
@[simp] theorem Ctlr.unsync_modSup (x : Ctlr) (f : Supply → Supply) : (x.modSup f).unsync = x.unsync := rfl
@[simp] theorem Ctlr.roleAt_modSup (x : Ctlr) (f : Supply → Supply) : (x.modSup f).roleAt = x.roleAt := rfl
@[simp] theorem Ctlr.roleIn_modSup (x : Ctlr) (f : Supply → Supply) : (x.modSup f).roleIn = x.roleIn := rfl
@[simp] theorem Ctlr.roleEv_modSup (x : Ctlr) (f : Supply → Supply) : (x.modSup f).roleEv = x.roleEv := rfl
@[simp] theorem Ctlr.okFrom_modSup (x : Ctlr) (f : Supply → Supply) : (x.modSup f).okFrom = x.okFrom := rfl
@[simp] theorem Ctlr.swapAt_modSup (x : Ctlr) (f : Supply → Supply) : (x.modSup f).swapAt = x.swapAt := rfl
@[simp] theorem Ctlr.boot_modSup (x : Ctlr) (f : Supply → Supply) : (x.modSup f).boot = x.boot := rfl
@[simp] theorem Ctlr.refAt_modSup (x : Ctlr) (f : Supply → Supply) : (x.modSup f).refAt = x.refAt := rfl
@[simp] theorem Ctlr.miles_modSup (x : Ctlr) (f : Supply → Supply) : (x.modSup f).miles = x.miles := rfl
@[simp] theorem Ctlr.started_modSup (x : Ctlr) (f : Supply → Supply) : (x.modSup f).started = x.started := rfl
@[simp] theorem Ctlr.bootRst_modSup (x : Ctlr) (f : Supply → Supply) : (x.modSup f).bootRst = x.bootRst := rfl
@[simp] theorem Ctlr.bootEv_modSup (x : Ctlr) (f : Supply → Supply) : (x.modSup f).bootEv = x.bootEv := rfl
@[simp] theorem Ctlr.imgB_modSup (x : Ctlr) (f : Supply → Supply) : (x.modSup f).imgB = x.imgB := rfl
@[simp] theorem Ctlr.ready_modSup (x : Ctlr) (f : Supply → Supply) : (x.modSup f).ready = x.ready := rfl
@[simp] theorem Ctlr.failN_modSup (x : Ctlr) (f : Supply → Supply) : (x.modSup f).failN = x.failN := rfl
@[simp] theorem Ctlr.peerFail_modSup (x : Ctlr) (f : Supply → Supply) : (x.modSup f).peerFail = x.peerFail := rfl
@[simp] theorem Ctlr.peerGone_modSup (x : Ctlr) (f : Supply → Supply) : (x.modSup f).peerGone = x.peerGone := rfl
@[simp] theorem Ctlr.lanes_modSup (x : Ctlr) (f : Supply → Supply) : (x.modSup f).lanes = x.lanes := rfl
@[simp] theorem Ctlr.missed_modSup (x : Ctlr) (f : Supply → Supply) : (x.modSup f).missed = x.missed := rfl
@[simp] theorem Ctlr.beatAt_modSup (x : Ctlr) (f : Supply → Supply) : (x.modSup f).beatAt = x.beatAt := rfl
@[simp] theorem Ctlr.linkAl_modSup (x : Ctlr) (f : Supply → Supply) : (x.modSup f).linkAl = x.linkAl := rfl
@[simp] theorem Ctlr.beatDue_modSup (x : Ctlr) (f : Supply → Supply) : (x.modSup f).beatDue = x.beatDue := rfl
@[simp] theorem Ctlr.beatTx_modSup (x : Ctlr) (f : Supply → Supply) : (x.modSup f).beatTx = x.beatTx := rfl
@[simp] theorem Ctlr.beat_modSup (x : Ctlr) (f : Supply → Supply) : (x.modSup f).beat = x.beat := rfl
@[simp] theorem Ctlr.electTx_modSup (x : Ctlr) (f : Supply → Supply) : (x.modSup f).electTx = x.electTx := rfl
@[simp] theorem Ctlr.elect_modSup (x : Ctlr) (f : Supply → Supply) : (x.modSup f).elect = x.elect := rfl
@[simp] theorem Ctlr.peerOn_modSup (x : Ctlr) (f : Supply → Supply) : (x.modSup f).peerOn = x.peerOn := rfl
@[simp] theorem Ctlr.schema_modSup (x : Ctlr) (f : Supply → Supply) : (x.modSup f).schema = x.schema := rfl
@[simp] theorem Ctlr.line_modSup (x : Ctlr) (f : Supply → Supply) : (x.modSup f).line = x.line := rfl
@[simp] theorem Ctlr.minor_modSup (x : Ctlr) (f : Supply → Supply) : (x.modSup f).minor = x.minor := rfl
@[simp] theorem Ctlr.build_modSup (x : Ctlr) (f : Supply → Supply) : (x.modSup f).build = x.build := rfl
@[simp] theorem Ctlr.digest_modSup (x : Ctlr) (f : Supply → Supply) : (x.modSup f).digest = x.digest := rfl
@[simp] theorem Ctlr.digestAt_modSup (x : Ctlr) (f : Supply → Supply) : (x.modSup f).digestAt = x.digestAt := rfl
@[simp] theorem Ctlr.digestAl_modSup (x : Ctlr) (f : Supply → Supply) : (x.modSup f).digestAl = x.digestAl := rfl
@[simp] theorem Ctlr.lever_modSup (x : Ctlr) (f : Supply → Supply) : (x.modSup f).lever = x.lever := rfl
@[simp] theorem Ctlr.leverAt_modSup (x : Ctlr) (f : Supply → Supply) : (x.modSup f).leverAt = x.leverAt := rfl
@[simp] theorem Ctlr.seen_modSup (x : Ctlr) (f : Supply → Supply) : (x.modSup f).seen = x.seen := rfl
@[simp] theorem Ctlr.claims_modSup (x : Ctlr) (f : Supply → Supply) : (x.modSup f).claims = x.claims := rfl
@[simp] theorem Ctlr.tx_modSup (x : Ctlr) (f : Supply → Supply) : (x.modSup f).tx = x.tx := rfl
@[simp] theorem Ctlr.image_modSup (x : Ctlr) (f : Supply → Supply) : (x.modSup f).image = x.image := rfl
@[simp] theorem Ctlr.imgJsn_modSup (x : Ctlr) (f : Supply → Supply) : (x.modSup f).imgJsn = x.imgJsn := rfl
@[simp] theorem Ctlr.acts_modSup (x : Ctlr) (f : Supply → Supply) : (x.modSup f).acts = x.acts := rfl
@[simp] theorem Ctlr.voyAck_modSup (x : Ctlr) (f : Supply → Supply) : (x.modSup f).voyAck = x.voyAck := rfl
@[simp] theorem Ctlr.slotDue_modSup (x : Ctlr) (f : Supply → Supply) : (x.modSup f).slotDue = x.slotDue := rfl
@[simp] theorem Ctlr.latchAt_modSup (x : Ctlr) (f : Supply → Supply) : (x.modSup f).latchAt = x.latchAt := rfl
@[simp] theorem Ctlr.latched_modSup (x : Ctlr) (f : Supply → Supply) : (x.modSup f).latched = x.latched := rfl
@[simp] theorem Ctlr.hk_modSup (x : Ctlr) (f : Supply → Supply) : (x.modSup f).hk = x.hk := rfl
@[simp] theorem Ctlr.alarms_modSup (x : Ctlr) (f : Supply → Supply) : (x.modSup f).alarms = x.alarms := rfl
@[simp] theorem Ctlr.transfer_modSup (x : Ctlr) (f : Supply → Supply) : (x.modSup f).transfer = x.transfer := rfl
@[simp] theorem Ctlr.phyA_modSup (x : Ctlr) (f : Supply → Supply) : (x.modSup f).phyA = x.phyA := rfl
@[simp] theorem Ctlr.phyB_modSup (x : Ctlr) (f : Supply → Supply) : (x.modSup f).phyB = x.phyB := rfl
@[simp] theorem Ctlr.dups_modSup (x : Ctlr) (f : Supply → Supply) : (x.modSup f).dups = x.dups := rfl
@[simp] theorem Ctlr.addrDue_modSup (x : Ctlr) (f : Supply → Supply) : (x.modSup f).addrDue = x.addrDue := rfl
@[simp] theorem Ctlr.addrs_modSup (x : Ctlr) (f : Supply → Supply) : (x.modSup f).addrs = x.addrs := rfl
@[simp] theorem Ctlr.lines_modSup (x : Ctlr) (f : Supply → Supply) : (x.modSup f).lines = x.lines := rfl
@[simp] theorem Ctlr.lineAl_modSup (x : Ctlr) (f : Supply → Supply) : (x.modSup f).lineAl = x.lineAl := rfl
@[simp] theorem Ctlr.testAt_modSup (x : Ctlr) (f : Supply → Supply) : (x.modSup f).testAt = x.testAt := rfl
@[simp] theorem Ctlr.testRun_modSup (x : Ctlr) (f : Supply → Supply) : (x.modSup f).testRun = x.testRun := rfl
@[simp] theorem Ctlr.scrubEn_modSup (x : Ctlr) (f : Supply → Supply) : (x.modSup f).scrubEn = x.scrubEn := rfl
@[simp] theorem Ctlr.scrubAt_modSup (x : Ctlr) (f : Supply → Supply) : (x.modSup f).scrubAt = x.scrubAt := rfl
@[simp] theorem Ctlr.scrubIn_modSup (x : Ctlr) (f : Supply → Supply) : (x.modSup f).scrubIn = x.scrubIn := rfl
@[simp] theorem Ctlr.scrubRun_modSup (x : Ctlr) (f : Supply → Supply) : (x.modSup f).scrubRun = x.scrubRun := rfl
@[simp] theorem Ctlr.scrubs_modSup (x : Ctlr) (f : Supply → Supply) : (x.modSup f).scrubs = x.scrubs := rfl
@[simp] theorem Ctlr.mramCe_modSup (x : Ctlr) (f : Supply → Supply) : (x.modSup f).mramCe = x.mramCe := rfl
@[simp] theorem Ctlr.sramCe_modSup (x : Ctlr) (f : Supply → Supply) : (x.modSup f).sramCe = x.sramCe := rfl
@[simp] theorem Ctlr.pairErr_modSup (x : Ctlr) (f : Supply → Supply) : (x.modSup f).pairErr = x.pairErr := rfl
@[simp] theorem Ctlr.linkErr_modSup (x : Ctlr) (f : Supply → Supply) : (x.modSup f).linkErr = x.linkErr := rfl
@[simp] theorem Ctlr.utimeLo_modSup (x : Ctlr) (f : Supply → Supply) : (x.modSup f).utimeLo = x.utimeLo := rfl
@[simp] theorem Ctlr.directAl_modSup (x : Ctlr) (f : Supply → Supply) : (x.modSup f).directAl = x.directAl := rfl
@[simp] theorem Ctlr.stale_modSup (x : Ctlr) (f : Supply → Supply) : (x.modSup f).stale = x.stale := rfl
@[simp] theorem Ctlr.time_modSup (x : Ctlr) (f : Supply → Supply) : (x.modSup f).time = x.time := rfl
@[simp] theorem Ctlr.gnss_modSup (x : Ctlr) (f : Supply → Supply) : (x.modSup f).gnss = x.gnss := rfl
@[simp] theorem Ctlr.exp_modSup (x : Ctlr) (f : Supply → Supply) : (x.modSup f).exp = x.exp := rfl
@[simp] theorem Ctlr.mram_modSup (x : Ctlr) (f : Supply → Supply) : (x.modSup f).mram = x.mram := rfl
@[simp] theorem Ctlr.sup_modSup (x : Ctlr) (f : Supply → Supply) : (x.modSup f).sup = f x.sup := rfl
@[simp] theorem State.modPhy_eq (s : State) (c : Ctl) (p : Bus) (f : Phy → Phy) : s.modPhy c p f = s.modCtl c (·.modPhy p f) := rfl
@[simp] theorem Ctlr.fitted_modPhy (x : Ctlr) (p : Bus) (f : Phy → Phy) : (x.modPhy p f).fitted = x.fitted := by cases p <;> rfl
@[simp] theorem Ctlr.powered_modPhy (x : Ctlr) (p : Bus) (f : Phy → Phy) : (x.modPhy p f).powered = x.powered := by cases p <;> rfl
@[simp] theorem Ctlr.serial_modPhy (x : Ctlr) (p : Bus) (f : Phy → Phy) : (x.modPhy p f).serial = x.serial := by cases p <;> rfl
@[simp] theorem Ctlr.issue_modPhy (x : Ctlr) (p : Bus) (f : Phy → Phy) : (x.modPhy p f).issue = x.issue := by cases p <;> rfl
@[simp] theorem Ctlr.role_modPhy (x : Ctlr) (p : Bus) (f : Phy → Phy) : (x.modPhy p f).role = x.role := by cases p <;> rfl
@[simp] theorem Ctlr.cause_modPhy (x : Ctlr) (p : Bus) (f : Phy → Phy) : (x.modPhy p f).cause = x.cause := by cases p <;> rfl
@[simp] theorem Ctlr.take_modPhy (x : Ctlr) (p : Bus) (f : Phy → Phy) : (x.modPhy p f).take = x.take := by cases p <;> rfl
@[simp] theorem Ctlr.unsync_modPhy (x : Ctlr) (p : Bus) (f : Phy → Phy) : (x.modPhy p f).unsync = x.unsync := by cases p <;> rfl
@[simp] theorem Ctlr.roleAt_modPhy (x : Ctlr) (p : Bus) (f : Phy → Phy) : (x.modPhy p f).roleAt = x.roleAt := by cases p <;> rfl
@[simp] theorem Ctlr.roleIn_modPhy (x : Ctlr) (p : Bus) (f : Phy → Phy) : (x.modPhy p f).roleIn = x.roleIn := by cases p <;> rfl
@[simp] theorem Ctlr.roleEv_modPhy (x : Ctlr) (p : Bus) (f : Phy → Phy) : (x.modPhy p f).roleEv = x.roleEv := by cases p <;> rfl
@[simp] theorem Ctlr.okFrom_modPhy (x : Ctlr) (p : Bus) (f : Phy → Phy) : (x.modPhy p f).okFrom = x.okFrom := by cases p <;> rfl
@[simp] theorem Ctlr.swapAt_modPhy (x : Ctlr) (p : Bus) (f : Phy → Phy) : (x.modPhy p f).swapAt = x.swapAt := by cases p <;> rfl
@[simp] theorem Ctlr.boot_modPhy (x : Ctlr) (p : Bus) (f : Phy → Phy) : (x.modPhy p f).boot = x.boot := by cases p <;> rfl
@[simp] theorem Ctlr.refAt_modPhy (x : Ctlr) (p : Bus) (f : Phy → Phy) : (x.modPhy p f).refAt = x.refAt := by cases p <;> rfl
@[simp] theorem Ctlr.miles_modPhy (x : Ctlr) (p : Bus) (f : Phy → Phy) : (x.modPhy p f).miles = x.miles := by cases p <;> rfl
@[simp] theorem Ctlr.started_modPhy (x : Ctlr) (p : Bus) (f : Phy → Phy) : (x.modPhy p f).started = x.started := by cases p <;> rfl
@[simp] theorem Ctlr.bootRst_modPhy (x : Ctlr) (p : Bus) (f : Phy → Phy) : (x.modPhy p f).bootRst = x.bootRst := by cases p <;> rfl
@[simp] theorem Ctlr.bootEv_modPhy (x : Ctlr) (p : Bus) (f : Phy → Phy) : (x.modPhy p f).bootEv = x.bootEv := by cases p <;> rfl
@[simp] theorem Ctlr.imgB_modPhy (x : Ctlr) (p : Bus) (f : Phy → Phy) : (x.modPhy p f).imgB = x.imgB := by cases p <;> rfl
@[simp] theorem Ctlr.ready_modPhy (x : Ctlr) (p : Bus) (f : Phy → Phy) : (x.modPhy p f).ready = x.ready := by cases p <;> rfl
@[simp] theorem Ctlr.failN_modPhy (x : Ctlr) (p : Bus) (f : Phy → Phy) : (x.modPhy p f).failN = x.failN := by cases p <;> rfl
@[simp] theorem Ctlr.peerFail_modPhy (x : Ctlr) (p : Bus) (f : Phy → Phy) : (x.modPhy p f).peerFail = x.peerFail := by cases p <;> rfl
@[simp] theorem Ctlr.peerGone_modPhy (x : Ctlr) (p : Bus) (f : Phy → Phy) : (x.modPhy p f).peerGone = x.peerGone := by cases p <;> rfl
@[simp] theorem Ctlr.lanes_modPhy (x : Ctlr) (p : Bus) (f : Phy → Phy) : (x.modPhy p f).lanes = x.lanes := by cases p <;> rfl
@[simp] theorem Ctlr.missed_modPhy (x : Ctlr) (p : Bus) (f : Phy → Phy) : (x.modPhy p f).missed = x.missed := by cases p <;> rfl
@[simp] theorem Ctlr.beatAt_modPhy (x : Ctlr) (p : Bus) (f : Phy → Phy) : (x.modPhy p f).beatAt = x.beatAt := by cases p <;> rfl
@[simp] theorem Ctlr.linkAl_modPhy (x : Ctlr) (p : Bus) (f : Phy → Phy) : (x.modPhy p f).linkAl = x.linkAl := by cases p <;> rfl
@[simp] theorem Ctlr.beatDue_modPhy (x : Ctlr) (p : Bus) (f : Phy → Phy) : (x.modPhy p f).beatDue = x.beatDue := by cases p <;> rfl
@[simp] theorem Ctlr.beatTx_modPhy (x : Ctlr) (p : Bus) (f : Phy → Phy) : (x.modPhy p f).beatTx = x.beatTx := by cases p <;> rfl
@[simp] theorem Ctlr.beat_modPhy (x : Ctlr) (p : Bus) (f : Phy → Phy) : (x.modPhy p f).beat = x.beat := by cases p <;> rfl
@[simp] theorem Ctlr.electTx_modPhy (x : Ctlr) (p : Bus) (f : Phy → Phy) : (x.modPhy p f).electTx = x.electTx := by cases p <;> rfl
@[simp] theorem Ctlr.elect_modPhy (x : Ctlr) (p : Bus) (f : Phy → Phy) : (x.modPhy p f).elect = x.elect := by cases p <;> rfl
@[simp] theorem Ctlr.peerOn_modPhy (x : Ctlr) (p : Bus) (f : Phy → Phy) : (x.modPhy p f).peerOn = x.peerOn := by cases p <;> rfl
@[simp] theorem Ctlr.schema_modPhy (x : Ctlr) (p : Bus) (f : Phy → Phy) : (x.modPhy p f).schema = x.schema := by cases p <;> rfl
@[simp] theorem Ctlr.line_modPhy (x : Ctlr) (p : Bus) (f : Phy → Phy) : (x.modPhy p f).line = x.line := by cases p <;> rfl
@[simp] theorem Ctlr.minor_modPhy (x : Ctlr) (p : Bus) (f : Phy → Phy) : (x.modPhy p f).minor = x.minor := by cases p <;> rfl
@[simp] theorem Ctlr.build_modPhy (x : Ctlr) (p : Bus) (f : Phy → Phy) : (x.modPhy p f).build = x.build := by cases p <;> rfl
@[simp] theorem Ctlr.digest_modPhy (x : Ctlr) (p : Bus) (f : Phy → Phy) : (x.modPhy p f).digest = x.digest := by cases p <;> rfl
@[simp] theorem Ctlr.digestAt_modPhy (x : Ctlr) (p : Bus) (f : Phy → Phy) : (x.modPhy p f).digestAt = x.digestAt := by cases p <;> rfl
@[simp] theorem Ctlr.digestAl_modPhy (x : Ctlr) (p : Bus) (f : Phy → Phy) : (x.modPhy p f).digestAl = x.digestAl := by cases p <;> rfl
@[simp] theorem Ctlr.lever_modPhy (x : Ctlr) (p : Bus) (f : Phy → Phy) : (x.modPhy p f).lever = x.lever := by cases p <;> rfl
@[simp] theorem Ctlr.leverAt_modPhy (x : Ctlr) (p : Bus) (f : Phy → Phy) : (x.modPhy p f).leverAt = x.leverAt := by cases p <;> rfl
@[simp] theorem Ctlr.seen_modPhy (x : Ctlr) (p : Bus) (f : Phy → Phy) : (x.modPhy p f).seen = x.seen := by cases p <;> rfl
@[simp] theorem Ctlr.claims_modPhy (x : Ctlr) (p : Bus) (f : Phy → Phy) : (x.modPhy p f).claims = x.claims := by cases p <;> rfl
@[simp] theorem Ctlr.tx_modPhy (x : Ctlr) (p : Bus) (f : Phy → Phy) : (x.modPhy p f).tx = x.tx := by cases p <;> rfl
@[simp] theorem Ctlr.image_modPhy (x : Ctlr) (p : Bus) (f : Phy → Phy) : (x.modPhy p f).image = x.image := by cases p <;> rfl
@[simp] theorem Ctlr.imgJsn_modPhy (x : Ctlr) (p : Bus) (f : Phy → Phy) : (x.modPhy p f).imgJsn = x.imgJsn := by cases p <;> rfl
@[simp] theorem Ctlr.acts_modPhy (x : Ctlr) (p : Bus) (f : Phy → Phy) : (x.modPhy p f).acts = x.acts := by cases p <;> rfl
@[simp] theorem Ctlr.voyAck_modPhy (x : Ctlr) (p : Bus) (f : Phy → Phy) : (x.modPhy p f).voyAck = x.voyAck := by cases p <;> rfl
@[simp] theorem Ctlr.slotDue_modPhy (x : Ctlr) (p : Bus) (f : Phy → Phy) : (x.modPhy p f).slotDue = x.slotDue := by cases p <;> rfl
@[simp] theorem Ctlr.latchAt_modPhy (x : Ctlr) (p : Bus) (f : Phy → Phy) : (x.modPhy p f).latchAt = x.latchAt := by cases p <;> rfl
@[simp] theorem Ctlr.latched_modPhy (x : Ctlr) (p : Bus) (f : Phy → Phy) : (x.modPhy p f).latched = x.latched := by cases p <;> rfl
@[simp] theorem Ctlr.hk_modPhy (x : Ctlr) (p : Bus) (f : Phy → Phy) : (x.modPhy p f).hk = x.hk := by cases p <;> rfl
@[simp] theorem Ctlr.alarms_modPhy (x : Ctlr) (p : Bus) (f : Phy → Phy) : (x.modPhy p f).alarms = x.alarms := by cases p <;> rfl
@[simp] theorem Ctlr.transfer_modPhy (x : Ctlr) (p : Bus) (f : Phy → Phy) : (x.modPhy p f).transfer = x.transfer := by cases p <;> rfl
@[simp] theorem Ctlr.dups_modPhy (x : Ctlr) (p : Bus) (f : Phy → Phy) : (x.modPhy p f).dups = x.dups := by cases p <;> rfl
@[simp] theorem Ctlr.addrDue_modPhy (x : Ctlr) (p : Bus) (f : Phy → Phy) : (x.modPhy p f).addrDue = x.addrDue := by cases p <;> rfl
@[simp] theorem Ctlr.addrs_modPhy (x : Ctlr) (p : Bus) (f : Phy → Phy) : (x.modPhy p f).addrs = x.addrs := by cases p <;> rfl
@[simp] theorem Ctlr.lines_modPhy (x : Ctlr) (p : Bus) (f : Phy → Phy) : (x.modPhy p f).lines = x.lines := by cases p <;> rfl
@[simp] theorem Ctlr.lineAl_modPhy (x : Ctlr) (p : Bus) (f : Phy → Phy) : (x.modPhy p f).lineAl = x.lineAl := by cases p <;> rfl
@[simp] theorem Ctlr.testAt_modPhy (x : Ctlr) (p : Bus) (f : Phy → Phy) : (x.modPhy p f).testAt = x.testAt := by cases p <;> rfl
@[simp] theorem Ctlr.testRun_modPhy (x : Ctlr) (p : Bus) (f : Phy → Phy) : (x.modPhy p f).testRun = x.testRun := by cases p <;> rfl
@[simp] theorem Ctlr.scrubEn_modPhy (x : Ctlr) (p : Bus) (f : Phy → Phy) : (x.modPhy p f).scrubEn = x.scrubEn := by cases p <;> rfl
@[simp] theorem Ctlr.scrubAt_modPhy (x : Ctlr) (p : Bus) (f : Phy → Phy) : (x.modPhy p f).scrubAt = x.scrubAt := by cases p <;> rfl
@[simp] theorem Ctlr.scrubIn_modPhy (x : Ctlr) (p : Bus) (f : Phy → Phy) : (x.modPhy p f).scrubIn = x.scrubIn := by cases p <;> rfl
@[simp] theorem Ctlr.scrubRun_modPhy (x : Ctlr) (p : Bus) (f : Phy → Phy) : (x.modPhy p f).scrubRun = x.scrubRun := by cases p <;> rfl
@[simp] theorem Ctlr.scrubs_modPhy (x : Ctlr) (p : Bus) (f : Phy → Phy) : (x.modPhy p f).scrubs = x.scrubs := by cases p <;> rfl
@[simp] theorem Ctlr.mramCe_modPhy (x : Ctlr) (p : Bus) (f : Phy → Phy) : (x.modPhy p f).mramCe = x.mramCe := by cases p <;> rfl
@[simp] theorem Ctlr.sramCe_modPhy (x : Ctlr) (p : Bus) (f : Phy → Phy) : (x.modPhy p f).sramCe = x.sramCe := by cases p <;> rfl
@[simp] theorem Ctlr.pairErr_modPhy (x : Ctlr) (p : Bus) (f : Phy → Phy) : (x.modPhy p f).pairErr = x.pairErr := by cases p <;> rfl
@[simp] theorem Ctlr.linkErr_modPhy (x : Ctlr) (p : Bus) (f : Phy → Phy) : (x.modPhy p f).linkErr = x.linkErr := by cases p <;> rfl
@[simp] theorem Ctlr.utimeLo_modPhy (x : Ctlr) (p : Bus) (f : Phy → Phy) : (x.modPhy p f).utimeLo = x.utimeLo := by cases p <;> rfl
@[simp] theorem Ctlr.directAl_modPhy (x : Ctlr) (p : Bus) (f : Phy → Phy) : (x.modPhy p f).directAl = x.directAl := by cases p <;> rfl
@[simp] theorem Ctlr.stale_modPhy (x : Ctlr) (p : Bus) (f : Phy → Phy) : (x.modPhy p f).stale = x.stale := by cases p <;> rfl
@[simp] theorem Ctlr.sup_modPhy (x : Ctlr) (p : Bus) (f : Phy → Phy) : (x.modPhy p f).sup = x.sup := by cases p <;> rfl
@[simp] theorem Ctlr.time_modPhy (x : Ctlr) (p : Bus) (f : Phy → Phy) : (x.modPhy p f).time = x.time := by cases p <;> rfl
@[simp] theorem Ctlr.gnss_modPhy (x : Ctlr) (p : Bus) (f : Phy → Phy) : (x.modPhy p f).gnss = x.gnss := by cases p <;> rfl
@[simp] theorem Ctlr.exp_modPhy (x : Ctlr) (p : Bus) (f : Phy → Phy) : (x.modPhy p f).exp = x.exp := by cases p <;> rfl
@[simp] theorem Ctlr.mram_modPhy (x : Ctlr) (p : Bus) (f : Phy → Phy) : (x.modPhy p f).mram = x.mram := by cases p <;> rfl
@[simp] theorem Ctlr.phy_modPhy (x : Ctlr) (p r : Bus) (f : Phy → Phy) : (x.modPhy p f).phy r = if r = p then f (x.phy r) else x.phy r := by
  cases p <;> cases r <;> simp [Ctlr.modPhy, Ctlr.phy]

/-! Parts of a channel. -/

@[simp] theorem State.modStage_eq (s : State) (c : Ch) (f : Stage → Stage) : s.modStage c f = s.modChan c (·.modStage f) := rfl
@[simp] theorem Chan.stage_modStage (x : Chan) (f : Stage → Stage) : (x.modStage f).stage = f x.stage := rfl
@[simp] theorem Chan.prot_modStage (x : Chan) (f : Stage → Stage) : (x.modStage f).prot = x.prot := rfl
@[simp] theorem Chan.gen_modStage (x : Chan) (f : Stage → Stage) : (x.modStage f).gen = x.gen := rfl
@[simp] theorem Chan.ctrl_modStage (x : Chan) (f : Stage → Stage) : (x.modStage f).ctrl = x.ctrl := rfl
@[simp] theorem Chan.meas_modStage (x : Chan) (f : Stage → Stage) : (x.modStage f).meas = x.meas := rfl
@[simp] theorem Chan.set_modStage (x : Chan) (f : Stage → Stage) : (x.modStage f).set = x.set := rfl
@[simp] theorem State.modProt_eq (s : State) (c : Ch) (f : Prot → Prot) : s.modProt c f = s.modChan c (·.modProt f) := rfl
@[simp] theorem Chan.stage_modProt (x : Chan) (f : Prot → Prot) : (x.modProt f).stage = x.stage := rfl
@[simp] theorem Chan.prot_modProt (x : Chan) (f : Prot → Prot) : (x.modProt f).prot = f x.prot := rfl
@[simp] theorem Chan.gen_modProt (x : Chan) (f : Prot → Prot) : (x.modProt f).gen = x.gen := rfl
@[simp] theorem Chan.ctrl_modProt (x : Chan) (f : Prot → Prot) : (x.modProt f).ctrl = x.ctrl := rfl
@[simp] theorem Chan.meas_modProt (x : Chan) (f : Prot → Prot) : (x.modProt f).meas = x.meas := rfl
@[simp] theorem Chan.set_modProt (x : Chan) (f : Prot → Prot) : (x.modProt f).set = x.set := rfl
@[simp] theorem State.modGen_eq (s : State) (c : Ch) (f : Gen → Gen) : s.modGen c f = s.modChan c (·.modGen f) := rfl
@[simp] theorem Chan.stage_modGen (x : Chan) (f : Gen → Gen) : (x.modGen f).stage = x.stage := rfl
@[simp] theorem Chan.prot_modGen (x : Chan) (f : Gen → Gen) : (x.modGen f).prot = x.prot := rfl
@[simp] theorem Chan.gen_modGen (x : Chan) (f : Gen → Gen) : (x.modGen f).gen = f x.gen := rfl
@[simp] theorem Chan.ctrl_modGen (x : Chan) (f : Gen → Gen) : (x.modGen f).ctrl = x.ctrl := rfl
@[simp] theorem Chan.meas_modGen (x : Chan) (f : Gen → Gen) : (x.modGen f).meas = x.meas := rfl
@[simp] theorem Chan.set_modGen (x : Chan) (f : Gen → Gen) : (x.modGen f).set = x.set := rfl
@[simp] theorem State.modCtrl_eq (s : State) (c : Ch) (f : Ctrl → Ctrl) : s.modCtrl c f = s.modChan c (·.modCtrl f) := rfl
@[simp] theorem Chan.stage_modCtrl (x : Chan) (f : Ctrl → Ctrl) : (x.modCtrl f).stage = x.stage := rfl
@[simp] theorem Chan.prot_modCtrl (x : Chan) (f : Ctrl → Ctrl) : (x.modCtrl f).prot = x.prot := rfl
@[simp] theorem Chan.gen_modCtrl (x : Chan) (f : Ctrl → Ctrl) : (x.modCtrl f).gen = x.gen := rfl
@[simp] theorem Chan.ctrl_modCtrl (x : Chan) (f : Ctrl → Ctrl) : (x.modCtrl f).ctrl = f x.ctrl := rfl
@[simp] theorem Chan.meas_modCtrl (x : Chan) (f : Ctrl → Ctrl) : (x.modCtrl f).meas = x.meas := rfl
@[simp] theorem Chan.set_modCtrl (x : Chan) (f : Ctrl → Ctrl) : (x.modCtrl f).set = x.set := rfl
@[simp] theorem State.modMeas_eq (s : State) (c : Ch) (f : Meas → Meas) : s.modMeas c f = s.modChan c (·.modMeas f) := rfl
@[simp] theorem Chan.stage_modMeas (x : Chan) (f : Meas → Meas) : (x.modMeas f).stage = x.stage := rfl
@[simp] theorem Chan.prot_modMeas (x : Chan) (f : Meas → Meas) : (x.modMeas f).prot = x.prot := rfl
@[simp] theorem Chan.gen_modMeas (x : Chan) (f : Meas → Meas) : (x.modMeas f).gen = x.gen := rfl
@[simp] theorem Chan.ctrl_modMeas (x : Chan) (f : Meas → Meas) : (x.modMeas f).ctrl = x.ctrl := rfl
@[simp] theorem Chan.meas_modMeas (x : Chan) (f : Meas → Meas) : (x.modMeas f).meas = f x.meas := rfl
@[simp] theorem Chan.set_modMeas (x : Chan) (f : Meas → Meas) : (x.modMeas f).set = x.set := rfl

@[simp] theorem State.modClaim_eq (s : State) (c : Ctl) (k : Slot) (f : Claim → Claim) :
    s.modClaim c k f = s.modCtl c fun x => { x with claims := modV x.claims k f } := rfl
@[simp] theorem State.modSeen_eq (s : State) (c : Ctl) (k : Slot) (f : Seen → Seen) :
    s.modSeen c k f = s.modCtl c fun x => { x with seen := modV x.seen k f } := rfl

end Sys2Proof.Machine
end

