-- ==== Sys2Proof/Laws/Log.lean ====
section
/-!
SUPPORT. Laws/Log.lean: logging and alarms change a controller's log, alarms and waiting reports, and nothing else.
-/
namespace Sys2Proof.Machine

theorem Ctlr.Logged.refl (x : Ctlr) : Ctlr.Logged x x := ⟨fun _ => rfl, rfl⟩

theorem Ctlr.Logged.trans {x y z : Ctlr} (h : Ctlr.Logged x y) (g : Ctlr.Logged y z) : Ctlr.Logged x z := by
  obtain ⟨h1, h2⟩ := h
  obtain ⟨g1, g2⟩ := g
  refine ⟨fun i => ?_, ?_⟩
  · rw [g1 i, h1 i]
  · rw [g2, h2]

theorem Logged.refl (s : State) : Logged s s := fun _ => Ctlr.Logged.refl _

theorem Logged.trans {s u v : State} (h : Logged s u) (g : Logged u v) : Logged s v := fun c => Ctlr.Logged.trans (h c) (g c)

theorem OnlyLog.refl (s : State) : OnlyLog s s := ⟨Logged.refl s, rfl⟩

theorem OnlyLog.trans {s u v : State} (h : OnlyLog s u) (g : OnlyLog u v) : OnlyLog s v :=
  ⟨Logged.trans h.1 g.1, by rw [g.2, h.2]⟩

section
variable {s u : State} (h : OnlyLog s u)
include h

theorem OnlyLog.cart (k : Slot) : u.cart k = s.cart k := by rw [h.2]; rfl
theorem OnlyLog.chan (c : Ch) : u.chan c = s.chan c := by rw [h.2]; rfl
theorem OnlyLog.twin (p : Pair) : u.twin p = s.twin p := by rw [h.2]; rfl
theorem OnlyLog.loop (q : Quad) : u.loop q = s.loop q := by rw [h.2]; rfl
theorem OnlyLog.tach (q : Quad) : u.tach q = s.tach q := by rw [h.2]; rfl
theorem OnlyLog.cool : u.cool = s.cool := by rw [h.2]
theorem OnlyLog.ant : u.ant = s.ant := by rw [h.2]
theorem OnlyLog.plug : u.plug = s.plug := by rw [h.2]
theorem OnlyLog.s50 : u.s50 = s.s50 := by rw [h.2]
theorem OnlyLog.x50 : u.x50 = s.x50 := by rw [h.2]
theorem OnlyLog.expOver : u.expOver = s.expOver := by rw [h.2]
theorem OnlyLog.expSince : u.expSince = s.expSince := by rw [h.2]
theorem OnlyLog.mode : u.mode = s.mode := by rw [h.2]
theorem OnlyLog.out : u.out = s.out := by rw [h.2]
theorem OnlyLog.free : u.free = s.free := by rw [h.2]
theorem OnlyLog.now : u.now = s.now := by rw [h.2]
theorem OnlyLog.pending : u.pending = s.pending := by rw [h.2]
theorem OnlyLog.carts : u.carts = s.carts := by rw [h.2]
theorem OnlyLog.chans : u.chans = s.chans := by rw [h.2]

end

/-- A change of one controller that is at most logging. -/
theorem onlyLog_modCtl (s : State) (c : Ctl) (f : Ctlr → Ctlr) (h : Ctlr.Logged (s.ctl c) (f (s.ctl c))) : OnlyLog s (s.modCtl c f) := by
  refine ⟨fun d => ?_, by cases c <;> rfl⟩
  by_cases e : d = c
  · subst e; simpa using h
  · simpa [e] using Ctlr.Logged.refl _

theorem onlyLog_logAt (s : State) (w : Ctl) (r : LogRec) : OnlyLog s (s.logAt w r) := by
  unfold State.logAt State.modMram
  exact onlyLog_modCtl s w _ ⟨fun _ => rfl, rfl⟩

theorem onlyLog_logEv (s : State) (c : Ctl) (code flags source object : Nat) (body : Bytes) :
    OnlyLog s (s.logEv c code flags source object body) := by
  unfold State.logEv
  split
  · exact onlyLog_logAt ..
  · exact OnlyLog.refl s

theorem onlyLog_logUnit (s : State) (code flags source object : Nat) (body : Bytes) : OnlyLog s (s.logUnit code flags source object body) :=
  onlyLog_logEv ..

theorem Logged_setAlarm (x : Ctlr) (code index : Nat) (on : Bool) (now : UnitTime) : Ctlr.Logged x (x.setAlarm code index on now) := by
  have put : x.putAlarm code index on now = { x with alarms := (x.putAlarm code index on now).alarms } := by
    unfold Ctlr.putAlarm
    split
    · rfl
    · split <;> rfl
  unfold Ctlr.setAlarm
  rw [put]
  dsimp only
  split
  · refine ⟨fun i => ?_, rfl⟩
    simp [Mram.tellAlarm, Mram.client]
  · exact ⟨fun _ => rfl, rfl⟩

theorem onlyLog_alarm (s : State) (c : Ctl) (code index : Nat) (on : Bool) (source : Nat) (old new meas limit : Int) (serial : Bytes) :
    OnlyLog s (s.alarm c code index on source old new meas limit serial) := by
  unfold State.alarm
  split
  · exact OnlyLog.refl s
  · split
    · exact OnlyLog.refl s
    · exact OnlyLog.trans (onlyLog_modCtl s _ _ (Logged_setAlarm ..)) (onlyLog_logAt ..)

theorem onlyLog_alarmUnit (s : State) (code index : Nat) (on : Bool) (source : Nat) (old new meas limit : Int) (serial : Bytes) :
    OnlyLog s (s.alarmUnit code index on source old new meas limit serial) := onlyLog_alarm ..

theorem onlyLog_chanEvent (s : State) (c : Ch) (code : Nat) (old new meas limit : Int) : OnlyLog s (s.chanEvent c code old new meas limit) :=
  onlyLog_logUnit ..

theorem onlyLog_chanAlarm (s : State) (c : Ch) (code : Nat) (on : Bool) (old new meas limit : Int) :
    OnlyLog s (s.chanAlarm c code on old new meas limit) := onlyLog_alarmUnit ..

theorem onlyLog_chanFlag (s : State) (c : Ch) (code : Nat) (was is : Bool) (meas limit : Int) :
    OnlyLog s (s.chanFlag c code was is meas limit) := by
  unfold State.chanFlag
  split
  · exact OnlyLog.refl s
  · exact onlyLog_chanAlarm ..

/-! What logging leaves: every part but the controllers. -/

section
variable (s : State)

@[simp] theorem State.chan_logAt (w : Ctl) (r : LogRec) (i : Ch) : (s.logAt w r).chan i = s.chan i := OnlyLog.chan (onlyLog_logAt ..) i
@[simp] theorem State.cart_logAt (w : Ctl) (r : LogRec) (i : Slot) : (s.logAt w r).cart i = s.cart i := OnlyLog.cart (onlyLog_logAt ..) i
@[simp] theorem State.twin_logAt (w : Ctl) (r : LogRec) (i : Pair) : (s.logAt w r).twin i = s.twin i := OnlyLog.twin (onlyLog_logAt ..) i
@[simp] theorem State.loop_logAt (w : Ctl) (r : LogRec) (i : Quad) : (s.logAt w r).loop i = s.loop i := OnlyLog.loop (onlyLog_logAt ..) i
@[simp] theorem State.tach_logAt (w : Ctl) (r : LogRec) (i : Quad) : (s.logAt w r).tach i = s.tach i := OnlyLog.tach (onlyLog_logAt ..) i
@[simp] theorem State.cool_logAt (w : Ctl) (r : LogRec) : (s.logAt w r).cool = s.cool := OnlyLog.cool (onlyLog_logAt ..)
@[simp] theorem State.ant_logAt (w : Ctl) (r : LogRec) : (s.logAt w r).ant = s.ant := OnlyLog.ant (onlyLog_logAt ..)
@[simp] theorem State.plug_logAt (w : Ctl) (r : LogRec) : (s.logAt w r).plug = s.plug := OnlyLog.plug (onlyLog_logAt ..)
@[simp] theorem State.s50_logAt (w : Ctl) (r : LogRec) : (s.logAt w r).s50 = s.s50 := OnlyLog.s50 (onlyLog_logAt ..)
@[simp] theorem State.x50_logAt (w : Ctl) (r : LogRec) : (s.logAt w r).x50 = s.x50 := OnlyLog.x50 (onlyLog_logAt ..)
@[simp] theorem State.mode_logAt (w : Ctl) (r : LogRec) : (s.logAt w r).mode = s.mode := OnlyLog.mode (onlyLog_logAt ..)
@[simp] theorem State.out_logAt (w : Ctl) (r : LogRec) : (s.logAt w r).out = s.out := OnlyLog.out (onlyLog_logAt ..)
@[simp] theorem State.free_logAt (w : Ctl) (r : LogRec) : (s.logAt w r).free = s.free := OnlyLog.free (onlyLog_logAt ..)
@[simp] theorem State.now_logAt (w : Ctl) (r : LogRec) : (s.logAt w r).now = s.now := OnlyLog.now (onlyLog_logAt ..)
@[simp] theorem State.pending_logAt (w : Ctl) (r : LogRec) : (s.logAt w r).pending = s.pending := OnlyLog.pending (onlyLog_logAt ..)
@[simp] theorem State.carts_logAt (w : Ctl) (r : LogRec) : (s.logAt w r).carts = s.carts := OnlyLog.carts (onlyLog_logAt ..)
@[simp] theorem State.chans_logAt (w : Ctl) (r : LogRec) : (s.logAt w r).chans = s.chans := OnlyLog.chans (onlyLog_logAt ..)
@[simp] theorem State.chan_logEv (c : Ctl) (code flags source object : Nat) (body : Bytes) (i : Ch) : (s.logEv c code flags source object body).chan i = s.chan i := OnlyLog.chan (onlyLog_logEv ..) i
@[simp] theorem State.cart_logEv (c : Ctl) (code flags source object : Nat) (body : Bytes) (i : Slot) : (s.logEv c code flags source object body).cart i = s.cart i := OnlyLog.cart (onlyLog_logEv ..) i
@[simp] theorem State.twin_logEv (c : Ctl) (code flags source object : Nat) (body : Bytes) (i : Pair) : (s.logEv c code flags source object body).twin i = s.twin i := OnlyLog.twin (onlyLog_logEv ..) i
@[simp] theorem State.loop_logEv (c : Ctl) (code flags source object : Nat) (body : Bytes) (i : Quad) : (s.logEv c code flags source object body).loop i = s.loop i := OnlyLog.loop (onlyLog_logEv ..) i
@[simp] theorem State.tach_logEv (c : Ctl) (code flags source object : Nat) (body : Bytes) (i : Quad) : (s.logEv c code flags source object body).tach i = s.tach i := OnlyLog.tach (onlyLog_logEv ..) i
@[simp] theorem State.cool_logEv (c : Ctl) (code flags source object : Nat) (body : Bytes) : (s.logEv c code flags source object body).cool = s.cool := OnlyLog.cool (onlyLog_logEv ..)
@[simp] theorem State.ant_logEv (c : Ctl) (code flags source object : Nat) (body : Bytes) : (s.logEv c code flags source object body).ant = s.ant := OnlyLog.ant (onlyLog_logEv ..)
@[simp] theorem State.plug_logEv (c : Ctl) (code flags source object : Nat) (body : Bytes) : (s.logEv c code flags source object body).plug = s.plug := OnlyLog.plug (onlyLog_logEv ..)
@[simp] theorem State.s50_logEv (c : Ctl) (code flags source object : Nat) (body : Bytes) : (s.logEv c code flags source object body).s50 = s.s50 := OnlyLog.s50 (onlyLog_logEv ..)
@[simp] theorem State.x50_logEv (c : Ctl) (code flags source object : Nat) (body : Bytes) : (s.logEv c code flags source object body).x50 = s.x50 := OnlyLog.x50 (onlyLog_logEv ..)
@[simp] theorem State.mode_logEv (c : Ctl) (code flags source object : Nat) (body : Bytes) : (s.logEv c code flags source object body).mode = s.mode := OnlyLog.mode (onlyLog_logEv ..)
@[simp] theorem State.out_logEv (c : Ctl) (code flags source object : Nat) (body : Bytes) : (s.logEv c code flags source object body).out = s.out := OnlyLog.out (onlyLog_logEv ..)
@[simp] theorem State.free_logEv (c : Ctl) (code flags source object : Nat) (body : Bytes) : (s.logEv c code flags source object body).free = s.free := OnlyLog.free (onlyLog_logEv ..)
@[simp] theorem State.now_logEv (c : Ctl) (code flags source object : Nat) (body : Bytes) : (s.logEv c code flags source object body).now = s.now := OnlyLog.now (onlyLog_logEv ..)
@[simp] theorem State.pending_logEv (c : Ctl) (code flags source object : Nat) (body : Bytes) : (s.logEv c code flags source object body).pending = s.pending := OnlyLog.pending (onlyLog_logEv ..)
@[simp] theorem State.carts_logEv (c : Ctl) (code flags source object : Nat) (body : Bytes) : (s.logEv c code flags source object body).carts = s.carts := OnlyLog.carts (onlyLog_logEv ..)
@[simp] theorem State.chans_logEv (c : Ctl) (code flags source object : Nat) (body : Bytes) : (s.logEv c code flags source object body).chans = s.chans := OnlyLog.chans (onlyLog_logEv ..)
@[simp] theorem State.chan_logUnit (code flags source object : Nat) (body : Bytes) (i : Ch) : (s.logUnit code flags source object body).chan i = s.chan i := OnlyLog.chan (onlyLog_logUnit ..) i
@[simp] theorem State.cart_logUnit (code flags source object : Nat) (body : Bytes) (i : Slot) : (s.logUnit code flags source object body).cart i = s.cart i := OnlyLog.cart (onlyLog_logUnit ..) i
@[simp] theorem State.twin_logUnit (code flags source object : Nat) (body : Bytes) (i : Pair) : (s.logUnit code flags source object body).twin i = s.twin i := OnlyLog.twin (onlyLog_logUnit ..) i
@[simp] theorem State.loop_logUnit (code flags source object : Nat) (body : Bytes) (i : Quad) : (s.logUnit code flags source object body).loop i = s.loop i := OnlyLog.loop (onlyLog_logUnit ..) i
@[simp] theorem State.tach_logUnit (code flags source object : Nat) (body : Bytes) (i : Quad) : (s.logUnit code flags source object body).tach i = s.tach i := OnlyLog.tach (onlyLog_logUnit ..) i
@[simp] theorem State.cool_logUnit (code flags source object : Nat) (body : Bytes) : (s.logUnit code flags source object body).cool = s.cool := OnlyLog.cool (onlyLog_logUnit ..)
@[simp] theorem State.ant_logUnit (code flags source object : Nat) (body : Bytes) : (s.logUnit code flags source object body).ant = s.ant := OnlyLog.ant (onlyLog_logUnit ..)
@[simp] theorem State.plug_logUnit (code flags source object : Nat) (body : Bytes) : (s.logUnit code flags source object body).plug = s.plug := OnlyLog.plug (onlyLog_logUnit ..)
@[simp] theorem State.s50_logUnit (code flags source object : Nat) (body : Bytes) : (s.logUnit code flags source object body).s50 = s.s50 := OnlyLog.s50 (onlyLog_logUnit ..)
@[simp] theorem State.x50_logUnit (code flags source object : Nat) (body : Bytes) : (s.logUnit code flags source object body).x50 = s.x50 := OnlyLog.x50 (onlyLog_logUnit ..)
@[simp] theorem State.mode_logUnit (code flags source object : Nat) (body : Bytes) : (s.logUnit code flags source object body).mode = s.mode := OnlyLog.mode (onlyLog_logUnit ..)
@[simp] theorem State.out_logUnit (code flags source object : Nat) (body : Bytes) : (s.logUnit code flags source object body).out = s.out := OnlyLog.out (onlyLog_logUnit ..)
@[simp] theorem State.free_logUnit (code flags source object : Nat) (body : Bytes) : (s.logUnit code flags source object body).free = s.free := OnlyLog.free (onlyLog_logUnit ..)
@[simp] theorem State.now_logUnit (code flags source object : Nat) (body : Bytes) : (s.logUnit code flags source object body).now = s.now := OnlyLog.now (onlyLog_logUnit ..)
@[simp] theorem State.pending_logUnit (code flags source object : Nat) (body : Bytes) : (s.logUnit code flags source object body).pending = s.pending := OnlyLog.pending (onlyLog_logUnit ..)
@[simp] theorem State.carts_logUnit (code flags source object : Nat) (body : Bytes) : (s.logUnit code flags source object body).carts = s.carts := OnlyLog.carts (onlyLog_logUnit ..)
@[simp] theorem State.chans_logUnit (code flags source object : Nat) (body : Bytes) : (s.logUnit code flags source object body).chans = s.chans := OnlyLog.chans (onlyLog_logUnit ..)
@[simp] theorem State.chan_alarm (c : Ctl) (code index : Nat) (on : Bool) (source : Nat) (old new meas limit : Int) (serial : Bytes) (i : Ch) : (s.alarm c code index on source old new meas limit serial).chan i = s.chan i := OnlyLog.chan (onlyLog_alarm ..) i
@[simp] theorem State.cart_alarm (c : Ctl) (code index : Nat) (on : Bool) (source : Nat) (old new meas limit : Int) (serial : Bytes) (i : Slot) : (s.alarm c code index on source old new meas limit serial).cart i = s.cart i := OnlyLog.cart (onlyLog_alarm ..) i
@[simp] theorem State.twin_alarm (c : Ctl) (code index : Nat) (on : Bool) (source : Nat) (old new meas limit : Int) (serial : Bytes) (i : Pair) : (s.alarm c code index on source old new meas limit serial).twin i = s.twin i := OnlyLog.twin (onlyLog_alarm ..) i
@[simp] theorem State.loop_alarm (c : Ctl) (code index : Nat) (on : Bool) (source : Nat) (old new meas limit : Int) (serial : Bytes) (i : Quad) : (s.alarm c code index on source old new meas limit serial).loop i = s.loop i := OnlyLog.loop (onlyLog_alarm ..) i
@[simp] theorem State.tach_alarm (c : Ctl) (code index : Nat) (on : Bool) (source : Nat) (old new meas limit : Int) (serial : Bytes) (i : Quad) : (s.alarm c code index on source old new meas limit serial).tach i = s.tach i := OnlyLog.tach (onlyLog_alarm ..) i
@[simp] theorem State.cool_alarm (c : Ctl) (code index : Nat) (on : Bool) (source : Nat) (old new meas limit : Int) (serial : Bytes) : (s.alarm c code index on source old new meas limit serial).cool = s.cool := OnlyLog.cool (onlyLog_alarm ..)
@[simp] theorem State.ant_alarm (c : Ctl) (code index : Nat) (on : Bool) (source : Nat) (old new meas limit : Int) (serial : Bytes) : (s.alarm c code index on source old new meas limit serial).ant = s.ant := OnlyLog.ant (onlyLog_alarm ..)
@[simp] theorem State.plug_alarm (c : Ctl) (code index : Nat) (on : Bool) (source : Nat) (old new meas limit : Int) (serial : Bytes) : (s.alarm c code index on source old new meas limit serial).plug = s.plug := OnlyLog.plug (onlyLog_alarm ..)
@[simp] theorem State.s50_alarm (c : Ctl) (code index : Nat) (on : Bool) (source : Nat) (old new meas limit : Int) (serial : Bytes) : (s.alarm c code index on source old new meas limit serial).s50 = s.s50 := OnlyLog.s50 (onlyLog_alarm ..)
@[simp] theorem State.x50_alarm (c : Ctl) (code index : Nat) (on : Bool) (source : Nat) (old new meas limit : Int) (serial : Bytes) : (s.alarm c code index on source old new meas limit serial).x50 = s.x50 := OnlyLog.x50 (onlyLog_alarm ..)
@[simp] theorem State.mode_alarm (c : Ctl) (code index : Nat) (on : Bool) (source : Nat) (old new meas limit : Int) (serial : Bytes) : (s.alarm c code index on source old new meas limit serial).mode = s.mode := OnlyLog.mode (onlyLog_alarm ..)
@[simp] theorem State.out_alarm (c : Ctl) (code index : Nat) (on : Bool) (source : Nat) (old new meas limit : Int) (serial : Bytes) : (s.alarm c code index on source old new meas limit serial).out = s.out := OnlyLog.out (onlyLog_alarm ..)
@[simp] theorem State.free_alarm (c : Ctl) (code index : Nat) (on : Bool) (source : Nat) (old new meas limit : Int) (serial : Bytes) : (s.alarm c code index on source old new meas limit serial).free = s.free := OnlyLog.free (onlyLog_alarm ..)
@[simp] theorem State.now_alarm (c : Ctl) (code index : Nat) (on : Bool) (source : Nat) (old new meas limit : Int) (serial : Bytes) : (s.alarm c code index on source old new meas limit serial).now = s.now := OnlyLog.now (onlyLog_alarm ..)
@[simp] theorem State.pending_alarm (c : Ctl) (code index : Nat) (on : Bool) (source : Nat) (old new meas limit : Int) (serial : Bytes) : (s.alarm c code index on source old new meas limit serial).pending = s.pending := OnlyLog.pending (onlyLog_alarm ..)
@[simp] theorem State.carts_alarm (c : Ctl) (code index : Nat) (on : Bool) (source : Nat) (old new meas limit : Int) (serial : Bytes) : (s.alarm c code index on source old new meas limit serial).carts = s.carts := OnlyLog.carts (onlyLog_alarm ..)
@[simp] theorem State.chans_alarm (c : Ctl) (code index : Nat) (on : Bool) (source : Nat) (old new meas limit : Int) (serial : Bytes) : (s.alarm c code index on source old new meas limit serial).chans = s.chans := OnlyLog.chans (onlyLog_alarm ..)
@[simp] theorem State.chan_alarmUnit (code index : Nat) (on : Bool) (source : Nat) (old new meas limit : Int) (serial : Bytes) (i : Ch) : (s.alarmUnit code index on source old new meas limit serial).chan i = s.chan i := OnlyLog.chan (onlyLog_alarmUnit ..) i
@[simp] theorem State.cart_alarmUnit (code index : Nat) (on : Bool) (source : Nat) (old new meas limit : Int) (serial : Bytes) (i : Slot) : (s.alarmUnit code index on source old new meas limit serial).cart i = s.cart i := OnlyLog.cart (onlyLog_alarmUnit ..) i
@[simp] theorem State.twin_alarmUnit (code index : Nat) (on : Bool) (source : Nat) (old new meas limit : Int) (serial : Bytes) (i : Pair) : (s.alarmUnit code index on source old new meas limit serial).twin i = s.twin i := OnlyLog.twin (onlyLog_alarmUnit ..) i
@[simp] theorem State.loop_alarmUnit (code index : Nat) (on : Bool) (source : Nat) (old new meas limit : Int) (serial : Bytes) (i : Quad) : (s.alarmUnit code index on source old new meas limit serial).loop i = s.loop i := OnlyLog.loop (onlyLog_alarmUnit ..) i
@[simp] theorem State.tach_alarmUnit (code index : Nat) (on : Bool) (source : Nat) (old new meas limit : Int) (serial : Bytes) (i : Quad) : (s.alarmUnit code index on source old new meas limit serial).tach i = s.tach i := OnlyLog.tach (onlyLog_alarmUnit ..) i
@[simp] theorem State.cool_alarmUnit (code index : Nat) (on : Bool) (source : Nat) (old new meas limit : Int) (serial : Bytes) : (s.alarmUnit code index on source old new meas limit serial).cool = s.cool := OnlyLog.cool (onlyLog_alarmUnit ..)
@[simp] theorem State.ant_alarmUnit (code index : Nat) (on : Bool) (source : Nat) (old new meas limit : Int) (serial : Bytes) : (s.alarmUnit code index on source old new meas limit serial).ant = s.ant := OnlyLog.ant (onlyLog_alarmUnit ..)
@[simp] theorem State.plug_alarmUnit (code index : Nat) (on : Bool) (source : Nat) (old new meas limit : Int) (serial : Bytes) : (s.alarmUnit code index on source old new meas limit serial).plug = s.plug := OnlyLog.plug (onlyLog_alarmUnit ..)
@[simp] theorem State.s50_alarmUnit (code index : Nat) (on : Bool) (source : Nat) (old new meas limit : Int) (serial : Bytes) : (s.alarmUnit code index on source old new meas limit serial).s50 = s.s50 := OnlyLog.s50 (onlyLog_alarmUnit ..)
@[simp] theorem State.x50_alarmUnit (code index : Nat) (on : Bool) (source : Nat) (old new meas limit : Int) (serial : Bytes) : (s.alarmUnit code index on source old new meas limit serial).x50 = s.x50 := OnlyLog.x50 (onlyLog_alarmUnit ..)
@[simp] theorem State.mode_alarmUnit (code index : Nat) (on : Bool) (source : Nat) (old new meas limit : Int) (serial : Bytes) : (s.alarmUnit code index on source old new meas limit serial).mode = s.mode := OnlyLog.mode (onlyLog_alarmUnit ..)
@[simp] theorem State.out_alarmUnit (code index : Nat) (on : Bool) (source : Nat) (old new meas limit : Int) (serial : Bytes) : (s.alarmUnit code index on source old new meas limit serial).out = s.out := OnlyLog.out (onlyLog_alarmUnit ..)
@[simp] theorem State.free_alarmUnit (code index : Nat) (on : Bool) (source : Nat) (old new meas limit : Int) (serial : Bytes) : (s.alarmUnit code index on source old new meas limit serial).free = s.free := OnlyLog.free (onlyLog_alarmUnit ..)
@[simp] theorem State.now_alarmUnit (code index : Nat) (on : Bool) (source : Nat) (old new meas limit : Int) (serial : Bytes) : (s.alarmUnit code index on source old new meas limit serial).now = s.now := OnlyLog.now (onlyLog_alarmUnit ..)
@[simp] theorem State.pending_alarmUnit (code index : Nat) (on : Bool) (source : Nat) (old new meas limit : Int) (serial : Bytes) : (s.alarmUnit code index on source old new meas limit serial).pending = s.pending := OnlyLog.pending (onlyLog_alarmUnit ..)
@[simp] theorem State.carts_alarmUnit (code index : Nat) (on : Bool) (source : Nat) (old new meas limit : Int) (serial : Bytes) : (s.alarmUnit code index on source old new meas limit serial).carts = s.carts := OnlyLog.carts (onlyLog_alarmUnit ..)
@[simp] theorem State.chans_alarmUnit (code index : Nat) (on : Bool) (source : Nat) (old new meas limit : Int) (serial : Bytes) : (s.alarmUnit code index on source old new meas limit serial).chans = s.chans := OnlyLog.chans (onlyLog_alarmUnit ..)
@[simp] theorem State.chan_chanEvent (c : Ch) (code : Nat) (old new meas limit : Int) (i : Ch) : (s.chanEvent c code old new meas limit).chan i = s.chan i := OnlyLog.chan (onlyLog_chanEvent ..) i
@[simp] theorem State.cart_chanEvent (c : Ch) (code : Nat) (old new meas limit : Int) (i : Slot) : (s.chanEvent c code old new meas limit).cart i = s.cart i := OnlyLog.cart (onlyLog_chanEvent ..) i
@[simp] theorem State.twin_chanEvent (c : Ch) (code : Nat) (old new meas limit : Int) (i : Pair) : (s.chanEvent c code old new meas limit).twin i = s.twin i := OnlyLog.twin (onlyLog_chanEvent ..) i
@[simp] theorem State.loop_chanEvent (c : Ch) (code : Nat) (old new meas limit : Int) (i : Quad) : (s.chanEvent c code old new meas limit).loop i = s.loop i := OnlyLog.loop (onlyLog_chanEvent ..) i
@[simp] theorem State.tach_chanEvent (c : Ch) (code : Nat) (old new meas limit : Int) (i : Quad) : (s.chanEvent c code old new meas limit).tach i = s.tach i := OnlyLog.tach (onlyLog_chanEvent ..) i
@[simp] theorem State.cool_chanEvent (c : Ch) (code : Nat) (old new meas limit : Int) : (s.chanEvent c code old new meas limit).cool = s.cool := OnlyLog.cool (onlyLog_chanEvent ..)
@[simp] theorem State.ant_chanEvent (c : Ch) (code : Nat) (old new meas limit : Int) : (s.chanEvent c code old new meas limit).ant = s.ant := OnlyLog.ant (onlyLog_chanEvent ..)
@[simp] theorem State.plug_chanEvent (c : Ch) (code : Nat) (old new meas limit : Int) : (s.chanEvent c code old new meas limit).plug = s.plug := OnlyLog.plug (onlyLog_chanEvent ..)
@[simp] theorem State.s50_chanEvent (c : Ch) (code : Nat) (old new meas limit : Int) : (s.chanEvent c code old new meas limit).s50 = s.s50 := OnlyLog.s50 (onlyLog_chanEvent ..)
@[simp] theorem State.x50_chanEvent (c : Ch) (code : Nat) (old new meas limit : Int) : (s.chanEvent c code old new meas limit).x50 = s.x50 := OnlyLog.x50 (onlyLog_chanEvent ..)
@[simp] theorem State.mode_chanEvent (c : Ch) (code : Nat) (old new meas limit : Int) : (s.chanEvent c code old new meas limit).mode = s.mode := OnlyLog.mode (onlyLog_chanEvent ..)
@[simp] theorem State.out_chanEvent (c : Ch) (code : Nat) (old new meas limit : Int) : (s.chanEvent c code old new meas limit).out = s.out := OnlyLog.out (onlyLog_chanEvent ..)
@[simp] theorem State.free_chanEvent (c : Ch) (code : Nat) (old new meas limit : Int) : (s.chanEvent c code old new meas limit).free = s.free := OnlyLog.free (onlyLog_chanEvent ..)
@[simp] theorem State.now_chanEvent (c : Ch) (code : Nat) (old new meas limit : Int) : (s.chanEvent c code old new meas limit).now = s.now := OnlyLog.now (onlyLog_chanEvent ..)
@[simp] theorem State.pending_chanEvent (c : Ch) (code : Nat) (old new meas limit : Int) : (s.chanEvent c code old new meas limit).pending = s.pending := OnlyLog.pending (onlyLog_chanEvent ..)
@[simp] theorem State.carts_chanEvent (c : Ch) (code : Nat) (old new meas limit : Int) : (s.chanEvent c code old new meas limit).carts = s.carts := OnlyLog.carts (onlyLog_chanEvent ..)
@[simp] theorem State.chans_chanEvent (c : Ch) (code : Nat) (old new meas limit : Int) : (s.chanEvent c code old new meas limit).chans = s.chans := OnlyLog.chans (onlyLog_chanEvent ..)
@[simp] theorem State.chan_chanAlarm (c : Ch) (code : Nat) (on : Bool) (old new meas limit : Int) (i : Ch) : (s.chanAlarm c code on old new meas limit).chan i = s.chan i := OnlyLog.chan (onlyLog_chanAlarm ..) i
@[simp] theorem State.cart_chanAlarm (c : Ch) (code : Nat) (on : Bool) (old new meas limit : Int) (i : Slot) : (s.chanAlarm c code on old new meas limit).cart i = s.cart i := OnlyLog.cart (onlyLog_chanAlarm ..) i
@[simp] theorem State.twin_chanAlarm (c : Ch) (code : Nat) (on : Bool) (old new meas limit : Int) (i : Pair) : (s.chanAlarm c code on old new meas limit).twin i = s.twin i := OnlyLog.twin (onlyLog_chanAlarm ..) i
@[simp] theorem State.loop_chanAlarm (c : Ch) (code : Nat) (on : Bool) (old new meas limit : Int) (i : Quad) : (s.chanAlarm c code on old new meas limit).loop i = s.loop i := OnlyLog.loop (onlyLog_chanAlarm ..) i
@[simp] theorem State.tach_chanAlarm (c : Ch) (code : Nat) (on : Bool) (old new meas limit : Int) (i : Quad) : (s.chanAlarm c code on old new meas limit).tach i = s.tach i := OnlyLog.tach (onlyLog_chanAlarm ..) i
@[simp] theorem State.cool_chanAlarm (c : Ch) (code : Nat) (on : Bool) (old new meas limit : Int) : (s.chanAlarm c code on old new meas limit).cool = s.cool := OnlyLog.cool (onlyLog_chanAlarm ..)
@[simp] theorem State.ant_chanAlarm (c : Ch) (code : Nat) (on : Bool) (old new meas limit : Int) : (s.chanAlarm c code on old new meas limit).ant = s.ant := OnlyLog.ant (onlyLog_chanAlarm ..)
@[simp] theorem State.plug_chanAlarm (c : Ch) (code : Nat) (on : Bool) (old new meas limit : Int) : (s.chanAlarm c code on old new meas limit).plug = s.plug := OnlyLog.plug (onlyLog_chanAlarm ..)
@[simp] theorem State.s50_chanAlarm (c : Ch) (code : Nat) (on : Bool) (old new meas limit : Int) : (s.chanAlarm c code on old new meas limit).s50 = s.s50 := OnlyLog.s50 (onlyLog_chanAlarm ..)
@[simp] theorem State.x50_chanAlarm (c : Ch) (code : Nat) (on : Bool) (old new meas limit : Int) : (s.chanAlarm c code on old new meas limit).x50 = s.x50 := OnlyLog.x50 (onlyLog_chanAlarm ..)
@[simp] theorem State.mode_chanAlarm (c : Ch) (code : Nat) (on : Bool) (old new meas limit : Int) : (s.chanAlarm c code on old new meas limit).mode = s.mode := OnlyLog.mode (onlyLog_chanAlarm ..)
@[simp] theorem State.out_chanAlarm (c : Ch) (code : Nat) (on : Bool) (old new meas limit : Int) : (s.chanAlarm c code on old new meas limit).out = s.out := OnlyLog.out (onlyLog_chanAlarm ..)
@[simp] theorem State.free_chanAlarm (c : Ch) (code : Nat) (on : Bool) (old new meas limit : Int) : (s.chanAlarm c code on old new meas limit).free = s.free := OnlyLog.free (onlyLog_chanAlarm ..)
@[simp] theorem State.now_chanAlarm (c : Ch) (code : Nat) (on : Bool) (old new meas limit : Int) : (s.chanAlarm c code on old new meas limit).now = s.now := OnlyLog.now (onlyLog_chanAlarm ..)
@[simp] theorem State.pending_chanAlarm (c : Ch) (code : Nat) (on : Bool) (old new meas limit : Int) : (s.chanAlarm c code on old new meas limit).pending = s.pending := OnlyLog.pending (onlyLog_chanAlarm ..)
@[simp] theorem State.carts_chanAlarm (c : Ch) (code : Nat) (on : Bool) (old new meas limit : Int) : (s.chanAlarm c code on old new meas limit).carts = s.carts := OnlyLog.carts (onlyLog_chanAlarm ..)
@[simp] theorem State.chans_chanAlarm (c : Ch) (code : Nat) (on : Bool) (old new meas limit : Int) : (s.chanAlarm c code on old new meas limit).chans = s.chans := OnlyLog.chans (onlyLog_chanAlarm ..)
@[simp] theorem State.chan_chanFlag (c : Ch) (code : Nat) (was is : Bool) (meas limit : Int) (i : Ch) : (s.chanFlag c code was is meas limit).chan i = s.chan i := OnlyLog.chan (onlyLog_chanFlag ..) i
@[simp] theorem State.cart_chanFlag (c : Ch) (code : Nat) (was is : Bool) (meas limit : Int) (i : Slot) : (s.chanFlag c code was is meas limit).cart i = s.cart i := OnlyLog.cart (onlyLog_chanFlag ..) i
@[simp] theorem State.twin_chanFlag (c : Ch) (code : Nat) (was is : Bool) (meas limit : Int) (i : Pair) : (s.chanFlag c code was is meas limit).twin i = s.twin i := OnlyLog.twin (onlyLog_chanFlag ..) i
@[simp] theorem State.loop_chanFlag (c : Ch) (code : Nat) (was is : Bool) (meas limit : Int) (i : Quad) : (s.chanFlag c code was is meas limit).loop i = s.loop i := OnlyLog.loop (onlyLog_chanFlag ..) i
@[simp] theorem State.tach_chanFlag (c : Ch) (code : Nat) (was is : Bool) (meas limit : Int) (i : Quad) : (s.chanFlag c code was is meas limit).tach i = s.tach i := OnlyLog.tach (onlyLog_chanFlag ..) i
@[simp] theorem State.cool_chanFlag (c : Ch) (code : Nat) (was is : Bool) (meas limit : Int) : (s.chanFlag c code was is meas limit).cool = s.cool := OnlyLog.cool (onlyLog_chanFlag ..)
@[simp] theorem State.ant_chanFlag (c : Ch) (code : Nat) (was is : Bool) (meas limit : Int) : (s.chanFlag c code was is meas limit).ant = s.ant := OnlyLog.ant (onlyLog_chanFlag ..)
@[simp] theorem State.plug_chanFlag (c : Ch) (code : Nat) (was is : Bool) (meas limit : Int) : (s.chanFlag c code was is meas limit).plug = s.plug := OnlyLog.plug (onlyLog_chanFlag ..)
@[simp] theorem State.s50_chanFlag (c : Ch) (code : Nat) (was is : Bool) (meas limit : Int) : (s.chanFlag c code was is meas limit).s50 = s.s50 := OnlyLog.s50 (onlyLog_chanFlag ..)
@[simp] theorem State.x50_chanFlag (c : Ch) (code : Nat) (was is : Bool) (meas limit : Int) : (s.chanFlag c code was is meas limit).x50 = s.x50 := OnlyLog.x50 (onlyLog_chanFlag ..)
@[simp] theorem State.mode_chanFlag (c : Ch) (code : Nat) (was is : Bool) (meas limit : Int) : (s.chanFlag c code was is meas limit).mode = s.mode := OnlyLog.mode (onlyLog_chanFlag ..)
@[simp] theorem State.out_chanFlag (c : Ch) (code : Nat) (was is : Bool) (meas limit : Int) : (s.chanFlag c code was is meas limit).out = s.out := OnlyLog.out (onlyLog_chanFlag ..)
@[simp] theorem State.free_chanFlag (c : Ch) (code : Nat) (was is : Bool) (meas limit : Int) : (s.chanFlag c code was is meas limit).free = s.free := OnlyLog.free (onlyLog_chanFlag ..)
@[simp] theorem State.now_chanFlag (c : Ch) (code : Nat) (was is : Bool) (meas limit : Int) : (s.chanFlag c code was is meas limit).now = s.now := OnlyLog.now (onlyLog_chanFlag ..)
@[simp] theorem State.pending_chanFlag (c : Ch) (code : Nat) (was is : Bool) (meas limit : Int) : (s.chanFlag c code was is meas limit).pending = s.pending := OnlyLog.pending (onlyLog_chanFlag ..)
@[simp] theorem State.carts_chanFlag (c : Ch) (code : Nat) (was is : Bool) (meas limit : Int) : (s.chanFlag c code was is meas limit).carts = s.carts := OnlyLog.carts (onlyLog_chanFlag ..)
@[simp] theorem State.chans_chanFlag (c : Ch) (code : Nat) (was is : Bool) (meas limit : Int) : (s.chanFlag c code was is meas limit).chans = s.chans := OnlyLog.chans (onlyLog_chanFlag ..)

end

end Sys2Proof.Machine
end

