-- ==== Sys2Proof/Laws/Channel.lean ====
section
/-!
SUPPORT. Laws/Channel.lean: what the operations on one channel do to it, and that they leave everything else.
-/
namespace Sys2Proof.Machine

/-! Commands. -/

/-- A command whose meaning runs an effect does what the effect does. -/
theorem does_of_run {i : Instr} {cond : State → Prop} {res : State → State → Prop} (f : State → State)
    (he : ∀ s, exec i s = run i.instant f s)
    (h : ∀ b, cond b → res b (b.keep (f b))) : Does i cond res := by
  intro s hc
  exact ⟨_, by rw [he, run_eq], h _ hc⟩

/-- What an effect leaves, where it has kept the clock and the queue. -/
theorem State.keep_of {b u : State} (h1 : u.now = b.now) (h2 : u.pending = b.pending) : b.keep u = u := by
  cases u; simp_all [State.keep]

/-! One channel. -/

theorem OnlyChan.refl (c : Ch) (s : State) : OnlyChan c s s := ⟨fun _ _ => rfl, rfl⟩

theorem OnlyChan.trans {c : Ch} {s u v : State} (h : OnlyChan c s u) (g : OnlyChan c u v) : OnlyChan c s v :=
  ⟨fun d hd => by rw [g.1 d hd, h.1 d hd], by rw [g.2, h.2]⟩

theorem OnlyChan.keep {c : Ch} {s u : State} (h : OnlyChan c s u) : s.keep u = u := by
  refine State.keep_of ?_ ?_ <;> rw [h.2]

theorem onlyChan_setChan (s : State) (c : Ch) (x : Chan) : OnlyChan c s (s.setChan c x) := ⟨fun d hd => by simp [hd], rfl⟩

theorem onlyChan_modChan (s : State) (c : Ch) (f : Chan → Chan) : OnlyChan c s (s.modChan c f) := onlyChan_setChan ..

theorem onlyChan_when {c : Ch} {s u : State} (b : Bool) (f : State → State) (h : OnlyChan c s u) (g : OnlyChan c u (f u)) :
    OnlyChan c s (when b f u) := by
  unfold when
  split
  · exact h.trans g
  · exact h

theorem onlyChan_decay (s : State) (c : Ch) (toFw slow : Bool) (cause : Nat) : OnlyChan c s (s.decay c toFw slow cause) :=
  onlyChan_when _ _ (onlyChan_setChan ..) (onlyChan_modChan ..)

section
variable {c : Ch} {s u : State} (h : OnlyChan c s u)
include h
theorem OnlyChan.mod (f : Chan → Chan) : OnlyChan c s (u.modChan c f) := h.trans (onlyChan_modChan ..)
theorem OnlyChan.modStage (f : Stage → Stage) : OnlyChan c s (u.modStage c f) := h.mod _
theorem OnlyChan.modProt (f : Prot → Prot) : OnlyChan c s (u.modProt c f) := h.mod _
theorem OnlyChan.modCtrl (f : Ctrl → Ctrl) : OnlyChan c s (u.modCtrl c f) := h.mod _
theorem OnlyChan.decay (toFw slow : Bool) (cause : Nat) : OnlyChan c s (u.decay c toFw slow cause) := h.trans (onlyChan_decay ..)
end

theorem onlyChan_turnOff (s : State) (c : Ch) (dest : Level) (cause : Nat) : OnlyChan c s (s.turnOff c dest cause) := by
  unfold State.turnOff
  dsimp only
  split <;> first
    | exact onlyChan_decay ..
    | exact onlyChan_setChan ..
    | (split <;> first | exact onlyChan_setChan .. | exact OnlyChan.refl ..)

theorem onlyChan_settle (s : State) (c : Ch) : OnlyChan c s (s.settle c) := by
  unfold State.settle
  dsimp only
  repeat' split
  all_goals first | exact OnlyChan.refl .. | exact onlyChan_setChan .. | exact onlyChan_turnOff ..

theorem onlyChan_tripOff (s : State) (c : Ch) (cause : Nat) : OnlyChan c s (s.tripOff c cause) := by
  have r := OnlyChan.refl c s
  unfold State.tripOff
  dsimp only
  repeat' split
  all_goals first
    | exact r
    | exact r.modStage _
    | exact onlyChan_setChan ..
    | exact r.decay ..
    | exact (r.decay ..).modStage _

/-- A trip touches its channel alone (R243, R261). -/
theorem onlyChan_trip (s : State) (c : Ch) (cause : Nat) : OnlyChan c s (s.trip c cause) := by
  have r := OnlyChan.refl c s
  have t := fun (u : State) => onlyChan_tripOff u c cause
  unfold State.trip
  dsimp only
  split
  · split
    · exact r
    · split
      · exact ((r.modProt _).trans (t _)).mod _
      · exact ((r.modProt _).trans (t _)).mod _
  · exact (((r.modProt _).trans (t _)).modStage _).mod _

@[simp] theorem Output.conducts_off : Output.off.conducts = false := rfl
@[simp] theorem Output.conducts_on : Output.on.conducts = true := rfl
@[simp] theorem Output.conducts_pwm : Output.pwm.conducts = true := rfl
@[simp] theorem Output.conducts_decay : Output.decay.conducts = false := rfl
@[simp] theorem Output.conducts_freewheel : Output.freewheel.conducts = false := rfl
@[simp] theorem Output.conducts_highZ : Output.highZ.conducts = false := rfl

@[simp] theorem State.opposed_setChan (s : State) (c : Ch) (x : Chan) : (s.setChan c x).opposed c = (x.ctrl.half && (s.chan (partner c)).stage.output.conducts) := by
  have h : partner c ≠ c := by revert c; decide
  simp [State.opposed, h]

/-- A decay leaves the channel in DECAY, not conducting, under the trip it had (R210). -/
theorem decay_chan (s : State) (c : Ch) (toFw slow : Bool) (cause : Nat) :
    ((s.decay c toFw slow cause).chan c).stage.output = .decay ∧ ((s.decay c toFw slow cause).chan c).prot.trip = (s.chan c).prot.trip ∧
    ((s.decay c toFw slow cause).chan c).prot.tripCause = (s.chan c).prot.tripCause ∧
    ((s.decay c toFw slow cause).chan c).prot.x = (s.chan c).prot.x := by
  unfold State.decay State.unopposed when
  split <;> simp [Chan.decay, Prot.endReg]

/-- The output after the turn-off of a trip does not conduct (R261). -/
theorem tripOff_output (s : State) (c : Ch) (cause : Nat) : ((s.tripOff c cause).chan c).stage.output.conducts = false := by
  have d := fun toFw slow => (decay_chan s c toFw slow cause).1
  unfold State.tripOff
  dsimp only
  cases e : (s.chan c).stage.output <;> dsimp only <;> repeat' split
  all_goals first
    | simp [e, d, Chan.cut, Stage.toOff]; done
    | simp_all

/-- The protection state through the turn-off of a trip: its trip, its cause and its wire model stay. -/
theorem tripOff_prot (s : State) (c : Ch) (cause : Nat) :
    ((s.tripOff c cause).chan c).prot.trip = (s.chan c).prot.trip ∧ ((s.tripOff c cause).chan c).prot.tripCause = (s.chan c).prot.tripCause ∧
    ((s.tripOff c cause).chan c).prot.x = (s.chan c).prot.x := by
  have d := fun toFw slow => (decay_chan s c toFw slow cause).2
  unfold State.tripOff
  dsimp only
  cases e : (s.chan c).stage.output <;> dsimp only <;> repeat' split
  all_goals simp [d, Chan.cut, Prot.endReg]

/-- A channel that stands under no trip trips (R243, R264). -/
theorem trip_fresh (s : State) (c : Ch) (cause : Nat) (h : (s.chan c).prot.trip = .none) : Tripped c cause (s.trip c cause) := by
  have h1 := tripOff_output
  have h2 := tripOff_prot
  unfold State.trip
  dsimp only
  simp only [h, ne_eq, not_true_eq_false, if_false]
  refine ⟨?_, ?_, ?_, ?_⟩
  · simp only [State.chan_modChan, if_true, Prot.save, (h2 _ _ _).1, State.modProt_eq, State.modStage_eq, Chan.prot_modProt, Chan.prot_modStage]
    split <;> (split <;> simp)
  · simp [Prot.save, (h2 _ _ _).2.1]
  · simp [(h2 _ _ _).2.1]
  · simp [h1]

/-! Channels and logs. -/

theorem OnlyChanLog.of {c : Ch} {s u v : State} (h : OnlyChan c s u) (g : OnlyLog u v) : OnlyChanLog c s v := by
  have e : u.ctlA = s.ctlA ∧ u.ctlB = s.ctlB := by constructor <;> rw [h.2]
  refine ⟨fun d hd => by rw [g.chan d, h.1 d hd], fun k => ?_, ?_⟩
  · have := g.1 k
    rwa [show u.ctl k = s.ctl k by cases k <;> simp [State.ctl, e]] at this
  · rw [g.2, h.2]

theorem OnlyChanLog.keep {c : Ch} {s u : State} (h : OnlyChanLog c s u) : s.keep u = u := by
  refine State.keep_of ?_ ?_ <;> rw [h.2.2]

theorem OnlyChanLog.refl (c : Ch) (s : State) : OnlyChanLog c s s := OnlyChanLog.of (OnlyChan.refl c s) (OnlyLog.refl s)

theorem OnlyChan.toLog {c : Ch} {s u : State} (h : OnlyChan c s u) : OnlyChanLog c s u := OnlyChanLog.of h (OnlyLog.refl u)

theorem OnlyLog.toChan (c : Ch) {s u : State} (h : OnlyLog s u) : OnlyChanLog c s u := OnlyChanLog.of (OnlyChan.refl c s) h

theorem OnlyChanLog.trans {c : Ch} {s u v : State} (h : OnlyChanLog c s u) (g : OnlyChanLog c u v) : OnlyChanLog c s v :=
  ⟨fun d hd => by rw [g.1 d hd, h.1 d hd], Logged.trans h.2.1 g.2.1, by rw [g.2.2, h.2.2]⟩

theorem OnlyLog.keep {s u : State} (h : OnlyLog s u) : s.keep u = u := by
  refine State.keep_of ?_ ?_ <;> rw [h.2]

/-! Sources and levels: each operation changes its channel and the logs. -/

theorem onlyChanLog_logHand (s : State) (c : Ch) (old new : Level) (policy : Nat) : OnlyChanLog c s (s.logHand c old new policy) :=
  (onlyLog_chanEvent ..).toChan c

theorem onlyChanLog_applyLevel (s : State) (c : Ch) (new : Level × PwmSet) (why : Nat) : OnlyChanLog c s (s.applyLevel c new why) := by
  unfold State.applyLevel
  exact OnlyChanLog.of ((onlyChan_setChan ..).trans (onlyChan_settle ..)) (onlyLog_chanFlag ..)

theorem onlyChanLog_adopt (s : State) (c : Ch) (new : Level × PwmSet) : OnlyChanLog c s (s.adopt c new) := by
  have h : ∀ p : Prop, ∀ _ : Decidable p, OnlyChanLog c s
      (if p then s else s.logHand c (s.chan c).ctrl.level new.1 (s.chan c).ctrl.policy) := by
    intro p _
    split
    · exact OnlyChanLog.refl ..
    · exact onlyChanLog_logHand ..
  unfold State.adopt
  dsimp only
  split
  · exact ((h _ _).trans (onlyChanLog_logHand ..)).trans (onlyChan_setChan ..).toLog
  · exact (h _ _).trans (onlyChanLog_applyLevel ..)

section
variable {c : Ch} {s u : State} (h : OnlyChanLog c s u)
include h
theorem OnlyChanLog.chan {v : State} (g : OnlyChan c u v) : OnlyChanLog c s v := h.trans g.toLog
theorem OnlyChanLog.mod (f : Chan → Chan) : OnlyChanLog c s (u.modChan c f) := h.chan (onlyChan_modChan ..)
theorem OnlyChanLog.set (x : Chan) : OnlyChanLog c s (u.setChan c x) := h.chan (onlyChan_setChan ..)
theorem OnlyChanLog.modCtrl (f : Ctrl → Ctrl) : OnlyChanLog c s (u.modCtrl c f) := h.mod _
theorem OnlyChanLog.modProt (f : Prot → Prot) : OnlyChanLog c s (u.modProt c f) := h.mod _
theorem OnlyChanLog.settle : OnlyChanLog c s (u.settle c) := h.chan (onlyChan_settle ..)
theorem OnlyChanLog.turnOff (dest : Level) (cause : Nat) : OnlyChanLog c s (u.turnOff c dest cause) := h.chan (onlyChan_turnOff ..)
theorem OnlyChanLog.logHand (old new : Level) (policy : Nat) : OnlyChanLog c s (u.logHand c old new policy) := h.trans (onlyChanLog_logHand ..)
theorem OnlyChanLog.applyLevel (new : Level × PwmSet) (why : Nat) : OnlyChanLog c s (u.applyLevel c new why) :=
  h.trans (onlyChanLog_applyLevel ..)
theorem OnlyChanLog.adopt (new : Level × PwmSet) : OnlyChanLog c s (u.adopt c new) := h.trans (onlyChanLog_adopt ..)
theorem OnlyChanLog.event (code : Nat) (old new meas limit : Int) : OnlyChanLog c s (u.chanEvent c code old new meas limit) :=
  h.trans ((onlyLog_chanEvent ..).toChan c)
theorem OnlyChanLog.alarm (code : Nat) (on : Bool) (old new meas limit : Int) : OnlyChanLog c s (u.chanAlarm c code on old new meas limit) :=
  h.trans ((onlyLog_chanAlarm ..).toChan c)
end

theorem onlyChanLog_endHand (s : State) (c : Ch) : OnlyChanLog c s (s.endHand c) := by
  unfold State.endHand when
  dsimp only
  split
  · exact ((OnlyChanLog.refl c s).logHand ..).modCtrl _
  · exact OnlyChanLog.refl ..

theorem onlyChanLog_handover (s : State) (c : Ch) (src : Source) (present : Level × PwmSet) (cause : Nat) :
    OnlyChanLog c s (s.handover c src present cause) := by
  have e := onlyChanLog_endHand s c
  unfold State.handover
  generalize s.endHand c = u at e ⊢
  dsimp only
  split
  · exact (e.modCtrl _).applyLevel ..
  · split
    · exact ((e.set _).logHand ..).settle
    · split
      · exact ((e.set _).logHand ..).settle
      · exact (e.set _).adopt _

theorem onlyChanLog_force (s : State) (c : Ch) (src : Source) : OnlyChanLog c s (s.force c src) := by
  have e := onlyChanLog_endHand s c
  unfold State.force
  generalize s.endHand c = u at e ⊢
  dsimp only
  split
  · exact (e.modCtrl _).mod _
  · split
    · exact (e.modCtrl _).mod _
    · split
      · split
        · exact (e.modCtrl _).mod _
        · exact e.modCtrl _
      · exact ((e.modCtrl _).turnOff ..).mod _

/-- The end of a trip touches its channel and the logs (R270, R271). -/
theorem onlyChanLog_clearTrip (s : State) (c : Ch) : OnlyChanLog c s (s.clearTrip c) := by
  have r := OnlyChanLog.refl c s
  unfold State.clearTrip
  split
  · exact r
  · exact (((r.modProt _).modProt _).alarm ..).settle

/-- A change of source touches its channel and the logs. -/
theorem onlyChanLog_resource (s : State) (c : Ch) (cause : Nat) : OnlyChanLog c s (s.resource c cause) := by
  unfold State.resource
  dsimp only
  split
  · exact OnlyChanLog.refl ..
  · split
    · exact onlyChanLog_force ..
    · exact onlyChanLog_force ..
    · exact onlyChanLog_handover ..

/-- A command of the governing source touches its channel and the logs. -/
theorem onlyChanLog_command (s : State) (c : Ch) (cause : Nat) : OnlyChanLog c s (s.command c cause) := by
  unfold State.command
  dsimp only
  split
  · split
    · exact OnlyChanLog.refl ..
    · exact onlyChanLog_applyLevel ..
  · split
    · split
      · exact (onlyChan_setChan ..).toLog
      · exact (onlyChanLog_logHand ..).trans (onlyChanLog_applyLevel ..)
    · exact onlyChanLog_applyLevel ..
  · exact (onlyChanLog_logHand ..).trans (onlyChanLog_applyLevel ..)

theorem onlyChanLog_attempt (s : State) (c : Ch) : OnlyChanLog c s (s.attempt c) := by
  have r := OnlyChanLog.refl c s
  unfold State.attempt
  dsimp only
  repeat' split
  · exact r
  · exact r.modProt _
  · exact (r.modProt _).alarm ..
  · exact ((r.modProt _).alarm ..).settle

theorem onlyChanLog_evalOpen (s : State) (c : Ch) : OnlyChanLog c s (s.evalOpen c) := by
  have r := OnlyChanLog.refl c s
  unfold State.evalOpen
  dsimp only
  split
  · exact r
  · split
    · exact (((r.modCtrl _).trans (onlyChanLog_resource ..)).alarm ..).trans (onlyChanLog_attempt ..)
    · exact ((r.modCtrl _).trans (onlyChanLog_resource ..)).alarm ..

theorem onlyChanLog_setGlaze (s : State) (c : Ch) (i : Fin 2) : OnlyChanLog c s (s.setGlaze c i) := by
  unfold State.setGlaze
  dsimp only
  split
  · exact ((onlyChan_modChan ..).toLog.trans (onlyChanLog_resource ..)).trans ((onlyLog_chanEvent ..).toChan c)
  · exact OnlyChanLog.refl ..

theorem onlyChanLog_clearGlaze (s : State) (c : Ch) : OnlyChanLog c s (s.clearGlaze c) := by
  unfold State.clearGlaze
  dsimp only
  split
  · exact ((onlyChan_modChan ..).toLog.trans (onlyChanLog_resource ..)).trans ((onlyLog_chanEvent ..).toChan c)
  · exact OnlyChanLog.refl ..

theorem onlyChanLog_redemand (s : State) (c : Ch) : OnlyChanLog c s (s.redemand c) := by
  unfold State.redemand
  dsimp only
  split
  · exact (onlyChan_modChan ..).toLog.trans (onlyChanLog_command ..)
  · exact (onlyChan_modChan ..).toLog

/-! A cartridge and its channels. -/

theorem OnlySlotLog.refl (k : Slot) (s : State) : OnlySlotLog k s s := ⟨fun _ _ => rfl, fun _ _ => rfl, Logged.refl s, rfl⟩

theorem OnlySlotLog.trans {k : Slot} {s u v : State} (h : OnlySlotLog k s u) (g : OnlySlotLog k u v) : OnlySlotLog k s v :=
  ⟨fun d hd => by rw [g.1 d hd, h.1 d hd], fun j hj => by rw [g.2.1 j hj, h.2.1 j hj], Logged.trans h.2.2.1 g.2.2.1,
   by rw [g.2.2.2, h.2.2.2]⟩

theorem OnlyChanLog.toSlot {c : Ch} {s u : State} (h : OnlyChanLog c s u) : OnlySlotLog (slotOf c) s u :=
  ⟨fun d hd => h.1 d (fun e => hd (by rw [e])), fun j _ => by rw [h.2.2]; rfl, h.2.1, by rw [h.2.2]⟩

theorem OnlyLog.toSlot (k : Slot) {s u : State} (h : OnlyLog s u) : OnlySlotLog k s u :=
  ⟨fun d _ => h.chan d, fun j _ => h.cart j, h.1, by rw [h.2]⟩

theorem onlySlotLog_modCart (s : State) (k : Slot) (f : Cart → Cart) : OnlySlotLog k s (s.modCart k f) :=
  ⟨fun _ _ => rfl, fun j hj => by simp [hj], fun c => by cases c <;> exact Ctlr.Logged.refl _, rfl⟩

theorem chansOf_mem (k : Slot) (d : Ch) : d ∈ chansOf k ↔ slotOf d = k := by revert k d; decide

/-- What touches one channel and the logs, done over the channels of a cartridge, touches that cartridge's channels and the logs. -/
theorem onlySlotLog_over (k : Slot) (f : Ch → State → State) (h : ∀ c s, OnlyChanLog c s (f c s)) (l : List Ch)
    (hl : ∀ c ∈ l, slotOf c = k) (s : State) : OnlySlotLog k s (overList l f s) := by
  unfold overList
  induction l generalizing s with
  | nil => exact OnlySlotLog.refl ..
  | cons c l ih =>
    have e : slotOf c = k := hl c (by simp)
    have g : OnlySlotLog (slotOf c) s (f c s) := (h c s).toSlot
    rw [e] at g
    exact g.trans (ih (fun d hd => hl d (by simp [hd])) (f c s))

theorem onlySlotLog_chansOf (k : Slot) (f : Ch → State → State) (h : ∀ c s, OnlyChanLog c s (f c s)) (s : State) :
    OnlySlotLog k s (overList (chansOf k) f s) :=
  onlySlotLog_over k f h (chansOf k) (fun c hc => (chansOf_mem k c).1 hc) s

/-- What an operation done over channels leaves of one of them is what it does to it alone: the state in which its turn comes has the channel as it was,
and differs in other channels and the logs at most. -/
theorem over_at (f : Ch → State → State) (h : ∀ c s, OnlyChanLog c s (f c s)) (l : List Ch) (nd : l.Nodup) (c : Ch) (hc : c ∈ l) (s : State) :
    ∃ s', s' = { s with chans := s'.chans, ctlA := s'.ctlA, ctlB := s'.ctlB } ∧ s'.chan c = s.chan c ∧
      (overList l f s).chan c = (f c s').chan c := by
  induction l generalizing s with
  | nil => simp at hc
  | cons a l ih =>
    have nd' := List.nodup_cons.1 nd
    by_cases e : c = a
    · subst e
      refine ⟨s, rfl, rfl, ?_⟩
      have rest : ∀ (l : List Ch) (s : State), c ∉ l → (overList l f s).chan c = s.chan c := by
        intro l
        induction l with
        | nil => intro s _; rfl
        | cons b l ih =>
          intro s hb
          have := ih (f b s) (fun m => hb (by simp [m]))
          simp only [overList, List.foldl_cons] at this ⊢
          rw [this, (h b s).1 c (fun e => hb (by simp [e]))]
      exact rest l (f c s) nd'.1
    · obtain ⟨s', h1, h2, h3⟩ := ih nd'.2 (by simpa [e] using hc) (f a s)
      refine ⟨s', ?_, by rw [h2, (h a s).1 c e], by simpa [overList] using h3⟩
      rw [h1, (h a s).2.2]

theorem chansOf_nodup (k : Slot) : (chansOf k).Nodup := by revert k; decide

theorem OnlySlotLog.keep {k : Slot} {s u : State} (h : OnlySlotLog k s u) : s.keep u = u := by
  refine State.keep_of ?_ ?_ <;> rw [h.2.2.2]

end Sys2Proof.Machine
end

