-- ==== Sys2Proof/Laws/Mode.lean ====
section
/-!
SUPPORT. Laws/Mode.lean: noting the unit mode, and raising a new ACTIVE controller's alarms afresh, change the controllers alone.
-/
namespace Sys2Proof.Machine

theorem OnlyCtls.refl (s : State) : OnlyCtls s s := rfl

theorem OnlyCtls.trans {s u v : State} (h : OnlyCtls s u) (g : OnlyCtls u v) : OnlyCtls s v := by
  unfold OnlyCtls at *
  rw [g, h]

theorem OnlyLog.ctls {s u : State} (h : OnlyLog s u) : OnlyCtls s u := h.2

theorem onlyCtls_modCtl (s : State) (c : Ctl) (f : Ctlr → Ctlr) : OnlyCtls s (s.modCtl c f) := by cases c <;> rfl

/-- A fold of effects that each log is logging. -/
theorem onlyLog_overList {α : Type} (l : List α) (f : α → State → State) (h : ∀ x s, OnlyLog s (f x s)) (s : State) :
    OnlyLog s (overList l f s) := by
  induction l generalizing s with
  | nil => exact OnlyLog.refl s
  | cons x l ih => exact (h x s).trans (ih _)

/-- The same of effects on the controllers. -/
theorem onlyCtls_overList {α : Type} (l : List α) (f : α → State → State) (h : ∀ x s, OnlyCtls s (f x s)) (s : State) :
    OnlyCtls s (overList l f s) := by
  induction l generalizing s with
  | nil => exact OnlyCtls.refl s
  | cons x l ih => exact (h x s).trans (ih _)

theorem onlyLog_modeRecord (s : State) (c : Ctl) (m : UnitMode) (cause : Nat) : OnlyLog s (s.modeRecord c m cause) := by
  unfold State.modeRecord
  dsimp only
  split
  · exact onlyLog_alarm ..
  · split
    · exact onlyLog_alarm ..
    · exact onlyLog_logEv ..

/-- Noting the unit mode logs, keeps the mode, and does nothing else (R40). -/
theorem noteMode_log (s : State) (cause : Nat) :
    ∃ u, OnlyLog s u ∧ s.noteMode cause = { u with mode := s.unitMode } := by
  unfold State.noteMode
  dsimp only
  split
  · next h => exact ⟨s, OnlyLog.refl s, by rw [h.1]⟩
  · refine ⟨_, ?_, rfl⟩
    split
    · exact onlyLog_modeRecord ..
    · refine onlyLog_overList _ _ (fun c v => ?_) s
      split
      · exact onlyLog_logAt ..
      · exact OnlyLog.refl v

section
variable (s : State) (cause : Nat)
@[simp] theorem State.mode_noteMode : (s.noteMode cause).mode = s.unitMode := by obtain ⟨u, -, h⟩ := noteMode_log s cause; rw [h]
@[simp] theorem State.chans_noteMode : (s.noteMode cause).chans = s.chans := by obtain ⟨u, g, h⟩ := noteMode_log s cause; rw [h]; exact g.chans
@[simp] theorem State.carts_noteMode : (s.noteMode cause).carts = s.carts := by obtain ⟨u, g, h⟩ := noteMode_log s cause; rw [h]; exact g.carts
@[simp] theorem State.now_noteMode : (s.noteMode cause).now = s.now := by obtain ⟨u, g, h⟩ := noteMode_log s cause; rw [h]; exact g.now
@[simp] theorem State.pending_noteMode : (s.noteMode cause).pending = s.pending := by
  obtain ⟨u, g, h⟩ := noteMode_log s cause; rw [h]; exact g.pending
@[simp] theorem State.out_noteMode : (s.noteMode cause).out = s.out := by obtain ⟨u, g, h⟩ := noteMode_log s cause; rw [h]; exact g.out
end

/-! Alarms raised afresh (R934). -/

theorem onlyLog_raiseCond (s : State) (c : Ctl) (l : List (OnsetKey × UnitTime)) (x : Cond) : OnlyLog s (s.raiseCond c l x) := by
  unfold State.raiseCond
  dsimp only
  split
  · exact onlyLog_modCtl _ _ _ (Logged_setAlarm ..)
  · exact onlyLog_alarm ..
  · exact onlyLog_alarm ..
  · exact onlyLog_logEv ..
  · exact OnlyLog.refl s

theorem onlyLog_raiseConds (s : State) (c : Ctl) (l : List Cond) : OnlyLog s (s.raiseConds c l) :=
  onlyLog_overList _ _ (fun x v => onlyLog_raiseCond v c _ x) s

/-- A new ACTIVE controller that raises its alarms changes no part of the unit but the controllers (R934). -/
theorem onlyCtls_raiseAfresh (s : State) (c : Ctl) : OnlyCtls s (s.raiseAfresh c) := by
  unfold State.raiseAfresh
  dsimp only
  refine ((onlyCtls_overList _ _ (fun p v => ?_) s).trans (onlyLog_raiseConds ..).ctls).trans (onlyCtls_overList _ _ (fun o v => ?_) _)
  · unfold State.modPhy
    exact onlyCtls_modCtl ..
  · split
    · exact OnlyCtls.refl v
    · exact onlyCtls_modCtl ..

/-! Roles. -/

theorem onlyCtls_roleTo (s : State) (c : Ctl) (r : Role) (cause unsync ev : Nat) : OnlyCtls s (s.roleTo c r cause unsync ev) := by
  unfold State.roleTo
  exact onlyCtls_modCtl ..

/-- Setting the antenna's bias changes the antenna alone. -/
theorem setBias_ant (s : State) : s.setBias = { s with ant := s.setBias.ant } := by
  unfold State.setBias
  dsimp only
  generalize (if (s.ant.card && s.ant.reapply.isNone && (s.ctlA.powered || s.ctlB.powered)) = true then _ else 0) = v
  by_cases h : v = s.ant.bias
  · simp [h]
  · simp only [h, if_false]
    rfl

theorem onlyCtls_startRecord (s : State) (c : Ctl) : OnlyCtls s (s.startRecord c) := by
  unfold State.startRecord
  dsimp only
  split
  · exact OnlyCtls.refl s
  · split
    · exact OnlyCtls.refl s
    · exact (onlyCtls_modCtl ..).trans (onlyLog_logAt ..).ctls

/-- Taking a role changes the controllers, the unit mode and the antenna's bias, and nothing else (R876, R40, R86). -/
theorem setRole_leaves (s : State) (c : Ctl) (r : Role) (cause unsync ev : Nat) :
    s.setRole c r cause unsync ev = { s with
      ctlA := (s.setRole c r cause unsync ev).ctlA, ctlB := (s.setRole c r cause unsync ev).ctlB
      mode := (s.setRole c r cause unsync ev).mode, ant := (s.setRole c r cause unsync ev).ant } := by
  have start : ∀ v : State, OnlyCtls v (v.startRecord c) := fun v => onlyCtls_startRecord v c
  have base : ∀ k, ∃ u, OnlyCtls s u ∧ ((s.roleTo c r cause unsync ev).setBias).noteMode k =
      { u with mode := (((s.roleTo c r cause unsync ev).setBias).noteMode k).mode
               ant := (((s.roleTo c r cause unsync ev).setBias).noteMode k).ant } := by
    intro k
    have g1 := onlyCtls_roleTo s c r cause unsync ev
    have g2 := setBias_ant (s.roleTo c r cause unsync ev)
    obtain ⟨u, g3, h⟩ := noteMode_log ((s.roleTo c r cause unsync ev).setBias) k
    refine ⟨{ s with ctlA := u.ctlA, ctlB := u.ctlB }, rfl, ?_⟩
    have g4 := g3.2
    rw [h]
    unfold OnlyCtls at g1
    rw [g4, g2, g1]
  unfold State.setRole
  dsimp only
  generalize (if r = .unsynced then unsync else 0) = k
  obtain ⟨u, g, h⟩ := base k
  unfold OnlyCtls at g
  generalize ((s.roleTo c r cause unsync ev).setBias).noteMode k = v at h ⊢
  have hv : v = { s with ctlA := v.ctlA, ctlB := v.ctlB, mode := v.mode, ant := v.ant } := by rw [h, g]
  split
  · have := start v
    unfold OnlyCtls at this
    rw [this]
    generalize (v.startRecord c).ctlA = x
    generalize (v.startRecord c).ctlB = y
    rw [hv]
  · exact hv

end Sys2Proof.Machine
end

