-- ==== Sys2Proof/Laws/PerInstr.lean ====
section
/-!
SUPPORT. Laws/PerInstr.lean: what holds of every command as syntax, one lemma for each: the instant of a well-formed command fits its 63 bits.
-/
namespace Sys2Proof.Laws.InstantFits

/-- The instant of a well-formed command fits its 63 bits (log entry 1). -/
def Statement (i : Instr) : Prop := i.wf = true → i.instant < 2 ^ 63

/-- A condition that begins with the instant's range gives it. -/
theorem of_fits {t : Nat} {p : Bool} (h : (fits 63 t && p) = true) : t < 2 ^ 63 := by
  rw [Bool.and_eq_true] at h
  exact of_decide_eq_true h.1

theorem ping (t : Instant) (q : Request) : Statement (.ping t q) := fun h => of_fits h
theorem identify (t : Instant) (q : Request) : Statement (.identify t q) := fun h => of_fits h
theorem sessionInfo (t : Instant) (q : Request) : Statement (.sessionInfo t q) := fun h => of_fits h
theorem setAddress (t : Instant) (q : Request) : Statement (.setAddress t q) := fun h => of_fits h
theorem subscribe (t : Instant) (q : Request) : Statement (.subscribe t q) := fun h => of_fits h
theorem unsubscribe (t : Instant) (q : Request) : Statement (.unsubscribe t q) := fun h => of_fits h
theorem listSubs (t : Instant) (q : Request) : Statement (.listSubs t q) := fun h => of_fits h
theorem setChannel (t : Instant) (q : Request) : Statement (.setChannel t q) := fun h => of_fits h
theorem setGroup (t : Instant) (q : Request) : Statement (.setGroup t q) := fun h => of_fits h
theorem setPwm (t : Instant) (q : Request) : Statement (.setPwm t q) := fun h => of_fits h
theorem clearTrip (t : Instant) (q : Request) : Statement (.clearTrip t q) := fun h => of_fits h
theorem clearGlaze (t : Instant) (q : Request) : Statement (.clearGlaze t q) := fun h => of_fits h
theorem own (t : Instant) (q : Request) : Statement (.own t q) := fun h => of_fits h
theorem release (t : Instant) (q : Request) : Statement (.release t q) := fun h => of_fits h
theorem setLoop (t : Instant) (q : Request) : Statement (.setLoop t q) := fun h => of_fits h
theorem getConfig (t : Instant) (q : Request) : Statement (.getConfig t q) := fun h => of_fits h
theorem stageConfig (t : Instant) (q : Request) : Statement (.stageConfig t q) := fun h => of_fits h
theorem commitConfig (t : Instant) (q : Request) : Statement (.commitConfig t q) := fun h => of_fits h
theorem discardConfig (t : Instant) (q : Request) : Statement (.discardConfig t q) := fun h => of_fits h
theorem getChannel (t : Instant) (q : Request) : Statement (.getChannel t q) := fun h => of_fits h
theorem getTwin (t : Instant) (q : Request) : Statement (.getTwin t q) := fun h => of_fits h
theorem latchMeas (t : Instant) (q : Request) : Statement (.latchMeas t q) := fun h => of_fits h
theorem latchRead (t : Instant) (q : Request) : Statement (.latchRead t q) := fun h => of_fits h
theorem getTrigger (t : Instant) (q : Request) : Statement (.getTrigger t q) := fun h => of_fits h
theorem getEnergy (t : Instant) (q : Request) : Statement (.getEnergy t q) := fun h => of_fits h
theorem getHk (t : Instant) (q : Request) : Statement (.getHk t q) := fun h => of_fits h
theorem getAlarms (t : Instant) (q : Request) : Statement (.getAlarms t q) := fun h => of_fits h
theorem getPortStats (t : Instant) (q : Request) : Statement (.getPortStats t q) := fun h => of_fits h
theorem getTime (t : Instant) (q : Request) : Statement (.getTime t q) := fun h => of_fits h
theorem getGnss (t : Instant) (q : Request) : Statement (.getGnss t q) := fun h => of_fits h
theorem getGnssMeas (t : Instant) (q : Request) : Statement (.getGnssMeas t q) := fun h => of_fits h
theorem snapCapture (t : Instant) (q : Request) : Statement (.snapCapture t q) := fun h => of_fits h
theorem snapRead (t : Instant) (q : Request) : Statement (.snapRead t q) := fun h => of_fits h
theorem logRead (t : Instant) (q : Request) : Statement (.logRead t q) := fun h => of_fits h
theorem logFind (t : Instant) (q : Request) : Statement (.logFind t q) := fun h => of_fits h
theorem logMark (t : Instant) (q : Request) : Statement (.logMark t q) := fun h => of_fits h
theorem logStatus (t : Instant) (q : Request) : Statement (.logStatus t q) := fun h => of_fits h
theorem coneRead (t : Instant) (q : Request) : Statement (.coneRead t q) := fun h => of_fits h
theorem coneStatus (t : Instant) (q : Request) : Statement (.coneStatus t q) := fun h => of_fits h
theorem coneClear (t : Instant) (q : Request) : Statement (.coneClear t q) := fun h => of_fits h
theorem winRead (t : Instant) (q : Request) : Statement (.winRead t q) := fun h => of_fits h
theorem winWrite (t : Instant) (q : Request) : Statement (.winWrite t q) := fun h => of_fits h
theorem winErase (t : Instant) (q : Request) : Statement (.winErase t q) := fun h => of_fits h
theorem spiXfer (t : Instant) (q : Request) : Statement (.spiXfer t q) := fun h => of_fits h
theorem pairStatus (t : Instant) (q : Request) : Statement (.pairStatus t q) := fun h => of_fits h
theorem roleSwap (t : Instant) (q : Request) : Statement (.roleSwap t q) := fun h => of_fits h
theorem resolveSplit (t : Instant) (q : Request) : Statement (.resolveSplit t q) := fun h => of_fits h
theorem regRead (t : Instant) (q : Request) : Statement (.regRead t q) := fun h => of_fits h
theorem regWrite (t : Instant) (q : Request) : Statement (.regWrite t q) := fun h => of_fits h
theorem fwBegin (t : Instant) (q : Request) : Statement (.fwBegin t q) := fun h => of_fits h
theorem fwData (t : Instant) (q : Request) : Statement (.fwData t q) := fun h => of_fits h
theorem fwCommit (t : Instant) (q : Request) : Statement (.fwCommit t q) := fun h => of_fits h
theorem fwRestart (t : Instant) (q : Request) : Statement (.fwRestart t q) := fun h => of_fits h
theorem fwStatus (t : Instant) (q : Request) : Statement (.fwStatus t q) := fun h => of_fits h
theorem keyLoad (t : Instant) (q : Request) : Statement (.keyLoad t q) := fun h => of_fits h
theorem keyClear (t : Instant) (q : Request) : Statement (.keyClear t q) := fun h => of_fits h
theorem signRevoke (t : Instant) (q : Request) : Statement (.signRevoke t q) := fun h => of_fits h
theorem debugHalt (t : Instant) (q : Request) : Statement (.debugHalt t q) := fun h => of_fits h
theorem cartEpochReset (t : Instant) (q : Request) : Statement (.cartEpochReset t q) := fun h => of_fits h
theorem scrubEn (t : Instant) (c : Ctl) (on : Bool) : Statement (.scrubEn t c on) := fun h => of_decide_eq_true h
theorem scrubNow (t : Instant) (c : Ctl) : Statement (.scrubNow t c) := fun h => of_decide_eq_true h
theorem oltestNow (t : Instant) (c : Ch) (mv0 mv1 : MilliVolt) : Statement (.oltestNow t c mv0 mv1) := fun h => of_fits (Bool.and_eq_true_iff.mp h).1
theorem hsSelftestNow (t : Instant) (s : Slot) (shunt mirror : BitVec 4) : Statement (.hsSelftestNow t s shunt mirror) := fun h => of_decide_eq_true h
theorem notchEnable (t : Instant) (c : Ctl) (b : Band) (on : Bool) : Statement (.notchEnable t c b on) := fun h => of_decide_eq_true h
theorem syaskegDatagram (t : Instant) (c : Ctl) (p : Bus) (src : Endpoint) (dst : Nat) (data : Bytes) : Statement (.syaskegDatagram t c p src dst data) := fun h => of_fits (Bool.and_eq_true_iff.mp (Bool.and_eq_true_iff.mp h).1).1
theorem x50Transfer (t : Instant) (c : Ctl) (data : Bytes) : Statement (.x50Transfer t c data) := fun h => of_fits h
theorem ipv4Datagram (t : Instant) (c : Ctl) (p : Bus) (mac : Nat) (data : Bytes) : Statement (.ipv4Datagram t c p mac data) := fun h => of_fits (Bool.and_eq_true_iff.mp h).1
theorem arpFrame (t : Instant) (c : Ctl) (p : Bus) (op mac ip target : Nat) : Statement (.arpFrame t c p op mac ip target) := fun h => of_fits (Bool.and_eq_true_iff.mp (Bool.and_eq_true_iff.mp (Bool.and_eq_true_iff.mp h).1).1).1
theorem icmpEchoRequest (t : Instant) (c : Ctl) (p : Bus) (ip dst id : Nat) (data : Bytes) : Statement (.icmpEchoRequest t c p ip dst id data) := fun h => of_fits (Bool.and_eq_true_iff.mp (Bool.and_eq_true_iff.mp (Bool.and_eq_true_iff.mp h).1).1).1
theorem ptpSync (t : Instant) (c : Ctl) (p : Bus) (master domain seq : Nat) (twoStep : Bool) (origin : Int) : Statement (.ptpSync t c p master domain seq twoStep origin) := fun h => of_fits (Bool.and_eq_true_iff.mp (Bool.and_eq_true_iff.mp (Bool.and_eq_true_iff.mp h).1).1).1
theorem ptpFollowUp (t : Instant) (c : Ctl) (p : Bus) (master domain seq : Nat) (origin : Int) : Statement (.ptpFollowUp t c p master domain seq origin) := fun h => of_fits (Bool.and_eq_true_iff.mp (Bool.and_eq_true_iff.mp (Bool.and_eq_true_iff.mp h).1).1).1
theorem ptpAnnounce (t : Instant) (c : Ctl) (p : Bus) (a : Announce) : Statement (.ptpAnnounce t c p a) := fun h => of_decide_eq_true h
theorem ptpDelayResp (t : Instant) (c : Ctl) (p : Bus) (master domain seq : Nat) (rx : Int) : Statement (.ptpDelayResp t c p master domain seq rx) := fun h => of_fits (Bool.and_eq_true_iff.mp (Bool.and_eq_true_iff.mp (Bool.and_eq_true_iff.mp h).1).1).1
theorem delayReq (t : Instant) (c : Ctl) : Statement (.delayReq t c) := fun h => of_decide_eq_true h
theorem ptpMasterLost (t : Instant) (c : Ctl) : Statement (.ptpMasterLost t c) := fun h => of_decide_eq_true h
theorem plcaBeacon (t : Instant) (c : Ctl) (p : Bus) (heard : Bool) : Statement (.plcaBeacon t c p heard) := fun h => of_decide_eq_true h
theorem beaconLoss (t : Instant) (c : Ctl) (p : Bus) : Statement (.beaconLoss t c p) := fun h => of_decide_eq_true h
theorem rxFcs (t : Instant) (c : Ctl) (p : Bus) : Statement (.rxFcs t c p) := fun h => of_decide_eq_true h
theorem portQuiet (t : Instant) (c : Ctl) (p : Bus) : Statement (.portQuiet t c p) := fun h => of_decide_eq_true h
theorem portDown (t : Instant) (c : Ctl) (p : Bus) (diag : Bool) : Statement (.portDown t c p diag) := fun h => of_decide_eq_true h
theorem portUp (t : Instant) (c : Ctl) (p : Bus) : Statement (.portUp t c p) := fun h => of_decide_eq_true h
theorem arpRetry (t : Instant) (c : Ctl) (p : Bus) (ip : Nat) : Statement (.arpRetry t c p ip) := fun h => of_fits h
theorem arpEntryExpiry (t : Instant) (c : Ctl) (p : Bus) : Statement (.arpEntryExpiry t c p) := fun h => of_decide_eq_true h
theorem gratuitousArp (t : Instant) (c : Ctl) (p : Bus) : Statement (.gratuitousArp t c p) := fun h => of_decide_eq_true h
theorem dupEntryExpiry (t : Instant) (c : Ctl) : Statement (.dupEntryExpiry t c) := fun h => of_decide_eq_true h
theorem strangerTrafficClear (t : Instant) (c : Ctl) (p : Bus) : Statement (.strangerTrafficClear t c p) := fun h => of_decide_eq_true h
theorem addressChangeEffect (t : Instant) (c : Ctl) : Statement (.addressChangeEffect t c) := fun h => of_decide_eq_true h
theorem keyRetiringErase (t : Instant) (cl : Client) : Statement (.keyRetiringErase t cl) := fun h => of_decide_eq_true h
theorem leaseExpiry (t : Instant) (c : Ch) : Statement (.leaseExpiry t c) := fun h => of_decide_eq_true h
theorem subscriptionEnd (t : Instant) (cl : Client) (handle : Nat) : Statement (.subscriptionEnd t cl handle) := fun h => of_fits h
theorem streamReport (t : Instant) (cl : Client) (handle : Nat) : Statement (.streamReport t cl handle) := fun h => of_fits h
theorem stageHoldExpiry (t : Instant) : Statement (.stageHoldExpiry t) := fun h => of_decide_eq_true h
theorem reportSeqMirror (t : Instant) : Statement (.reportSeqMirror t) := fun h => of_decide_eq_true h
theorem scheduleArm (t : Instant) (jsn : Nat) : Statement (.scheduleArm t jsn) := fun h => of_fits h
theorem armedApply (t : Instant) (s : Slot) : Statement (.armedApply t s) := fun h => of_decide_eq_true h
theorem scheduleUnarmedApply (t : Instant) (jsn : Nat) : Statement (.scheduleUnarmedApply t jsn) := fun h => of_fits h
theorem scheduledSetLoop (t : Instant) (jsn : Nat) : Statement (.scheduledSetLoop t jsn) := fun h => of_fits h
theorem logicPowerUp (t : Instant) (c : Ctl) (selfTest : Bool) : Statement (.logicPowerUp t c selfTest) := fun h => of_decide_eq_true h
theorem firmwareRunning (t : Instant) (c : Ctl) : Statement (.firmwareRunning t c) := fun h => of_decide_eq_true h
theorem elect (t : Instant) (c : Ctl) : Statement (.elect t c) := fun h => of_decide_eq_true h
theorem electSend (t : Instant) (c : Ctl) : Statement (.electSend t c) := fun h => of_decide_eq_true h
theorem electTimeout (t : Instant) (c : Ctl) (peerPowered : Bool) : Statement (.electTimeout t c peerPowered) := fun h => of_decide_eq_true h
theorem claimReq (t : Instant) (c : Ctl) (s : Slot) : Statement (.claimReq t c s) := fun h => of_decide_eq_true h
theorem claimAck (t : Instant) (c : Ctl) (s : Slot) : Statement (.claimAck t c s) := fun h => of_decide_eq_true h
theorem claimGo (t : Instant) (c : Ctl) (s : Slot) : Statement (.claimGo t c s) := fun h => of_decide_eq_true h
theorem claimArmTimeout (t : Instant) (s : Slot) : Statement (.claimArmTimeout t s) := fun h => of_decide_eq_true h
theorem claimRetry (t : Instant) (c : Ctl) (s : Slot) : Statement (.claimRetry t c s) := fun h => of_decide_eq_true h
theorem commandReady (t : Instant) (c : Ctl) : Statement (.commandReady t c) := fun h => of_decide_eq_true h
theorem imageConfirmed (t : Instant) (c : Ctl) : Statement (.imageConfirmed t c) := fun h => of_decide_eq_true h
theorem logicDip (t : Instant) (c : Ctl) (mv : MilliVolt) : Statement (.logicDip t c mv) := fun h => of_fits h
theorem powerFail (t : Instant) (c : Ctl) : Statement (.powerFail t c) := fun h => of_decide_eq_true h
theorem powerFailRestart (t : Instant) (c : Ctl) (selfTest : Bool) : Statement (.powerFailRestart t c selfTest) := fun h => of_decide_eq_true h
theorem holdupExhausted (t : Instant) (c : Ctl) (steps : Nat) : Statement (.holdupExhausted t c steps) := fun h => of_fits h
theorem holdupCharged (t : Instant) (c : Ctl) : Statement (.holdupCharged t c) := fun h => of_decide_eq_true h
theorem holdupPrediction (t : Instant) (c : Ctl) (ms : Nat) : Statement (.holdupPrediction t c ms) := fun h => of_fits h
theorem logicInputState (t : Instant) (c : Ctl) (i : Fin 2) (mv : MilliVolt) : Statement (.logicInputState t c i mv) := fun h => of_fits h
theorem powerBusBand (t : Instant) (s : Slot) (mv : MilliVolt) : Statement (.powerBusBand t s mv) := fun h => of_fits h
theorem uvloFreewheelCap (t : Instant) (c : Ch) : Statement (.uvloFreewheelCap t c) := fun h => of_decide_eq_true h
theorem ovOff (t : Instant) (s : Slot) : Statement (.ovOff t s) := fun h => of_decide_eq_true h
theorem ovOffExit (t : Instant) (s : Slot) : Statement (.ovOffExit t s) := fun h => of_decide_eq_true h
theorem restartStagger (t : Instant) (c : Ch) : Statement (.restartStagger t c) := fun h => of_decide_eq_true h
theorem cartridgeStart (t : Instant) (s : Slot) (mv : MilliVolt) (serial : Bytes) : Statement (.cartridgeStart t s mv serial) := fun h => of_fits (Bool.and_eq_true_iff.mp h).1
theorem insertionHoldEnd (t : Instant) (c : Ch) : Statement (.insertionHoldEnd t c) := fun h => of_decide_eq_true h
theorem cellInserted (t : Instant) (c : Ctl) : Statement (.cellInserted t c) := fun h => of_decide_eq_true h
theorem cellQualificationEnd (t : Instant) (c : Ctl) (ohm : Nat) (mv : MilliVolt) : Statement (.cellQualificationEnd t c ohm mv) := fun h => of_fits (Bool.and_eq_true_iff.mp h).1
theorem prechargeDone (t : Instant) (c : Ctl) (mv : MilliVolt) : Statement (.prechargeDone t c mv) := fun h => of_fits h
theorem cellRemoved (t : Instant) (c : Ctl) : Statement (.cellRemoved t c) := fun h => of_decide_eq_true h
theorem cellLoadTest (t : Instant) (c : Ctl) (minMv dropMv : MilliVolt) : Statement (.cellLoadTest t c minMv dropMv) := fun h => of_fits (Bool.and_eq_true_iff.mp h).1
theorem chargerControl (t : Instant) (c : Ctl) (mv : MilliVolt) (ua : Nat) : Statement (.chargerControl t c mv ua) := fun h => of_fits (Bool.and_eq_true_iff.mp h).1
theorem chargerFault (t : Instant) (c : Ctl) (mv : MilliVolt) : Statement (.chargerFault t c mv) := fun h => of_fits h
theorem housekeepingRound (t : Instant) (r : HkRound) : Statement (.housekeepingRound t r) := fun h => of_decide_eq_true h
theorem shed (t : Instant) : Statement (.shed t) := fun h => of_decide_eq_true h
theorem shedResume (t : Instant) : Statement (.shedResume t) := fun h => of_decide_eq_true h
theorem chDerateExceeded (t : Instant) (c : Ch) : Statement (.chDerateExceeded t c) := fun h => of_decide_eq_true h
theorem derateStep (t : Instant) : Statement (.derateStep t) := fun h => of_decide_eq_true h
theorem fanTrayTimeout (t : Instant) : Statement (.fanTrayTimeout t) := fun h => of_decide_eq_true h
theorem fanStartCheck (t : Instant) (f : Fin 2) (rpm : Nat) : Statement (.fanStartCheck t f rpm) := fun h => of_fits h
theorem fanTachFault (t : Instant) (f : Fin 2) (rpm pct : Nat) : Statement (.fanTachFault t f rpm pct) := fun h => of_fits (Bool.and_eq_true_iff.mp h).1
theorem fanTachRecovery (t : Instant) (f : Fin 2) (rpm : Nat) : Statement (.fanTachRecovery t f rpm) := fun h => of_fits h
theorem fanRetry (t : Instant) (f : Fin 2) : Statement (.fanRetry t f) := fun h => of_decide_eq_true h
theorem fanTrayPresence (t : Instant) (present : Bool) : Statement (.fanTrayPresence t present) := fun h => of_decide_eq_true h
theorem dieThermalShutdown (t : Instant) (c : Ch) (fw : Bool) (temp : DeciDeg) : Statement (.dieThermalShutdown t c fw temp) := fun h => of_fits h
theorem dieThermalExit (t : Instant) (c : Ch) (fw : Bool) (temp : DeciDeg) : Statement (.dieThermalExit t c fw temp) := fun h => of_fits h
theorem ctrlTsd (t : Instant) (c : Ctl) (temp : DeciDeg) : Statement (.ctrlTsd t c temp) := fun h => of_fits h
theorem ctrlTsdRelease (t : Instant) (c : Ctl) (temp : DeciDeg) (selfTest : Bool) : Statement (.ctrlTsdRelease t c temp selfTest) := fun h => of_fits h
theorem coneCollect (t : Instant) (s : Slot) : Statement (.coneCollect t s) := fun h => of_decide_eq_true h
theorem setpointFrame (t : Instant) (c : Ctl) (s : Slot) (ok : Bool) : Statement (.setpointFrame t c s ok) := fun h => of_decide_eq_true h
theorem statusFrame (t : Instant) (c : Ctl) (s : Slot) (ok : Bool) : Statement (.statusFrame t c s ok) := fun h => of_decide_eq_true h
theorem frameSlot (t : Instant) (c : Ctl) : Statement (.frameSlot t c) := fun h => of_decide_eq_true h
theorem cartHoldExpiry (t : Instant) (s : Slot) : Statement (.cartHoldExpiry t s) := fun h => of_decide_eq_true h
theorem turnOn (t : Instant) (c : Ch) (mid serOk : Bool) : Statement (.turnOn t c mid serOk) := fun h => of_decide_eq_true h
theorem turnOff (t : Instant) (c : Ch) : Statement (.turnOff t c) := fun h => of_decide_eq_true h
theorem decayCurrentLow (t : Instant) (c : Ch) (ma : MilliAmp) : Statement (.decayCurrentLow t c ma) := fun h => of_fits h
theorem decayCap (t : Instant) (c : Ch) (ma : MilliAmp) : Statement (.decayCap t c ma) := fun h => of_fits h
theorem offStateTest (t : Instant) (c : Ch) (mv0 mv1 : MilliVolt) : Statement (.offStateTest t c mv0 mv1) := fun h => of_fits (Bool.and_eq_true_iff.mp h).1
theorem onStateOpenLoad (t : Instant) (c : Ch) : Statement (.onStateOpenLoad t c) := fun h => of_decide_eq_true h
theorem reverse (t : Instant) (c : Ch) (ma : MilliAmp) : Statement (.reverse t c ma) := fun h => of_fits h
theorem reverseHoldEnd (t : Instant) (c : Ch) : Statement (.reverseHoldEnd t c) := fun h => of_decide_eq_true h
theorem reverseFlagClear (t : Instant) (c : Ch) : Statement (.reverseFlagClear t c) := fun h => of_decide_eq_true h
theorem startEnd (t : Instant) (c : Ch) (mv : MilliVolt) : Statement (.startEnd t c mv) := fun h => of_fits h
theorem prechargeTimeout (t : Instant) (c : Ch) (mv : MilliVolt) : Statement (.prechargeTimeout t c mv) := fun h => of_fits h
theorem prechargeEnergy (t : Instant) (c : Ch) (mj : Nat) : Statement (.prechargeEnergy t c mj) := fun h => of_fits h
theorem heaterDrift (t : Instant) (c : Ch) (mv : MilliVolt) : Statement (.heaterDrift t c mv) := fun h => of_fits h
theorem hardShort (t : Instant) (c : Ch) (shunt mirror : MilliAmp) : Statement (.hardShort t c shunt mirror) := fun h => of_fits (Bool.and_eq_true_iff.mp h).1
theorem regulationEngage (t : Instant) (c : Ch) (ma : MilliAmp) : Statement (.regulationEngage t c ma) := fun h => of_fits h
theorem regulationEnd (t : Instant) (c : Ch) (ma : MilliAmp) (enhanced : Nat) (period : Bool) : Statement (.regulationEnd t c ma enhanced period) := fun h => of_fits (Bool.and_eq_true_iff.mp h).1
theorem limitTime (t : Instant) (c : Ch) : Statement (.limitTime t c) := fun h => of_decide_eq_true h
theorem limitTimerReset (t : Instant) (c : Ch) : Statement (.limitTimerReset t c) := fun h => of_decide_eq_true h
theorem wireI2t (t : Instant) (c : Ch) : Statement (.wireI2t t c) := fun h => of_decide_eq_true h
theorem stuckOn (t : Instant) (c : Ch) (ns conf : Nat) (intervals : Nat) : Statement (.stuckOn t c ns conf intervals) := fun h => of_fits (Bool.and_eq_true_iff.mp (Bool.and_eq_true_iff.mp h).1).1
theorem disconnectFailed (t : Instant) (c : Ch) (ns : Nat) : Statement (.disconnectFailed t c ns) := fun h => of_fits h
theorem stuckOff (t : Instant) (c : Ch) (sw : MilliVolt) (ns : Nat) (intervals : Nat) : Statement (.stuckOff t c sw ns intervals) := fun h => of_fits (Bool.and_eq_true_iff.mp (Bool.and_eq_true_iff.mp h).1).1
theorem gateMonFault (t : Instant) (c : Ch) (ns : Nat) : Statement (.gateMonFault t c ns) := fun h => of_fits h
theorem retryAttempt (t : Instant) (c : Ch) : Statement (.retryAttempt t c) := fun h => of_decide_eq_true h
theorem retryCounterReset (t : Instant) (c : Ch) : Statement (.retryCounterReset t c) := fun h => of_decide_eq_true h
theorem protStateSave (t : Instant) (s : Slot) : Statement (.protStateSave t s) := fun h => of_decide_eq_true h
theorem periodBoundary (t : Instant) (c : Ch) : Statement (.periodBoundary t c) := fun h => of_decide_eq_true h
theorem pwmCompare (t : Instant) (c : Ch) : Statement (.pwmCompare t c) := fun h => of_decide_eq_true h
theorem freewheelOn (t : Instant) (c : Ch) (sw : MilliVolt) (ns : Nat) (fwdOff : Bool) : Statement (.freewheelOn t c sw ns fwdOff) := fun h => of_fits (Bool.and_eq_true_iff.mp h).1
theorem freewheelOffAhead (t : Instant) (c : Ch) (offNs waitNs : Nat) : Statement (.freewheelOffAhead t c offNs waitNs) := fun h => of_fits (Bool.and_eq_true_iff.mp h).1
theorem freewheelLowCurrent (t : Instant) (c : Ch) (ma : MilliAmp) : Statement (.freewheelLowCurrent t c ma) := fun h => of_fits h
theorem swCmpFault (t : Instant) (c : Ch) (ma : MilliAmp) (ceiling : Bool) : Statement (.swCmpFault t c ma ceiling) := fun h => of_fits h
theorem triggerFire (t : Instant) (c : Ch) (trgB : Bool) (u1 u2 : Int) : Statement (.triggerFire t c trgB u1 u2) := fun h => of_fits (Bool.and_eq_true_iff.mp h).1
theorem blankWindowStart (t : Instant) (s : Slot) (k : Fin 4) (src : Fin 4) (event : Fin 4) : Statement (.blankWindowStart t s k src event) := fun h => of_decide_eq_true h
theorem blankWindowEnd (t : Instant) (s : Slot) (k : Fin 4) : Statement (.blankWindowEnd t s k) := fun h => of_decide_eq_true h
theorem delayLineCalibration (t : Instant) (c : Ch) (n : Nat) : Statement (.delayLineCalibration t c n) := fun h => of_fits h
theorem debugResume (t : Instant) (s : Slot) : Statement (.debugResume t s) := fun h => of_decide_eq_true h
theorem averageIntervalEnd (t : Instant) (c : Ch) (k : Fin 3) (x : List SampleIn) (mirror : MilliAmp) : Statement (.averageIntervalEnd t c k x mirror) := fun h => of_fits (Bool.and_eq_true_iff.mp h).1
theorem latchInstant (t : Instant) (k : Slot) (x : Vector SampleIn 4) : Statement (.latchInstant t k x) := fun h => of_decide_eq_true h
theorem latchComplete (t : Instant) : Statement (.latchComplete t) := fun h => of_decide_eq_true h
theorem energySave (t : Instant) (s : Slot) : Statement (.energySave t s) := fun h => of_decide_eq_true h
theorem visitStart (t : Instant) (s : Slot) (pos : Fin 4) : Statement (.visitStart t s pos) := fun h => of_decide_eq_true h
theorem visitEnd (t : Instant) (k : Slot) : Statement (.visitEnd t k) := fun h => of_decide_eq_true h
theorem visitAbandoned (t : Instant) (s : Slot) (sat : Bool) : Statement (.visitAbandoned t s sat) := fun h => of_decide_eq_true h
theorem offsetLearn (t : Instant) (c : Ch) : Statement (.offsetLearn t c) := fun h => of_decide_eq_true h
theorem pathComparison (t : Instant) (c : Ch) : Statement (.pathComparison t c) := fun h => of_decide_eq_true h
theorem crazingClear (t : Instant) (c : Ch) : Statement (.crazingClear t c) := fun h => of_decide_eq_true h
theorem pathFail (t : Instant) (c : Ch) (path2 bad : Bool) : Statement (.pathFail t c path2 bad) := fun h => of_decide_eq_true h
theorem voltageCalibration (t : Instant) (s : Slot) (input : Fin 9) (uv : Int) : Statement (.voltageCalibration t s input uv) := fun h => of_fits h
theorem sharingLoop (t : Instant) (p : Pair) (drift : Int) : Statement (.sharingLoop t p drift) := fun h => of_fits h
theorem twinUnbalanced (t : Instant) (p : Pair) : Statement (.twinUnbalanced t p) := fun h => of_decide_eq_true h
theorem leverOpen (t : Instant) (s : Slot) : Statement (.leverOpen t s) := fun h => of_decide_eq_true h
theorem leverClose (t : Instant) (s : Slot) : Statement (.leverClose t s) := fun h => of_decide_eq_true h
theorem left (t : Instant) (s : Slot) : Statement (.left t s) := fun h => of_decide_eq_true h
theorem slotLeft (t : Instant) (s : Slot) : Statement (.slotLeft t s) := fun h => of_decide_eq_true h
theorem slotLost (t : Instant) (s : Slot) : Statement (.slotLost t s) := fun h => of_decide_eq_true h
theorem twinJoin (t : Instant) (c : Ch) : Statement (.twinJoin t c) := fun h => of_decide_eq_true h
theorem loopUpdate (t : Instant) (q : Quad) : Statement (.loopUpdate t q) := fun h => of_decide_eq_true h
theorem take (t : Instant) (c : Ctl) : Statement (.take t c) := fun h => of_decide_eq_true h
theorem loopStageTimeout (t : Instant) (c : Ctl) (q : Quad) : Statement (.loopStageTimeout t c q) := fun h => of_decide_eq_true h
theorem compliance (t : Instant) (c : Ctl) (q : Quad) (ua : Nat) (mv : MilliVolt) : Statement (.compliance t c q ua mv) := fun h => of_fits (Bool.and_eq_true_iff.mp h).1
theorem loopProbe (t : Instant) (q : Quad) (mv35 mv36 : MilliVolt) : Statement (.loopProbe t q mv35 mv36) := fun h => of_fits (Bool.and_eq_true_iff.mp h).1
theorem loopHostTmo (t : Instant) (q : Quad) : Statement (.loopHostTmo t q) := fun h => of_decide_eq_true h
theorem tachEdge (t : Instant) (q : Quad) : Statement (.tachEdge t q) := fun h => of_decide_eq_true h
theorem tachEvaluation (t : Instant) (q : Quad) : Statement (.tachEvaluation t q) := fun h => of_decide_eq_true h
theorem tachSpinupEnd (t : Instant) (q : Quad) : Statement (.tachSpinupEnd t q) := fun h => of_decide_eq_true h
theorem tachStall (t : Instant) (q : Quad) : Statement (.tachStall t q) := fun h => of_decide_eq_true h
theorem tachOverrange (t : Instant) (q : Quad) (above : Bool) : Statement (.tachOverrange t q above) := fun h => of_decide_eq_true h
theorem timeEvaluation (t : Instant) (c : Ctl) : Statement (.timeEvaluation t c) := fun h => of_decide_eq_true h
theorem sourceQualified (t : Instant) (c : Ctl) (ptp : Bool) : Statement (.sourceQualified t c ptp) := fun h => of_decide_eq_true h
theorem timeStep (t : Instant) (c : Ctl) : Statement (.timeStep t c) := fun h => of_decide_eq_true h
theorem timeArbitration (t : Instant) (c : Ctl) (oneBand : Bool) : Statement (.timeArbitration t c oneBand) := fun h => of_decide_eq_true h
theorem suspectExpiry (t : Instant) (c : Ctl) (ptp : Bool) : Statement (.suspectExpiry t c ptp) := fun h => of_decide_eq_true h
theorem holdoverExpiry (t : Instant) (c : Ctl) : Statement (.holdoverExpiry t c) := fun h => of_decide_eq_true h
theorem taiUtcChange (t : Instant) (c : Ctl) : Statement (.taiUtcChange t c) := fun h => of_decide_eq_true h
theorem ppsEdge (t : Instant) (c : Ctl) : Statement (.ppsEdge t c) := fun h => of_decide_eq_true h
theorem timeReport (t : Instant) (c : Ctl) (f : Nat) : Statement (.timeReport t c f) := fun h => of_fits h
theorem ppsDelayCalibration (t : Instant) (c : Ctl) (n : Nat) : Statement (.ppsDelayCalibration t c n) := fun h => of_fits h
theorem timePairDiff (t : Instant) : Statement (.timePairDiff t) := fun h => of_decide_eq_true h
theorem tcxoFail (t : Instant) (c : Ctl) (noEdges : Bool) (ppmRtc ppmGnss : Nat) : Statement (.tcxoFail t c noEdges ppmRtc ppmGnss) := fun h => of_fits (Bool.and_eq_true_iff.mp h).1
theorem sampleFrame (t : Instant) (c : Ctl) (ok agcLimit : Bool) (magPct : Nat) (ppm : Int) (agc1 agc5 : Nat) (dumps : List Dump) : Statement (.sampleFrame t c ok agcLimit magPct ppm agc1 agc5 dumps) := fun h => of_fits (Bool.and_eq_true_iff.mp (Bool.and_eq_true_iff.mp (Bool.and_eq_true_iff.mp h).1).1).1
theorem acquisitionSearch (t : Instant) (c : Ctl) (k : Tracker) (peak next : Nat) (code : Nat) (bin : Fin 41) : Statement (.acquisitionSearch t c k peak next code bin) := fun h => of_fits (Bool.and_eq_true_iff.mp (Bool.and_eq_true_iff.mp h).1).1
theorem handOver (t : Instant) (c : Ctl) (k : Tracker) (locked : Bool) (cand : Fin 4) (cn0 : Nat) : Statement (.handOver t c k locked cand cn0) := fun h => of_fits h
theorem lossOfLock (t : Instant) (c : Ctl) (k : Tracker) (b : Band) (cn0 pli : Nat) : Statement (.lossOfLock t c k b cn0 pli) := fun h => of_fits (Bool.and_eq_true_iff.mp h).1
theorem sidePeakShift (t : Instant) (c : Ctl) (k : Tracker) (late : Bool) (side prompt : Nat) : Statement (.sidePeakShift t c k late side prompt) := fun h => of_fits (Bool.and_eq_true_iff.mp h).1
theorem measurementEpoch (t : Instant) (c : Ctl) (obs : List TrkObs) : Statement (.measurementEpoch t c obs) := fun h => of_decide_eq_true h
theorem spectralMonitor (t : Instant) (c : Ctl) (b : Band) (khz : Int) (above : Nat) (track0 track1 : Nat) (power : Int) : Statement (.spectralMonitor t c b khz above track0 track1 power) := fun h => of_fits (Bool.and_eq_true_iff.mp (Bool.and_eq_true_iff.mp (Bool.and_eq_true_iff.mp (Bool.and_eq_true_iff.mp h).1).1).1).1
theorem ephemerisDecoded (t : Instant) (c : Ctl) (sat : Nat) (ref : UnitTime) (healthy ok : Bool) : Statement (.ephemerisDecoded t c sat ref healthy ok) := fun h => of_fits (Bool.and_eq_true_iff.mp h).1
theorem almanacWrite (t : Instant) (c : Ctl) (tai : Option (Int × Option (Int × UnitTime))) : Statement (.almanacWrite t c tai) := fun h => of_decide_eq_true h
theorem snapStored (t : Instant) (c : Ctl) (data : Bytes) : Statement (.snapStored t c data) := fun h => of_fits h
theorem snapProcessed (t : Instant) (c : Ctl) (found : List SnapSat) : Statement (.snapProcessed t c found) := fun h => of_decide_eq_true h
theorem scheduledCapture (t : Instant) (c : Ctl) : Statement (.scheduledCapture t c) := fun h => of_decide_eq_true h
theorem fftSelfTest (t : Instant) (c : Ctl) (pass : Bool) : Statement (.fftSelfTest t c pass) := fun h => of_decide_eq_true h
theorem gnssCardPresence (t : Instant) (present : Bool) : Statement (.gnssCardPresence t present) := fun h => of_decide_eq_true h
theorem antOpen (t : Instant) (ma : Nat) : Statement (.antOpen t ma) := fun h => of_fits h
theorem antShort (t : Instant) (ma : Nat) : Statement (.antShort t ma) := fun h => of_fits h
theorem antBiasReapply (t : Instant) : Statement (.antBiasReapply t) := fun h => of_decide_eq_true h
theorem logRecord (t : Instant) (code flags source object : Nat) (body : Bytes) : Statement (.logRecord t code flags source object body) := fun h => of_fits (Bool.and_eq_true_iff.mp (Bool.and_eq_true_iff.mp (Bool.and_eq_true_iff.mp (Bool.and_eq_true_iff.mp h).1).1).1).1
theorem loss (t : Instant) : Statement (.loss t) := fun h => of_decide_eq_true h
theorem voyage (t : Instant) (c : Ch) : Statement (.voyage t c) := fun h => of_decide_eq_true h
theorem voyageAck (t : Instant) (s : Slot) : Statement (.voyageAck t s) := fun h => of_decide_eq_true h
theorem mirrorGapTimeout (t : Instant) (c : Ctl) : Statement (.mirrorGapTimeout t c) := fun h => of_decide_eq_true h
theorem lineSample (t : Instant) (w : Part) (i : Fin 10) (lineMv railMv : Nat) : Statement (.lineSample t w i lineMv railMv) := fun h => of_fits (Bool.and_eq_true_iff.mp h).1
theorem contactChange (t : Instant) (w : Part) (i : Fin 10) : Statement (.contactChange t w i) := fun h => of_decide_eq_true h
theorem lineState (t : Instant) (w : Part) (i : Fin 10) : Statement (.lineState t w i) := fun h => of_decide_eq_true h
theorem fltAssert (t : Instant) (s : Slot) (i : Fin 2) (k : Nat) (ns : Nat) : Statement (.fltAssert t s i k ns) := fun h => of_fits (Bool.and_eq_true_iff.mp h).1
theorem fltRelease (t : Instant) (s : Slot) (i : Fin 2) (k : Nat) (ns : Nat) : Statement (.fltRelease t s i k ns) := fun h => of_fits (Bool.and_eq_true_iff.mp h).1
theorem limpDemand (t : Instant) (s : Slot) : Statement (.limpDemand t s) := fun h => of_decide_eq_true h
theorem soakEnd (t : Instant) (c : Ch) : Statement (.soakEnd t c) := fun h => of_decide_eq_true h
theorem handoverRampEnd (t : Instant) (c : Ch) : Statement (.handoverRampEnd t c) := fun h => of_decide_eq_true h
theorem heartbeatSend (t : Instant) (c : Ctl) : Statement (.heartbeatSend t c) := fun h => of_decide_eq_true h
theorem heartbeat (t : Instant) (c : Ctl) (lane0 lane1 : Bool) : Statement (.heartbeat t c lane0 lane1) := fun h => of_decide_eq_true h
theorem heartbeatMissed (t : Instant) (c : Ctl) (peerPowered : Bool) : Statement (.heartbeatMissed t c peerPowered) := fun h => of_decide_eq_true h
theorem failN (t : Instant) (c : Ctl) (asserted : Bool) : Statement (.failN t c asserted) := fun h => of_decide_eq_true h
theorem lockstepMismatch (t : Instant) (c : Ctl) (selfTest : Bool) : Statement (.lockstepMismatch t c selfTest) := fun h => of_decide_eq_true h
theorem watchdogExpiry (t : Instant) (c : Ctl) (selfTest : Bool) : Statement (.watchdogExpiry t c selfTest) := fun h => of_decide_eq_true h
theorem failover (t : Instant) (c : Ctl) : Statement (.failover t c) := fun h => of_decide_eq_true h
theorem prepare (t : Instant) (jsn : Nat) : Statement (.prepare t jsn) := fun h => of_fits h
theorem prepAck (t : Instant) (jsn : Nat) : Statement (.prepAck t jsn) := fun h => of_fits h
theorem commit (t : Instant) (jsn : Nat) : Statement (.commit t jsn) := fun h => of_fits h
theorem commitAck (t : Instant) (jsn : Nat) : Statement (.commitAck t jsn) := fun h => of_fits h
theorem mirrorTimeout (t : Instant) : Statement (.mirrorTimeout t) := fun h => of_decide_eq_true h
theorem stateDigest (t : Instant) : Statement (.stateDigest t) := fun h => of_decide_eq_true h
theorem digestMismatch (t : Instant) : Statement (.digestMismatch t) := fun h => of_decide_eq_true h
theorem resyncComplete (t : Instant) : Statement (.resyncComplete t) := fun h => of_decide_eq_true h
theorem joinComplete (t : Instant) : Statement (.joinComplete t) := fun h => of_decide_eq_true h
theorem handoff (t : Instant) : Statement (.handoff t) := fun h => of_decide_eq_true h
theorem autoRoleSwap (t : Instant) : Statement (.autoRoleSwap t) := fun h => of_decide_eq_true h
theorem splitReelect (t : Instant) (c : Ctl) (peerPowered : Bool) : Statement (.splitReelect t c peerPowered) := fun h => of_decide_eq_true h
theorem controllerLeverOpen (t : Instant) (c : Ctl) : Statement (.controllerLeverOpen t c) := fun h => of_decide_eq_true h
theorem leverWaitExpiry (t : Instant) (c : Ctl) : Statement (.leverWaitExpiry t c) := fun h => of_decide_eq_true h
theorem controllerLeverClose (t : Instant) (c : Ctl) : Statement (.controllerLeverClose t c) := fun h => of_decide_eq_true h
theorem codePlugCheck (t : Instant) (c : Ctl) (k : Socket) : Statement (.codePlugCheck t c k) := fun h => of_decide_eq_true h
theorem s50Change (t : Instant) (enable : Bool) : Statement (.s50Change t enable) := fun h => of_decide_eq_true h
theorem x50Attach (t : Instant) (cable : Bool) : Statement (.x50Attach t cable) := fun h => of_decide_eq_true h
theorem scrubPass (t : Instant) (w : Part) (mram sram : Nat) : Statement (.scrubPass t w mram sram) := fun h => of_fits (Bool.and_eq_true_iff.mp h).1
theorem doubleBitError (t : Instant) (w : Part) (addr : Nat) : Statement (.doubleBitError t w addr) := fun h => of_fits h
theorem seriesTest (t : Instant) (c : Ch) (out mid : MilliVolt) : Statement (.seriesTest t c out mid) := fun h => of_fits (Bool.and_eq_true_iff.mp h).1
theorem dailySelftest (t : Instant) (c : Ctl) : Statement (.dailySelftest t c) := fun h => of_decide_eq_true h
theorem winPoll (t : Instant) (c : Ctl) (status : Nat) : Statement (.winPoll t c status) := fun h => of_fits h
theorem winTimeout (t : Instant) (c : Ctl) (status : Nat) : Statement (.winTimeout t c status) := fun h => of_fits h
theorem winProbe (t : Instant) (c : Ctl) (p : ProbeIn) : Statement (.winProbe t c p) := fun h => of_decide_eq_true h
theorem expSupply (t : Instant) (ma : Nat) : Statement (.expSupply t ma) := fun h => of_fits h
theorem logicRailDipOnset (t : Instant) (c : Ctl) (mv : MilliVolt) (store : Nat) : Statement (.logicRailDipOnset t c mv store) := fun h => of_fits (Bool.and_eq_true_iff.mp h).1
theorem ppsPulseEnd (t : Instant) (c : Ctl) : Statement (.ppsPulseEnd t c) := fun h => of_decide_eq_true h
theorem spiTransactionEnd (t : Instant) (c : Ctl) (rx : Bytes) : Statement (.spiTransactionEnd t c rx) := fun h => of_fits h
theorem energyCounterWrite (t : Instant) (c : Ctl) : Statement (.energyCounterWrite t c) := fun h => of_decide_eq_true h
theorem notApplied (t : Instant) (jsn : Nat) : Statement (.notApplied t jsn) := fun h => of_fits h
theorem busCollisions (t : Instant) (c : Ctl) (p : Bus) (rate : Nat) : Statement (.busCollisions t c p rate) := fun h => of_fits h
theorem plcaDegradedClear (t : Instant) (c : Ctl) (p : Bus) : Statement (.plcaDegradedClear t c p) := fun h => of_decide_eq_true h
theorem addrConflictCleared (t : Instant) (c : Ctl) (p : Bus) : Statement (.addrConflictCleared t c p) := fun h => of_decide_eq_true h
theorem antOpenCleared (t : Instant) (ma : Nat) : Statement (.antOpenCleared t ma) := fun h => of_fits h
theorem antShortCleared (t : Instant) (ma : Nat) : Statement (.antShortCleared t ma) := fun h => of_fits h
theorem expSupplyCleared (t : Instant) (ma : Nat) : Statement (.expSupplyCleared t ma) := fun h => of_fits h
theorem cartridgeLinkLoss (t : Instant) (c : Ctl) (s : Slot) : Statement (.cartridgeLinkLoss t c s) := fun h => of_decide_eq_true h

end Sys2Proof.Laws.InstantFits
end

