-- ==== Sys2Proof/Laws/Session.lean ====
section
/-!
SUPPORT. Laws/Session.lean: a request that passes is executed in the state in which it was admitted.
-/
namespace Sys2Proof.Machine

@[simp] theorem State.now_useKey (s : State) (c : Ctl) (cl : Client) (gen : Nat) : (s.useKey c cl gen).now = s.now := by
  unfold State.useKey; dsimp only; split <;> simp
@[simp] theorem State.pending_useKey (s : State) (c : Ctl) (cl : Client) (gen : Nat) : (s.useKey c cl gen).pending = s.pending := by
  unfold State.useKey; dsimp only; split <;> simp
@[simp] theorem State.now_letIn (s : State) (q : Request) : (s.letIn q).now = s.now := by simp [State.letIn]
@[simp] theorem State.pending_letIn (s : State) (q : Request) : (s.letIn q).pending = s.pending := by simp [State.letIn]

/-- Admitting a request moves neither the clock nor the queue. -/
theorem State.keep_letIn (s : State) (q : Request) (u : State) : (s.letIn q).keep u = s.keep u := by simp [State.keep]

/-- What a request that passes comes to. -/
theorem perform_passes {h : Handler} {q : Request} {s : State} (p : Passes h q s) :
    s.perform h q =
      match h.run (s.letIn q) q.ctl q with
      | .done b d => (d.enter q.ctl q.client ((s.letIn q).doneEntry h q)).reply q.ctl q h.op 0 ((s.letIn q).utime q.ctl) b
      | .err r d => d.refuse h q r
      | .later d => d.enter q.ctl q.client { (s.letIn q).doneEntry h q with st := .inProgress }
      | .quiet d => d
      | .tx j d =>
        d.prepareTx q.ctl replyParams { j with
          client := q.client.val, seq := q.seq, opcode := h.op, time := q.time, sched := q.time ≠ 0, req := some q
          changes := j.changes ++ [.entry q.client (if q.time ≠ 0
            then { (s.letIn q).doneEntry h q with mark := j.seq, st := .scheduled, status := 1, time := q.time }
            else { (s.letIn q).doneEntry h q with mark := j.seq })] } := by
  obtain ⟨h1, h2, h3, h4, h5, h6⟩ := p
  unfold State.perform
  rw [if_pos h1]
  dsimp only
  rw [h2]
  dsimp only
  unfold State.fresh
  dsimp only
  change (if (s.letIn q).notActive h q = true then _ else _) = _
  rw [h3]
  simp only [Bool.false_eq_true, if_false]
  change (match firstOf [h.deniedAt, h.paramAt, h.rangeAt] (s.letIn q) q.ctl q with
    | some r => _
    | none => _) = _
  rw [h4]
  dsimp only
  change (match (s.letIn q).bounded h q.ctl q with
    | some b => _
    | none => _) = _
  rw [h5]
  dsimp only
  change (match firstOf [h.conflictAt, h.hw] (s.letIn q) q.ctl q with
    | some r => _
    | none => _) = _
  rw [h6]
  dsimp only
  rfl

end Sys2Proof.Machine
end

