-- ==== Sys2Proof/Tests/Slice0.lean ====
section
/-!
SUPPORT. Tests/Slice0.lean: for every statement of the obligations that has hypotheses, states and operands that meet them together, clause by clause
(`meets_<name>`); ill-formed commands that the checks of WellFormed.lean refuse; and single steps against the spec's own worked numbers.
-/
open Sys2Proof Sys2Proof.Machine

set_option Elab.async false

namespace Sys2Proof.Tests

/-! Helpers. -/

/-- A command runs to a next state. -/
def Ran (i : Instr) (s : State) : Prop := Gives (exec i s) fun _ => True

theorem ran {o : Result} {P : State → Prop} (h : Gives o P) : Gives o fun _ => True := h.elim fun u h => ⟨u, h.1, trivial⟩

/-- A controller that runs, both lanes of the pair link up, in a role. -/
def runs (r : Role) : Ctlr :=
  { powered := true, role := r, failN := false, peerFail := false, lanes := Vector.replicate 2 { up := true }
    mram := { epoch := 5, jsn := 10, ident := some {} } }

/-- DUAL: A is ACTIVE and command-ready, B STANDBY_SYNCED; the power buses stand at 24 V, A holds the cartridges, and HOST governs. -/
def dual : State :=
  { State.reset with
    now := 200000000000000
    ctlA := { runs .active with ready := true }
    ctlB := runs .synced
    carts := Vector.replicate 4 { busMv := 24000, band := .normal, holder := some .a, epoch := 1, unset := false }
    chans := Vector.replicate 16 { ctrl := { source := .host } }
    mode := .dual }

/-- SOLO: the same with B in BOOTING. -/
def solo : State := { dual with ctlB := {}, mode := .solo }

/-- A channel in its stage. -/
def at_ (c : Ch) (g : Stage) (s : State := dual) : State := s.modChan c fun x => { x with stage := g }

/-- ON, in RUN, with nothing else. -/
def on : Stage := { output := .on, phase := .run, fwd := true, ser := true }
/-- PWM, in RUN. -/
def pwm : Stage := { on with output := .pwm }
/-- CH01 in a stage of PWM, with its generator. -/
def gen (g : Gen) (p : Stage := pwm) : State := (at_ 0 p).modGen 0 fun _ => g
/-- CH01's generator, at its boundary, with both triggers placed there. -/
def ticking : State :=
  gen { begun := true, perAt := 800000000000000, boundAt := 800000000200000, act := { trga := 2 ^ 31, trgb := 2 ^ 31 } }
/-- CH02 of the first cartridge is visited, and its visit ends; and a half of a visit that finds the whole amplitude. -/
def visiting : State := dual.modCart 0 fun x => { x with visit := some 1 }
def whole1 : Demod := { prod := 100000, sqr := 300000 }
/-- CH01's paths have read these means over the sliding second, after nine disagreements in a row. -/
def means (a z : Int) : State := (at_ 0 on).modMeas 0 fun x => { x with disagree := 9, slide := [{ n1 := 1, s1 := a, n2 := 1, s2 := z }] }
/-- The frame of a controller to slot 1, due at an instant, and a state in which it alone is under way. -/
def frame (c : Ctl) (due : Instant) : Frame :=
  { ctl := c, image := List.replicate 4 { level := .on }, imgJsn := 1, time := 0, due := due, unset := false, voyAck := [], acts := [], latch := none }
def sent (c : Ctl) (f : Frame) : State := dual.modCtl c fun x => { x with tx := setV x.tx 0 [f] }
/-- One transaction in A's journal. -/
def tx (j : JSlot) (s : State := dual) : State := s.modMram .a fun m => { m with slots := [j] }
/-- JSN 9, committed and released. -/
def done : JSlot := { jsn := 9, st := .committed, released := true, commitAt := 200000000000000 }
/-- A client's request to A on BUS-A, at the unit address. -/
def ask (p : Bytes) : Request := { src := ⟨0xC0A80A64, 50000⟩, params := p }
/-- CH01 and CH05 twinned, and both seen in RUN by A. -/
def sharing : State :=
  (dual.modMram .a fun m => { m with items := [⟨0x0201, 1, 1⟩] }).modCtl .a fun x =>
    { x with seen := Vector.replicate 4 { at_ := some 200000000000000, holder := some .a, words := [0x1118, 0x18, 0x18, 0x18] } }
/-- CH16 commanded on at A, and unit current over its limit for 60 s. -/
def above (s : State := dual) : State :=
  (s.modMram .a fun m => { m with hosts := m.hosts.set 15 { level := .on }, items := [⟨0x011D, 16, 3⟩] }).modCool fun x => { x with unitOver := some 0 }
/-- The first fan in a state since the running clock's start. -/
def fan (st : FanState) (s : State := dual) : State := s.modCool fun x => { x with fans := setV x.fans 0 { st := st, tachSince := some 0 } }
/-- A's stage of LOOP1 drives it, in a state. -/
def stage (x : LoopStage) (s : State := dual) : State := s.modLoop 0 fun l => { l with stages := setV l.stages 0 { x with live := true } }
/-- TACH1 bound to CH01, which is on in RUN. -/
def tach (x : Tach) (s : State := dual) : State := ((at_ 0 on s).modMram .a fun m => { m with items := [⟨0x0401, 1, 1⟩] }).modTach 0 fun _ => x
/-- A housekeeping round in which every cartridge draws 9 A from two balanced feeds. -/
def round : HkRound := { carts := Vector.replicate 4 { feedMv := #v[24500, 24000], busMv := 23900, load := 9000 } }
/-- A's logic rail has stood below 16 V since an instant; and a backup cell in a state at A. -/
def dipped (since : Instant) : State := dual.modSup .a fun x => { x with lowSince := some since, lowMin := 12000 }
def cell (st : CellState) : State := dual.modSup .a fun x => { x with cell := st }
/-- A change of A. -/
def onA (f : Ctlr → Ctlr) : State := dual.modCtl .a f
/-- A key-encryption key and the key it wraps, as RFC 3394 has them. -/
def kek : Bytes := (List.range 32).map fun i => BitVec.ofNat 8 i
def wrapped : Bytes := be 40 0x28C9F404C4B810F4CBCCB35CFB87F8263F5786E2D80ED326CBC7F0E71A99F43BFB988B9B7A02DD21
def plainKey : Bytes := be 32 0x00112233445566778899AABBCCDDEEFF000102030405060708090A0B0C0D0E0F
/-- Client 0 holds the first key. -/
def keyed (s : State := dual) : State := s.modMram .a fun m => { m with clients := m.clients.set 0 { keys := [{ gen := 1, st := .current, key := kek }] } }
/-- Configuration items at A. -/
def conf (l : Items) (s : State := dual) : State := s.modMram .a fun m => { m with items := l }
/-- The window device is configured at A. -/
def win : State := (conf [⟨0x0904, 0, 1⟩]).modExp .a fun x => { x with drive := true, items := [⟨0x0904, 0, 1⟩] }
/-- An open firmware transfer of client 0 to A. -/
def transfer : Transfer := { client := 0, toB := true, hdr := [], len := 4, parts := [], at_ := 0 }
def loading : State := onA fun x => { x with transfer := some transfer }
/-- A program of one byte, enabled; a transaction of the port; a queue of one operation; and a probe due, with SFDP read or not. -/
def write : ExpOp := { kind := .write 0 [1], req := ask [], st := .enabled }
def spi : SpiTx := { sel := 0, mode := 0, period := 100, width := 8, frames := [6], total := 8, start := 1000 }
def queued (o : ExpOp) (f : Exp → Exp := id) : State := win.modExp .a fun x => f { x with queue := [o] }
def probed (param : Nat) : State := win.modExp .a fun x => { x with probe := true, items := [⟨0x0904, 0, 1⟩, ⟨0x0907, 0, param <<< 120⟩] }
/-- A runs image A while image B has started three times on trial. -/
def onTrial : State :=
  dual.modMram .a fun m => { m with boot := { m.boot with imgB := m.boot.imgA, recs := Vector.replicate 2 { prefB := true, stB := .trial, trials := 3 } } }
/-- A capture that A holds. -/
def snap : Snap := { id := 7, len := 1, b1 := true, b5 := false, proc := 1, start := 0, sched := false, req := none, stored := true, file := zeros 64 }
/-- Unit time of A is LOCKED. -/
def locked : State := dual.modTime .a fun x => { x with st := .locked, src := 1 }
/-- The settings block of R601: period, compare, triggers, phase and flags. -/
def pwmPar : Bytes := be 4 8000 ++ be 4 0x0002EE33 ++ zeros 16
/-- A complete transfer of the image that a delivered controller has, with a body of four bytes; and the witness of FW_COMMIT, for which the
signature verifies. -/
def whole : Transfer := { transfer with hdr := ({} : Boot).imgA.hdr, parts := [(0, zeros 4)] }
def loaded : State := onA fun x => { x with transfer := some whole }
/-- The image's signature verifies under signing key 0, which the spec leaves to the unit. -/
def Signed : Prop := Config.signatureOk 0 (whole.hdr.take 64) (zeros 4) (slice whole.hdr 64 64) = true

theorem commit_passes (sig : Signed) : Passes hFwCommit (ask []) (loaded.begin 0) := by
  have v : whole.image = { st := .trial, hdr := whole.hdr, sound := true } := by
    simp only [Transfer.image, Image.mk.injEq, true_and]
    rw [show whole.parts.flatMap (·.2) = zeros 4 from rfl, show field whole.hdr 24 1 = 0 by decide +kernel, show Config.signatureOk 0 _ _ _ = true from sig]
    decide +kernel
  refine ⟨?_, ?_, ?_, ?_, ?_, ?_⟩
  iterate 5 decide +kernel
  have c : hFwCommit.conflictAt ((loaded.begin 0).letIn (ask [])) .a (ask []) = none := by
    have e : ((loaded.begin 0).letIn (ask [])).transferOf .a 0 = some (.a, whole) := by decide +kernel
    have k : hFwCommit.conflictAt ((loaded.begin 0).letIn (ask [])) .a (ask []) =
        hFwCommit.conflict ((loaded.begin 0).letIn (ask [])) .a (ask []) := rfl
    rw [k]
    simp only [hFwCommit, show (ask []).client = 0 from rfl, e, v]
    decide +kernel
  show ([hFwCommit.conflictAt, hFwCommit.hw] : List Check).findSome? (fun f => f ((loaded.begin 0).letIn (ask [])) .a (ask [])) = none
  simp only [List.findSome?_cons, c]
  decide +kernel
/-- The ports of A run, with their addresses, and a host's in the ARP cache. -/
def up : Phy := { st := .up, run := true, seenAt := some 199999000000000, arp := [{ ip := 0xC0A80A64, mac := 1, at_ := 200000000000000, used := 200000000000000 }] }
def net (x : Phy := up) (s : State := dual) : State :=
  s.modCtl .a fun c => { c with phyA := x, phyB := up, addrs := some (({} : Plug).addrA, ({} : Plug).addrB) }
/-- A MAC that is none of the unit's. -/
def otherMac : Nat := dual.unitMac .a + dual.phyMac .a .a + dual.phyMac .b .a + 1
/-- A PING of client 0 under its key. -/
def pingHead : Bytes := packetHead 0 0 1 1 0 0 0 []
def pingIn : PacketIn := { flags := 0, client := 0, gen := 1, seq := 1, opcode := 0, status := 0, time := 0, params := [], head := pingHead, tag := tagOf kek pingHead }
def pingData : Bytes := pingHead ++ tagOf kek pingHead
/-- A datagram of the host for port 48720 at UNIT_IP of BUS-A. -/
def udpData : Bytes := be 28 0x4500001c000000004011e512c0a80a64c0a80a0ac350be5000080000
/-- PTP slaved to a master on BUS-A. -/
def slaved (p : Ptp) : State :=
  (net.modMram .a fun m => { m with items := [⟨0x0804, 0, 1⟩] }).modTime .a fun x => { x with ptpc := { p with master := some 7, annNs := 1000000000 } }
/-- An Announce of the master. -/
def announce : Announce :=
  { master := 7, domain := 0, pri1 := 128, cls := 6, accNs := 100, var := 1, pri2 := 128, gm := 7, steps := 0, ptp := true, utc := 37, utcOk := true
    leap59 := false, leap61 := false, logAnn := 1, logSync := 0, logDelay := 0 }
theorem other_unit : otherMac ≠ (net.begin 0).unitMac .a := by
  rw [show (net.begin 0).unitMac .a = dual.unitMac .a from rfl]; unfold otherMac; omega
theorem other_phy (c : Ctl) : otherMac ≠ (net.begin 0).phyMac c .a := by
  cases c
  · rw [show (net.begin 0).phyMac .a .a = dual.phyMac .a .a from rfl]; unfold otherMac; omega
  · rw [show (net.begin 0).phyMac .b .a = dual.phyMac .b .a from rfl]; unfold otherMac; omega
/-- A's baseband runs. -/
def gnss (f : Gnss → Gnss := id) (s : State := dual) : State := s.modGnss .a fun x => f { x with run := true }
/-- Its first tracker. -/
def trk (x : Trk) : State := gnss fun g => { g with trk := g.trk.set 0 x }
/-- A satellite tracked on both bands, each with its conditions since the running clock's start. -/
def locks : TrkBand := { lock := true, cn0 := 4000, weak := some 0, loose := some 0, sideSince := some 0 }
/-- A subscription of client 0 to HK. -/
def sub : Sub := { handle := 2, stream := 8, period := 1000, filter := 0, stop := 300000000000000 }
def reporting : State := (keyed net).modMram .a fun m => { m with clients := m.clients.set 0 { keys := [{ gen := 1, st := .current, key := kek }], subs := [sub] } }
/-- A request on X50, with S50 at ENABLE. -/
def service (s : State := dual) : State := { s with s50 := true, x50 := { cable := true, ctl := some .a } }
def askX (p : Bytes) : Request := { ask p with via := .x50, toUnit := false }
/-- An unpowered controller A with its rail at 24 V. -/
def unpowered (f : Supply → Supply) : State := dual.modCtl .a fun x => { x with powered := false, role := .booting, sup := f { x.sup with railMv := 24000 } }
/-- A in a role. -/
def roleA (r : Role) (f : Ctlr → Ctlr := id) : State := { dual with ctlA := f (runs r), ctlB := {}, carts := dual.carts.map fun k => { k with holder := none } }
/-- B's ELECT record. -/
def elect : Elect := { role := .electing, schema := 4, epoch := 5, hash := zeros 16, line := 4, serial := List.replicate 12 0x30 }
/-- A claim of slot 1 by A in progress, with the cartridge armed. -/
def claim (x : Claim) (arm : Option (Ctl × Nat × Instant)) (f : Cart → Cart := id) (s : State := dual) : State :=
  (s.modCtl .a fun y => { y with claims := setV y.claims 0 { x with epoch := 2 }, seen := Vector.replicate 4 { at_ := some 0, holder := some .a, epoch := 1 } }).modCart 0
    fun y => f { y with armedBy := arm }
/-- JSN 9 prepared: CH01 ON. -/
def prep : JSlot := { jsn := 9, st := .prepared, changes := [.level 0 .on true], mask := #v[true, false, false, false] }
/-- A slot at each end. -/
def both (j i : JSlot) : State := (tx j).modMram .b fun m => { m with slots := [i] }
/-- The role swap of R886, released. -/
def swap : JSlot := { done with kind := 6, changes := [.swap .b 0] }
/-- The HK report that falls due. -/
def hkDue : Due := (((reporting.begin 0).dueOf .a sub)).getD { content := [], time := 0, sub := sub }
theorem hk_due : (reporting.begin 0).dueOf .a sub = some hkDue := by rfl

/-! Witnesses: the hypotheses of each clause can be met. -/

theorem meets_ChannelsTurnOnAndOff (h : Obligations.ChannelsTurnOnAndOff) :
    Ran (.turnOn 0 0 false true) (dual.modCtrl 0 fun x => { x with level := .on }) ∧
    Ran (.turnOn 0 0 true true) (dual.modCtrl 0 fun x => { x with level := .on }) ∧
    Ran (.turnOff 0 0) (at_ 0 on) ∧
    Ran (.decayCurrentLow 0 0 20) (at_ 0 { output := .decay }) ∧
    Ran (.decayCap 0 0 60) (at_ 0 { output := .decay, slow := true }) ∧
    Ran (.uvloFreewheelCap 0 0) ((at_ 0 { output := .decay }).modCart 0 fun x => { x with band := .uvlo }) := by
  obtain ⟨h1, h2, h3, h4, h5, h6⟩ := h
  refine ⟨ran (h1 0 0 _ ?_), ran (h2 0 0 true _ ?_), ran (h3 0 0 _ ?_), ran (h4 0 0 20 _ ?_), ran (h5 0 0 60 _ ?_), ran (h6 0 0 _ ?_)⟩ <;> decide +kernel

theorem meets_LoadChecksAndWaitsAct (h : Obligations.LoadChecksAndWaitsAct) :
    Ran (.offStateTest 0 0 3000 4000) dual ∧
    Ran (.oltestNow 0 0 2999 4000) dual ∧
    Ran (.onStateOpenLoad 0 0) ((at_ 0 { on with olSince := some 0 }).modCart 0 fun x => { x with items := [⟨0x0105, 1, 50⟩] }) ∧
    Ran (.heaterDrift 0 0 24000) ((at_ 0 { on with profile := 5, driftSince := some 0 }).modCart 0 fun x => { x with items := [⟨0x0110, 1, 300⟩] }) ∧
    Ran (.reverse 0 0 (-2001)) (at_ 0 on) ∧
    Ran (.reverseHoldEnd 0 0) (at_ 0 { revUntil := some 0 }) ∧
    Ran (.reverseFlagClear 0 0) (at_ 0 { on with reverse := true }) ∧
    Ran (.startEnd 0 0 23500) (at_ 0 { on with phase := .start }) ∧
    Ran (.restartStagger 0 0) (at_ 0 { restartAt := some 0 }) ∧
    Ran (.insertionHoldEnd 0 0) (dual.modCtrl 0 fun x => { x with insHold := some 0 }) := by
  obtain ⟨h1, h2, h3, h4, h5, h6, h7, h8, h9, h10⟩ := h
  refine ⟨ran (h1 0 0 3000 4000 _ ?_), ran (h2 0 0 2999 4000 _ ?_), ran (h3 0 0 0 _ ?_), ran (h4 0 0 24000 0 _ ?_), ran (h5 0 0 (-2001) _ ?_),
    ran (h6 0 0 0 _ ?_), ran (h7 0 0 _ ?_), ran (h8 0 0 23500 _ ?_), ran (h9 0 0 0 _ ?_), ran (h10 0 0 0 _ ?_)⟩ <;> decide +kernel

theorem meets_ProtectionsTrip (h : Obligations.ProtectionsTrip) :
    Ran (.hardShort 0 0 90000 0) dual ∧
    Ran (.limitTime 0 0) ((at_ 0 on).modProt 0 fun x => { x with limiting := true }) ∧
    Ran (.wireI2t 0 0) ((at_ 0 on).modProt 0 fun x => { x with x := 2 ^ 61 }) ∧
    Ran (.stuckOn 0 0 2000000 2100000 0) dual ∧
    Ran (.stuckOff 0 0 0 2000000 0) (at_ 0 on) ∧
    Ran (.prechargeTimeout 0 0 0) (at_ 0 { on with profile := 3, phase := .start }) ∧
    Ran (.prechargeEnergy 0 0 5001) (at_ 0 { on with profile := 3, phase := .start }) := by
  obtain ⟨h1, h2, h3, h4, h5, h6, h7⟩ := h
  refine ⟨ran (h1 0 0 90000 0 _ ?_), ran (h2 0 0 _ ?_), ran (h3 0 0 _ ?_), ran (h4 0 0 2000000 2100000 0 _ ?_), ran (h5 0 0 0 2000000 0 _ ?_),
    ran (h6 0 0 0 _ ?_), ran (h7 0 0 5001 _ ?_)⟩ <;> decide +kernel

theorem meets_RegulationAndRetriesAct (h : Obligations.RegulationAndRetriesAct) :
    Ran (.regulationEngage 0 0 200000) (at_ 0 on) ∧
    Ran (.regulationEnd 0 0 100 100000 true) ((at_ 0 on).modProt 0 fun x => { x with reg := true }) ∧
    Ran (.limitTimerReset 0 0) dual ∧
    Ran (.retryAttempt 0 0) ((dual.modProt 0 fun x => { x with trip := .tripped, tripCause := 0x10 }).modCtrl 0 fun x => { x with level := .on }) ∧
    Ran (.retryCounterReset 0 0) ((at_ 0 on).modProt 0 fun x => { x with cleanSince := some 0 }) ∧
    Ran (.protStateSave 0 0) dual ∧
    Ran (.disconnectFailed 0 0 20001) (dual.modProt 0 fun x => { x with trip := .locked, tripCause := 0x14 }) ∧
    Ran (.gateMonFault 0 0 2001) dual := by
  obtain ⟨h1, h2, h3, h4, h5, h6, h7, h8⟩ := h
  refine ⟨ran (h1 0 0 200000 _ ?_), ran (h2 0 0 100 100000 true _ ?_), ran (h3 0 0 _ ?_), ran (h4 0 0 _ ?_), ran (h5 0 0 0 _ ?_),
    ran (h6 0 0 _ ?_), ran (h7 0 0 20001 _ ?_), ran (h8 0 0 2001 _ ?_)⟩ <;> decide +kernel

theorem meets_GeneratorActs (h : Obligations.GeneratorActs) :
    Ran (.periodBoundary 0 0) (dual.modChan 0 fun x => { x with gen := { x.gen with enabled := true, pending := true, boundAt := 50 }, ctrl := { x.ctrl with source := .open } }) ∧
    Ran (.periodBoundary 0 0) ((at_ 0 pwm).modChan 0 fun x => { x with gen := { x.gen with enabled := true, act := { x.gen.act with en := true } }, ctrl := { x.ctrl with level := .pwm } }) ∧
    Ran (.pwmCompare 0 0) (gen { enabled := true, governs := true, applied := 64, edges := 1 }) ∧
    Ran (.pwmCompare 0 0) (gen { enabled := true, governs := true, applied := 64 }) ∧
    Ran (.freewheelOn 0 0 0 20 false) (gen { governs := true, applied := 64, edges := 2 } { pwm with fwd := false }) ∧
    Ran (.freewheelOn 0 0 0 20 false) ((at_ 0 { output := .freewheel }).modCtrl 0 fun x => { x with mark := 1 }) ∧
    Ran (.freewheelOffAhead 0 0 400 500) (gen { governs := true, applied := 64, edges := 2, boundAt := 800000000002000 } { pwm with fwd := false }) ∧
    Ran (.freewheelOffAhead 0 0 400 501) (gen { governs := true, applied := 64, edges := 2, boundAt := 800000000000000, fwSkips := 7 } { pwm with fwd := false }) ∧
    Ran (.freewheelLowCurrent 0 0 49) (at_ 0 { pwm with fw := true }) ∧
    Ran (.swCmpFault 0 0 1001 true) (dual.modGen 0 fun x => { x with governs := true, swCmpSince := some 0 }) ∧
    Ran (.delayLineCalibration 0 0 80) dual := by
  obtain ⟨h1, h2, h3, h4, h5, h6, h7, h8, h9, h10, h11⟩ := h
  refine ⟨ran (h1 0 0 _ ?_), ran (h2 0 0 _ ?_), ran (h3 0 0 _ ?_), ran (h4 0 0 _ ?_), ran (h5 0 0 0 20 false _ ?_),
    ran (h6 0 0 0 20 false _ ?_), ran (h7 0 0 400 500 _ ?_), ran (h8 0 0 400 501 _ ?_), ran (h9 0 0 49 _ ?_), ran (h10 0 0 1001 0 _ ?_),
    ran (h11 0 0 80 _ ?_)⟩ <;> decide +kernel

theorem meets_SessionRequests (h : Obligations.SessionRequests) :
    Ran (.ping 0 (ask [])) dual ∧
    Ran (.identify 0 (ask [])) dual ∧
    Ran (.sessionInfo 0 (ask [])) dual ∧
    Ran (.setAddress 0 (ask (be 1 1 ++ zeros 3 ++ be 4 0xC0A80C0A ++ be 4 0xC0A80C0B ++ be 4 0xC0A80C0C ++ be 4 0xFFFFFF00 ++ zeros 4))) dual ∧
    Ran (.subscribe 0 (ask (be 1 0xFF ++ be 1 4 ++ be 2 0 ++ be 2 5 ++ zeros 2 ++ be 4 0xFFFF))) dual ∧
    Ran (.unsubscribe 0 (ask (be 1 0 ++ zeros 3))) dual ∧
    Ran (.listSubs 0 (ask [])) dual := by
  obtain ⟨h1, h2, h3, h4, h5, h6, h7⟩ := h
  refine ⟨ran (h1 0 (ask []) _ ?_), ran (h2 0 (ask []) _ ?_), ran (h3 0 (ask []) _ ?_),
    ran (h4 0 (ask (be 1 1 ++ zeros 3 ++ be 4 0xC0A80C0A ++ be 4 0xC0A80C0B ++ be 4 0xC0A80C0C ++ be 4 0xFFFFFF00 ++ zeros 4)) _ ?_),
    ran (h5 0 (ask (be 1 0xFF ++ be 1 4 ++ be 2 0 ++ be 2 5 ++ zeros 2 ++ be 4 0xFFFF)) _ ?_), ran (h6 0 (ask (be 1 0 ++ zeros 3)) _ ?_),
    ran (h7 0 (ask []) _ ?_)⟩ <;> decide +kernel

theorem meets_ChannelRequests (h : Obligations.ChannelRequests) :
    Ran (.setChannel 0 (ask (be 1 1 ++ be 1 1 ++ zeros 2))) dual ∧
    Ran (.setGroup 0 { ask (be 1 1 ++ zeros 3 ++ be 1 16 ++ be 1 1 ++ be 1 0 ++ zeros 1 ++ pwmPar) with group := true }) dual ∧
    Ran (.setPwm 0 (ask (be 1 1 ++ be 1 1 ++ zeros 2 ++ pwmPar))) dual ∧
    Ran (.clearTrip 0 (ask (be 1 1 ++ zeros 3))) (dual.modProt 0 fun x => { x with trip := .locked, tripCause := 0x10 }) ∧
    Ran (.clearGlaze 0 (ask (be 1 1 ++ zeros 3))) (dual.modCtrl 0 fun x => { x with glaze := true }) ∧
    Ran (.own 0 (ask (be 2 3 ++ be 2 60 ++ zeros 4))) dual ∧
    Ran (.release 0 (ask (be 2 3 ++ zeros 2))) (dual.modMram .a fun m => { m with leases := m.leases.set 1 (some { client := 0, stop := 300000000000000 }) }) ∧
    Ran (.setLoop 0 (ask (be 1 1 ++ zeros 3 ++ be 4 12000))) (conf [⟨0x0301, 1, 9⟩]) := by
  obtain ⟨h1, h2, h3, h4, h5, h6, h7, h8⟩ := h
  refine ⟨ran (h1 0 (ask (be 1 1 ++ be 1 1 ++ zeros 2)) _ ?_),
    ran (h2 0 { ask (be 1 1 ++ zeros 3 ++ be 1 16 ++ be 1 1 ++ be 1 0 ++ zeros 1 ++ pwmPar) with group := true } _ ?_),
    ran (h3 0 (ask (be 1 1 ++ be 1 1 ++ zeros 2 ++ pwmPar)) _ ?_), ran (h4 0 (ask (be 1 1 ++ zeros 3)) _ ?_),
    ran (h5 0 (ask (be 1 1 ++ zeros 3)) _ ?_), ran (h6 0 (ask (be 2 3 ++ be 2 60 ++ zeros 4)) _ ?_),
    ran (h7 0 (ask (be 2 3 ++ zeros 2)) _ ?_), ran (h8 0 (ask (be 1 1 ++ zeros 3 ++ be 4 12000)) 0 _ ?_)⟩ <;> decide +kernel

theorem meets_ConfigRequests (h : Obligations.ConfigRequests) :
    Ran (.getConfig 0 (ask (be 1 0 ++ be 1 0 ++ be 2 0))) dual ∧
    Ran (.stageConfig 0 (ask (be 2 0x0112 ++ be 1 1 ++ be 1 2 ++ be 2 100))) dual ∧
    Ran (.commitConfig 0 (ask (be 4 5))) (dual.modMram .a fun m => { m with staging := some { holder := 0, items := [⟨0x0112, 1, 100⟩], usedAt := 200000000000000 } }) ∧
    Ran (.commitConfig 0 (ask (be 4 4))) (dual.modMram .a fun m => { m with staging := some { holder := 0, items := [⟨0x0112, 1, 100⟩], usedAt := 200000000000000 } }) ∧
    Ran (.discardConfig 0 (ask [])) (dual.modMram .a fun m => { m with staging := some { holder := 0, items := [⟨0x0112, 1, 100⟩], usedAt := 200000000000000 } }) := by
  obtain ⟨h1, h2, h3, h4, h5⟩ := h
  refine ⟨ran (h1 0 (ask (be 1 0 ++ be 1 0 ++ be 2 0)) _ ?_),
    ran (h2 0 (ask (be 2 0x0112 ++ be 1 1 ++ be 1 2 ++ be 2 100)) [⟨0x0112, 1, 100⟩] _ ⟨by decide +kernel, rfl⟩),
    ran (h3 0 (ask (be 4 5)) 6 _ ?_), ran (h4 0 (ask (be 4 4)) { status := 0x0402 } _ ?_), ran (h5 0 (ask []) _ ?_)⟩ <;> decide +kernel

theorem meets_MeasurementAndTimeRequests (h : Obligations.MeasurementAndTimeRequests) :
    Ran (.getChannel 0 (ask (be 2 0x8001 ++ zeros 2))) dual ∧
    Ran (.getTwin 0 (ask (be 1 1 ++ zeros 3))) (conf [⟨0x0201, 1, 1⟩]) ∧
    Ran (.latchMeas 0 (ask (be 8 200000050000000))) locked ∧
    Ran (.latchRead 0 (ask [])) (onA fun x => { x with latched := some 100 }) ∧
    Ran (.getTrigger 0 (ask (be 1 1 ++ be 1 1 ++ zeros 2))) dual ∧
    Ran (.getEnergy 0 (ask [])) dual ∧
    Ran (.getHk 0 (ask [])) dual ∧
    Ran (.getAlarms 0 (ask (zeros 4))) dual ∧
    Ran (.getPortStats 0 (ask (be 1 1 ++ zeros 3))) dual ∧
    Ran (.getTime 0 (ask [])) dual ∧
    Ran (.getGnss 0 (ask [])) dual ∧
    Ran (.getGnssMeas 0 (ask (be 1 1 ++ zeros 3))) dual ∧
    Ran (.snapCapture 0 (ask (be 1 4 ++ be 1 3 ++ zeros 2 ++ be 8 0))) locked ∧
    Ran (.snapRead 0 (ask (be 2 7 ++ zeros 2 ++ be 4 0 ++ be 2 64 ++ zeros 2))) (dual.modGnss .a fun x => { x with snapHeld := some snap }) := by
  obtain ⟨h1, h2, h3, h4, h5, h6, h7, h8, h9, h10, h11, h12, h13, h14⟩ := h
  refine ⟨ran (h1 0 (ask (be 2 0x8001 ++ zeros 2)) _ ?_), ran (h2 0 (ask (be 1 1 ++ zeros 3)) _ ?_),
    ran (h3 0 (ask (be 8 200000050000000)) _ ?_), ran (h4 0 (ask []) 100 _ ?_), ran (h5 0 (ask (be 1 1 ++ be 1 1 ++ zeros 2)) 0 _ ?_),
    ran (h6 0 (ask []) _ ?_), ran (h7 0 (ask []) _ ?_), ran (h8 0 (ask (zeros 4)) _ ?_), ran (h9 0 (ask (be 1 1 ++ zeros 3)) _ ?_),
    ran (h10 0 (ask []) _ ?_), ran (h11 0 (ask []) _ ?_), ran (h12 0 (ask (be 1 1 ++ zeros 3)) _ ?_),
    ran (h13 0 (ask (be 1 4 ++ be 1 3 ++ zeros 2 ++ be 8 0)) _ ?_),
    ran (h14 0 (ask (be 2 7 ++ zeros 2 ++ be 4 0 ++ be 2 64 ++ zeros 2)) snap _ ?_)⟩ <;> decide +kernel

theorem meets_LogRequests (h : Obligations.LogRequests) :
    Ran (.logRead 0 (ask (be 4 0 ++ be 1 1 ++ zeros 3 ++ be 4 2))) (dual.modMram .a fun m => { m with log := { m.log with recs := [dual.record .a 0x0101 0 0x0A 1 (zeros 33)] } }) ∧
    Ran (.logFind 0 (ask (be 8 0))) dual ∧
    Ran (.logMark 0 (ask (be 5 0x4142434445 ++ zeros 27))) dual ∧
    Ran (.logStatus 0 (ask [])) dual ∧
    Ran (.coneRead 0 (ask (be 4 0 ++ be 1 1 ++ zeros 3))) dual ∧
    Ran (.coneStatus 0 (ask [])) dual ∧
    Ran (.coneClear 0 (ask (be 4 0))) ({ dual with s50 := true }) := by
  obtain ⟨h1, h2, h3, h4, h5, h6, h7⟩ := h
  refine ⟨ran (h1 0 (ask (be 4 0 ++ be 1 1 ++ zeros 3 ++ be 4 2)) _ ?_), ran (h2 0 (ask (be 8 0)) _ ?_),
    ran (h3 0 (ask (be 5 0x4142434445 ++ zeros 27)) _ ?_), ran (h4 0 (ask []) _ ?_), ran (h5 0 (ask (be 4 0 ++ be 1 1 ++ zeros 3)) _ ?_),
    ran (h6 0 (ask []) _ ?_), ran (h7 0 (ask (be 4 0)) _ ?_)⟩ <;> decide +kernel

theorem meets_ExpansionPairAndRegisterRequests (h : Obligations.ExpansionPairAndRegisterRequests) :
    Ran (.winRead 0 (ask (be 4 0 ++ be 2 4 ++ zeros 2))) win ∧
    Ran (.winWrite 0 (ask (be 4 0 ++ be 2 1 ++ zeros 2 ++ be 1 7))) win ∧
    Ran (.winErase 0 (ask (be 4 0 ++ be 1 0 ++ zeros 3))) win ∧
    Ran (.spiXfer 0 (ask (be 1 1 ++ be 1 8 ++ be 1 1 ++ zeros 1 ++ be 4 0x9F))) win ∧
    Ran (.pairStatus 0 (ask [])) dual ∧
    Ran (.roleSwap 0 (ask [])) dual ∧
    Ran (.resolveSplit 0 { ask (be 1 0x0A ++ zeros 3) with toUnit := false }) ({ dual with ctlA := { runs .hold with cause := 2 }, ctlB := { runs .hold with cause := 2 } }) ∧
    Ran (.regRead 0 (ask (be 4 0 ++ be 1 1 ++ zeros 3))) dual ∧
    Ran (.regWrite 0 (ask (be 4 0xD0 ++ be 4 1 ++ be 4 0))) dual := by
  obtain ⟨h1, h2, h3, h4, h5, h6, h7, h8, h9⟩ := h
  refine ⟨ran (h1 0 (ask (be 4 0 ++ be 2 4 ++ zeros 2)) _ ?_), ran (h2 0 (ask (be 4 0 ++ be 2 1 ++ zeros 2 ++ be 1 7)) _ ?_),
    ran (h3 0 (ask (be 4 0 ++ be 1 0 ++ zeros 3)) _ ?_), ran (h4 0 (ask (be 1 1 ++ be 1 8 ++ be 1 1 ++ zeros 1 ++ be 4 0x9F)) _ ?_),
    ran (h5 0 (ask []) _ ?_), ran (h6 0 (ask []) _ ?_), ran (h7 0 { ask (be 1 0x0A ++ zeros 3) with toUnit := false } .a _ ?_),
    ran (h8 0 (ask (be 4 0 ++ be 1 1 ++ zeros 3)) _ ?_), ran (h9 0 (ask (be 4 0xD0 ++ be 4 1 ++ be 4 0)) (.ctrl 0xD0) _ ?_)⟩ <;> decide +kernel

theorem meets_FirmwareAndKeyRequests (h : Obligations.FirmwareAndKeyRequests) (sig : Signed) :
    Ran (.fwBegin 0 (ask (be 1 0x0A ++ zeros 3 ++ be 4 0x43564B46 ++ be 2 1 ++ zeros 6 ++ be 4 4 ++ zeros 4 ++ be 4 2 ++ zeros 104))) dual ∧
    Ran (.fwData 0 (ask (be 4 0 ++ be 2 4 ++ zeros 2 ++ be 4 1))) loading ∧
    Ran (.fwCommit 0 (ask [])) loaded ∧
    Ran (.fwRestart 0 (ask (be 1 0x0B ++ zeros 3))) dual ∧
    Ran (.fwRestart 0 (ask (be 1 0x0A ++ zeros 3))) dual ∧
    Ran (.fwStatus 0 (ask (be 1 0x0A ++ zeros 3))) dual ∧
    Ran (.keyLoad 0 (ask (be 1 1 ++ zeros 3 ++ wrapped))) keyed ∧
    Ran (.keyClear 0 (ask (be 1 1 ++ zeros 3))) keyed ∧
    Ran (.signRevoke 0 (ask (be 1 1 ++ zeros 3))) ({ dual with s50 := true }) := by
  obtain ⟨h1, h2, h3, h4, h5, h6, h7, h8, h9⟩ := h
  refine ⟨ran (h1 0 (ask (be 1 0x0A ++ zeros 3 ++ be 4 0x43564B46 ++ be 2 1 ++ zeros 6 ++ be 4 4 ++ zeros 4 ++ be 4 2 ++ zeros 104)) .a _ ?_),
    ran (h2 0 (ask (be 4 0 ++ be 2 4 ++ zeros 2 ++ be 4 1)) .a transfer _ ?_),
    ran (h3 0 (ask []) .a whole _ ⟨commit_passes sig, by decide +kernel, by decide +kernel⟩),
    ran (h4 0 (ask (be 1 0x0B ++ zeros 3)) .b _ ?_), ran (h5 0 (ask (be 1 0x0A ++ zeros 3)) .a _ ?_),
    ran (h6 0 (ask (be 1 0x0A ++ zeros 3)) .a _ ?_), ran (h7 0 (ask (be 1 1 ++ zeros 3 ++ wrapped)) plainKey _ ?_),
    ran (h8 0 (ask (be 1 1 ++ zeros 3)) _ ?_), ran (h9 0 (ask (be 1 1 ++ zeros 3)) _ ?_)⟩ <;> decide +kernel

theorem meets_PowerBusBands (h : Obligations.PowerBusBands) :
    Ran (.powerBusBand 0 0 6000) (at_ 0 on) ∧
    Ran (.powerBusBand 0 0 5999) (at_ 0 on) ∧
    Ran (.powerBusBand 0 0 33000) (at_ 0 on) ∧
    Ran (.ovOff 0 0) ((at_ 0 on).modCart 0 fun x => { x with band := .high }) ∧
    Ran (.ovOffExit 0 0) ((dual.modCart 0 fun x => { x with ovOff := true, ovSince := some 0 }).modCtrl 0 fun x => { x with level := .on }) := by
  obtain ⟨h1, h2, h3, h4, h5⟩ := h
  refine ⟨ran (h1 0 0 6000 _ ?_), ran (h2 0 0 5999 _ ?_), ran (h3 0 0 33000 _ ?_), ran (h4 0 0 _ ?_), ran (h5 0 0 0 _ ?_)⟩ <;> decide +kernel

theorem meets_CartridgeStartsAndExpires (h : Obligations.CartridgeStartsAndExpires) :
    Ran (.cartridgeStart 0 0 11000 []) (dual.modCart 0 fun x => { x with band := .dark, holder := none }) ∧
    Ran (.cartHoldExpiry 0 0) dual := by
  obtain ⟨h1, h2⟩ := h
  refine ⟨ran (h1 0 0 11000 [] _ ?_), ran (h2 0 0 _ ?_)⟩ <;> decide +kernel

theorem meets_LinesAreClassified (h : Obligations.LinesAreClassified) :
    Ran (.lineSample 0 (.cart 0) 9 2500 5000) dual ∧
    Ran (.lineSample 0 (.cart 0) 9 2500 5000) (dual.modCart 0 fun x => { x with flt := setV x.flt 1 { line := { raw := 1, run := 3 } } }) ∧
    Ran (.lineSample 0 (.ctrl .b) 0 149 1000) dual ∧
    Ran (.contactChange 0 (.cart 0) 9) (dual.modCart 0 fun x => { x with flt := setV x.flt 1 { line := { raw := 1, run := 10 } } }) ∧
    Ran (.lineState 0 (.ctrl .a) 0) (dual.modCtl .a fun x => { x with lines := setV x.lines 0 { raw := 3, run := 50 } }) ∧
    Ran (.lineState 0 (.cart 0) 0) (dual.modCart 0 fun x => { x with lh := setV x.lh 0 { raw := 1, run := 500, contacts := 500, fault := some 3 } }) := by
  obtain ⟨h1, h2, h3, h4, h5, h6⟩ := h
  refine ⟨ran (h1 0 0 9 2500 5000 _ ?_), ran (h2 0 0 9 2500 5000 _ ?_), ran (h3 0 .b 0 149 1000 _ ?_), ran (h4 0 (.cart 0) 9 _ ?_),
    ran (h5 0 (.ctrl .a) 0 _ ?_), ran (h6 0 (.cart 0) 0 3 _ ?_)⟩ <;> decide +kernel

theorem meets_FaultInputsAct (h : Obligations.FaultInputsAct) :
    Ran (.fltAssert 0 0 0 549 100) (dual.modCart 0 fun x => { x with items := [⟨0x011E, 1, 1⟩, ⟨0x011E, 2, 2⟩, ⟨0x011F, 1, 1⟩] }) ∧
    Ran (.fltRelease 0 0 0 601 1000000) (dual.modCart 0 fun x => { x with flt := setV x.flt 0 { asserted := true }, items := [⟨0x011E, 2, 2⟩] }) := by
  obtain ⟨h1, h2⟩ := h
  refine ⟨ran (h1 0 0 0 549 100 _ ?_), ran (h2 0 0 0 601 1000000 _ ?_)⟩ <;> decide +kernel

theorem meets_DemandsAndHandovers (h : Obligations.DemandsAndHandovers) :
    Ran (.limpDemand 0 0) (dual.modCart 0 fun x => { x with holder := none }) ∧
    Ran (.soakEnd 0 0) (dual.modCtrl 0 fun x => { x with hand := .soak }) ∧
    Ran (.soakEnd 0 0) (dual.modChan 0 fun x => { x with set := { level := .on }, ctrl := { x.ctrl with hand := .soak, rampNs := 1000, level := .pwm } }) ∧
    Ran (.handoverRampEnd 0 0) (dual.modCtrl 0 fun x => { x with hand := .ramp, ramp := some { start := 0, stop := 1, duty0 := 0, duty1 := 0 } }) := by
  obtain ⟨h1, h2, h3, h4⟩ := h
  refine ⟨ran (h1 0 0 _ ?_), ran (h2 0 0 _ ?_), ran (h3 0 0 _ ?_), ran (h4 0 0 { start := 0, stop := 1, duty0 := 0, duty1 := 0 } _ ?_)⟩ <;> decide +kernel

theorem meets_FramesCarry (h : Obligations.FramesCarry) :
    Ran (.frameSlot 0 .a) dual ∧
    Ran (.setpointFrame 0 .a 0 true) (sent .a (frame .a (dual.now + 1))) ∧
    Ran (.setpointFrame 0 .a 0 true) (sent .a (frame .a dual.now)) ∧
    Ran (.setpointFrame 0 .b 0 true) (sent .b (frame .b dual.now)) ∧
    Ran (.setpointFrame 0 .a 0 false) (sent .a (frame .a dual.now)) ∧
    Ran (.scheduleArm 0 9) (tx { done with sched := true, time := 200000050000000 }) ∧
    Ran (.armedApply 0 0) (dual.modCart 0 fun x => { x with armed := [{ jsn := 9, time := 0, sets := [(3, some .on, none)] }] }) ∧
    Ran (.scheduleUnarmedApply 0 9) (tx { done with sched := true, time := 200000000000000, mask := Vector.replicate 4 true }) ∧
    Ran (.scheduledSetLoop 0 9) (tx { done with sched := true, time := 1, changes := [.loop 0 12000] } (conf [⟨0x0301, 1, 9⟩])) ∧
    Ran (.notApplied 0 9) (tx { done with client := 3, seq := 1, req := some (ask []), frameAt := some 0 }) := by
  obtain ⟨h1, h2, h3, h4, h5, h6, h7, h8, h9, h10⟩ := h
  refine ⟨ran (h1 0 .a _ ?_), ran (h2 0 .a 0 true (frame .a (dual.now + 1)) [] _ ?_), ran (h3 0 .a 0 (frame .a dual.now) [] _ ?_),
    ran (h4 0 .b 0 (frame .b dual.now) [] _ ?_), ran (h5 0 .a 0 (frame .a dual.now) [] _ ?_),
    ran (h6 0 9 .a { done with sched := true, time := 200000050000000 } _ ?_),
    ran (h7 0 0 { jsn := 9, time := 0, sets := [(3, some .on, none)] } _ ?_),
    ran (h8 0 9 .a { done with sched := true, time := 200000000000000, mask := Vector.replicate 4 true } _ ?_),
    ran (h9 0 9 .a { done with sched := true, time := 1, changes := [.loop 0 12000] } 0 12000 _ ?_),
    ran (h10 0 9 .a { done with client := 3, seq := 1, req := some (ask []), frameAt := some 0 } 0 _ ?_)⟩ <;> decide +kernel

theorem meets_AveragesAndLatches (h : Obligations.AveragesAndLatches) :
    Ran (.averageIntervalEnd 0 0 0 (List.replicate 20 {}) 0) dual ∧
    Ran (.averageIntervalEnd 0 0 1 [] 0) dual ∧
    Ran (.averageIntervalEnd 0 0 2 [] 0) dual ∧
    Ran (.latchInstant 0 0 (Vector.replicate 4 {})) (dual.modCart 0 fun x => { x with latchAt := some 0 }) ∧
    Ran (.latchComplete 0) (dual.modCtl .a fun x => { x with latchAt := some 0 }) ∧
    Ran (.energySave 0 0) dual := by
  obtain ⟨h1, h2, h3, h4, h5, h6⟩ := h
  refine ⟨ran (h1 0 0 (List.replicate 20 {}) 0 _ ?_), ran (h2 0 0 [] 0 _ ?_), ran (h3 0 0 [] 0 _ ?_),
    ran (h4 0 0 (Vector.replicate 4 {}) 0 _ ?_), ran (h5 0 .a 0 _ ?_), ran (h6 0 0 _ ?_)⟩ <;> decide +kernel

theorem meets_VisitsCalibrate (h : Obligations.VisitsCalibrate) :
    Ran (.visitStart 0 0 0) (dual.modCart 0 fun x => { x with holder := none }) ∧
    Ran (.visitEnd 0 0) (visiting.modMeas 1 fun x => { x with p1 := { x.p1 with half1 := whole1, half2 := whole1 } }) ∧
    Ran (.visitAbandoned 0 0 true) visiting ∧
    Ran (.offsetLearn 0 0) (dual.modMeas 0 fun x => { x with offSum := { n := 4, s1 := 500, s2 := 600 } }) := by
  obtain ⟨h1, h2, h3, h4⟩ := h
  refine ⟨ran (h1 0 0 0 _ ?_), ran (h2 0 0 1 _ ?_), ran (h3 0 0 1 true _ ?_), ran (h4 0 0 _ ?_)⟩ <;> decide +kernel

theorem meets_PathsAreCompared (h : Obligations.PathsAreCompared) :
    Ran (.pathComparison 0 0) (means 20000000 0) ∧
    Ran (.pathComparison 0 0) (means 20000000 20000000) ∧
    Ran (.crazingClear 0 0) (dual.modMeas 0 fun x => { x with crazing := true, agreeSince := some 0, p1 := { x.p1 with visitOk := true, visitAt := some 1 }, p2 := { x.p2 with visitOk := true, visitAt := some 1 } }) ∧
    Ran (.pathFail 0 0 false true) (dual.modMeas 0 fun x => { x with i2 := some 89999999 }) ∧
    Ran (.pathFail 0 0 true true) (dual.modMeas 0 fun x => { x with i1 := some 90000000 }) := by
  obtain ⟨h1, h2, h3, h4, h5⟩ := h
  refine ⟨ran (h1 0 0 _ ⟨?_, ⟨.a, rfl⟩, ?_⟩), ran (h2 0 0 _ ⟨?_, ⟨.a, rfl⟩, ?_⟩), ran (h3 0 0 0 _ ?_), ran (h4 0 0 _ ?_), ran (h5 0 0 _ ?_)⟩ <;> decide +kernel

theorem meets_TriggersAndWindows (h : Obligations.TriggersAndWindows) :
    Ran (.triggerFire 0 0 false 1000 2000) ticking ∧
    Ran (.triggerFire 0 0 true 1000 2000) ticking ∧
    Ran (.triggerFire 0 0 true 1000 2000) dual ∧
    Ran (.blankWindowStart 0 0 1 2 3) (dual.modCart 0 fun x => { x with at_ := setV x.at_ 1 { sel := 2 ^ 31 + 5 * 2 ^ 16 + 14 } }) ∧
    Ran (.blankWindowEnd 0 0 1) (dual.modCart 0 fun x => { x with at_ := setV x.at_ 1 { until_ := some 0 } }) ∧
    Ran (.voltageCalibration 0 0 8 10000010) dual := by
  obtain ⟨h1, h2, h3, h4, h5, h6⟩ := h
  refine ⟨ran (h1 0 0 1000 2000 _ ?_), ran (h2 0 0 1000 2000 _ ?_), ran (h3 0 0 true 1000 2000 _ ?_), ran (h4 0 0 1 2 3 _ ?_),
    ran (h5 0 0 1 0 _ ?_), ran (h6 0 0 8 10000010 _ ?_)⟩ <;> decide +kernel

theorem meets_SharingLoopTrims (h : Obligations.SharingLoopTrims) :
    Ran (.sharingLoop 0 0 0) (conf [⟨0x0201, 1, 1⟩]) ∧
    Ran (.sharingLoop 0 0 0) sharing ∧
    Ran (.sharingLoop 0 0 0) sharing ∧
    Ran (.twinUnbalanced 0 0) ((conf [⟨0x0201, 1, 1⟩]).modTwin 0 fun x => { x with unbalSince := some 0 }) := by
  obtain ⟨h1, h2, h3, h4⟩ := h
  refine ⟨ran (h1 0 0 0 .a _ ?_), ran (h2 0 0 0 .a _ ?_), ran (h3 0 0 0 .a _ ?_), ran (h4 0 0 .a 0 _ ?_)⟩ <;> decide +kernel

theorem meets_WithdrawalAndReturn (h : Obligations.WithdrawalAndReturn) :
    Ran (.leverOpen 0 0) (at_ 0 on) ∧
    Ran (.left 0 0) (dual.modCart 0 fun x => { x with lever := true, removing := true }) ∧
    Ran (.slotLeft 0 0) (dual.modCart 0 fun x => { x with lever := true, removing := true, left := true }) ∧
    Ran (.slotLost 0 0) (at_ 0 on) ∧
    Ran (.leverClose 0 0) (dual.modCart 0 fun x => { x with lever := true, removing := true }) ∧
    Ran (.twinJoin 0 0) ((at_ 4 on).modCtrl 0 fun x => { x with joinWait := true, mark := 1 }) := by
  obtain ⟨h1, h2, h3, h4, h5, h6⟩ := h
  refine ⟨ran (h1 0 0 _ ?_), ran (h2 0 0 _ ?_), ran (h3 0 0 _ ?_), ran (h4 0 0 _ ?_), ran (h5 0 0 _ ?_), ran (h6 0 0 _ ?_)⟩ <;> decide +kernel

theorem meets_HousekeepingReads (h : Obligations.HousekeepingReads) :
    Ran (.housekeepingRound 0 {}) dual ∧
    Ran (.housekeepingRound 0 round) dual ∧
    Ran (.housekeepingRound 0 {}) dual ∧
    Ran (.fanTrayTimeout 0) (dual.modCool fun x => { x with driveAt := some 0 }) := by
  obtain ⟨h1, h2, h3, h4⟩ := h
  refine ⟨ran (h1 0 {} _ trivial), ran (h2 0 round 0 _ ?_), ran (h3 0 {} .a _ ?_), ran (h4 0 _ ⟨?_, fun _ h => Option.some.inj h ▸ ?_⟩)⟩ <;> decide +kernel

theorem meets_SheddingAndDerating (h : Obligations.SheddingAndDerating) :
    Ran (.shed 0) (above solo) ∧
    Ran (.shed 0) above ∧
    Ran (.shed 0) dual ∧
    Ran (.shedResume 0) (dual.modCool fun x => { x with shedResume := some 0 }) ∧
    Ran (.chDerateExceeded 0 0) ((dual.modMram .a fun m => { m with items := [⟨0x0801, 0, 20⟩] }).modCool fun x => { x with overSince := x.overSince.set 0 (some 199985000000000) }) ∧
    Ran (.chDerateExceeded 0 15) (above.modCool fun x => { x with unitOver := none, overSince := x.overSince.set 15 (some 0) }) ∧
    Ran (.derateStep 0) dual := by
  obtain ⟨h1, h2, h3, h4, h5, h6, h7⟩ := h
  refine ⟨ran (h1 0 .a 15 _ ?_), ran (h2 0 .a 15 _ ?_), ran (h3 0 .a _ ?_), ran (h4 0 0 _ ?_), ran (h5 0 0 .a 199985000000000 _ ?_),
    ran (h6 0 15 .a 0 _ ?_), ran (h7 0 .a _ ?_)⟩ <;> decide +kernel

theorem meets_FansAndDieShutdownsAct (h : Obligations.FansAndDieShutdownsAct) :
    Ran (.fanStartCheck 0 0 300) (fan .starting) ∧
    Ran (.fanStartCheck 0 0 0) (fan .pause) ∧
    Ran (.fanTachFault 0 0 0 60) (fan .running) ∧
    Ran (.fanTachRecovery 0 0 300) (fan .tachLost) ∧
    Ran (.fanRetry 0 0) (fan .blocked) ∧
    Ran (.fanTrayPresence 0 false) dual ∧
    Ran (.fanTrayPresence 0 true) (dual.modCool fun x => { x with tray := false }) ∧
    Ran (.dieThermalShutdown 0 0 false 1700) (at_ 0 on) ∧
    Ran (.dieThermalShutdown 0 0 true 1700) ((at_ 0 on).modCart 0 fun x => { x with cone := List.replicate 16 {} }) ∧
    Ran (.dieThermalExit 0 0 false 1499) (dual.modProt 0 fun x => { x with dieFwd := true }) ∧
    Ran (.coneCollect 0 0) (dual.modCart 0 fun x => { x with cone := [{ die := 1, channel := 2 }] }) := by
  obtain ⟨h1, h2, h3, h4, h5, h6, h7, h8, h9, h10, h11⟩ := h
  refine ⟨ran (h1 0 0 300 .a _ ?_), ran (h2 0 0 0 .a _ ?_), ran (h3 0 0 0 60 .a 0 _ ?_), ran (h4 0 0 300 .a 0 _ ?_), ran (h5 0 0 .a _ ?_),
    ran (h6 0 .a _ ?_), ran (h7 0 _ ?_), ran (h8 0 0 1700 _ ?_), ran (h9 0 0 1700 _ ?_), ran (h10 0 0 1499 _ ?_),
    ran (h11 0 0 .a { die := 1, channel := 2 } _ ?_)⟩ <;> decide +kernel

theorem meets_SuppliesAct (h : Obligations.SuppliesAct) :
    Ran (.logicInputState 0 .a 1 14499) dual ∧
    Ran (.logicRailDipOnset 0 .a 15999 1000) dual ∧
    Ran (.logicDip 0 .a 17000) (dipped 199999985000000) ∧
    Ran (.powerFail 0 .a) (dipped 199999984999999) ∧
    Ran (.powerFail 0 .a) ((dipped 0).modCtl .a fun x => { x with role := .booting }) ∧
    Ran (.holdupExhausted 0 .a 3) (dipped 0) ∧
    Ran (.holdupCharged 0 .a) dual ∧
    Ran (.holdupPrediction 0 .a 44) dual ∧
    Ran (.cellInserted 0 .a) dual ∧
    Ran (.cellQualificationEnd 0 .a 20900 1500) (cell .qualifying) ∧
    Ran (.prechargeDone 0 .a 1499) (cell .precharge) ∧
    Ran (.cellRemoved 0 .a) (cell .qualified) ∧
    Ran (.cellLoadTest 0 .a 2100 150) (cell .qualified) ∧
    Ran (.chargerControl 0 .a 2800 1000) ((cell .qualified).modSup .a fun x => { x with charge := .constCurrent, loadAt := 200000000000000 }) ∧
    Ran (.chargerControl 0 .a 2800 1000) ((cell .qualified).modSup .a fun x => { x with loadAt := 113600000000000 }) ∧
    Ran (.chargerFault 0 .a 2951) (cell .qualified) ∧
    Ran (.ctrlTsd 0 .a 1350) dual := by
  obtain ⟨h1, h2, h3, h4, h5, h6, h7, h8, h9, h10, h11, h12, h13, h14, h15, h16, h17⟩ := h
  refine ⟨ran (h1 0 .a 1 14499 _ ?_), ran (h2 0 .a 15999 1000 _ ?_), ran (h3 0 .a 17000 199999985000000 _ ?_),
    ran (h4 0 .a 199999984999999 _ ?_), ran (h5 0 .a 0 _ ?_), ran (h6 0 .a 3 0 _ ?_), ran (h7 0 .a _ ?_),
    ran (h8 0 .a 44 _ ⟨?_, ?_, fun _ h => nomatch h⟩), ran (h9 0 .a _ ?_), ran (h10 0 .a 20900 1500 _ ?_), ran (h11 0 .a 1499 _ ?_),
    ran (h12 0 .a _ ?_), ran (h13 0 .a 2100 150 _ ?_), ran (h14 0 .a 2800 1000 _ ?_), ran (h15 0 .a 2800 1000 _ ?_),
    ran (h16 0 .a 2951 _ ?_), ran (h17 0 .a 1350 _ ?_)⟩ <;> decide +kernel

theorem meets_LoopOutputsAct (h : Obligations.LoopOutputsAct) :
    Ran (.loopUpdate 0 0) (stage {} ((conf [⟨0x0301, 1, 9⟩, ⟨0x0306, 1, 1⟩]).modCtl .a fun x => { x with take := true })) ∧
    Ran (.take 0 .a) ({ dual with loops := Vector.replicate 4 { stages := #v[{}, { live := true, cmd := 12000 }] } }) ∧
    Ran (.loopStageTimeout 0 .a 0) (stage { cmd := 12000, sink := 12000 }) ∧
    Ran (.compliance 0 .a 0 11949 999) (stage { cmd := 12000, shortSince := some 0 }) ∧
    Ran (.compliance 0 .a 0 11950 8500) (stage { cmd := 12000, shortSince := some 0, compl := .lowSupply } (conf [⟨0x0305, 1, 0⟩])) ∧
    Ran (.compliance 0 .a 0 11499 8501) (stage { cmd := 12000, faultSince := some 0 }) ∧
    Ran (.loopProbe 0 0 23104 23079) (stage { cmd := 14240, compl := .lowSupply, probes := 9 } (conf [⟨0x0305, 1, 1⟩])) ∧
    Ran (.loopHostTmo 0 0) (conf [⟨0x0301, 1, 9⟩, ⟨0x0307, 1, 10⟩]) := by
  obtain ⟨h1, h2, h3, h4, h5, h6, h7, h8⟩ := h
  refine ⟨ran (h1 0 0 .a _ ?_), ran (h2 0 .a _ ?_), ran (h3 0 .a 0 _ ?_), ran (h4 0 .a 0 11949 999 0 _ ?_), ran (h5 0 .a 0 11950 8500 0 _ ?_),
    ran (h6 0 .a 0 11499 8501 0 _ ?_), ran (h7 0 0 23104 23079 .a _ ?_), ran (h8 0 0 .a _ ?_)⟩ <;> decide +kernel

theorem meets_SpeedInputsAct (h : Obligations.SpeedInputsAct) :
    Ran (.tachEdge 0 0) dual ∧
    Ran (.tachEvaluation 0 0) (tach { st := .running, lowSince := some 0 }) ∧
    Ran (.tachSpinupEnd 0 0) (tach { st := .spinup, sigCnt := 1, sigSum := 5000 }) ∧
    Ran (.tachStall 0 0) (tach { st := .stalled }) ∧
    Ran (.tachStall 0 0) (tach { st := .stalled } solo) ∧
    Ran (.tachOverrange 0 0 false) (tach { above := true, rangeSince := some 0 }) := by
  obtain ⟨h1, h2, h3, h4, h5, h6⟩ := h
  refine ⟨ran (h1 0 0 .a _ ?_), ran (h2 0 0 .a _ ?_), ran (h3 0 0 _ ?_), ran (h4 0 0 .a 0 _ ?_), ran (h5 0 0 .a 0 _ ?_),
    ran (h6 0 0 false .a 0 _ ?_)⟩ <;> decide +kernel

theorem meets_PortsAndAddressesAct (h : Obligations.PortsAndAddressesAct) :
    Ran (.plcaBeacon 0 .a .a true) net ∧
    Ran (.plcaBeacon 0 .a .a false) net ∧
    Ran (.beaconLoss 0 .a .a) (net { up with beacon := true }) ∧
    Ran (.plcaDegradedClear 0 .a .a) (net { up with degraded := true }) ∧
    Ran (.busCollisions 0 .a .a 101) (net { up with collSince := some 0 }) ∧
    Ran (.rxFcs 0 .a .a) net ∧
    Ran (.portQuiet 0 .a .a) net ∧
    Ran (.portDown 0 .a .a false) net ∧
    Ran (.portUp 0 .a .a) (net { up with st := .down, upSince := some 0 }) ∧
    Ran (.strangerTrafficClear 0 .a .a) (net { up with stranger := true }) ∧
    Ran (.dupEntryExpiry 0 .a) dual ∧
    Ran (.arpFrame 0 .a .a 1 5 0xC0A80A64 0xC0A80A0B) net ∧
    Ran (.arpFrame 0 .a .a 2 5 0xC0A80A64 0xC0A80A0B) net ∧
    Ran (.arpFrame 0 .a .a 1 otherMac 0xC0A80A0A 0) net ∧
    Ran (.arpRetry 0 .a .a 9) (net { up with waits := [{ ip := 9, tries := 3, at_ := 0, wait := .pps .a, len := 0 }] }) ∧
    Ran (.arpEntryExpiry 0 .a .a) net ∧
    Ran (.gratuitousArp 0 .a .a) (net { up with garp := [0] }) ∧
    Ran (.addrConflictCleared 0 .a .a) (net { up with conflict := some 0 }) ∧
    Ran (.icmpEchoRequest 0 .a .a 0xC0A80A64 0xC0A80A0A 7 [1]) net ∧
    Ran (.addressChangeEffect 0 .a) (net.modCtl .a fun x => { x with addrDue := [(.a, { ({} : Plug).addrA with unit := 1 }, 0)] }) := by
  obtain ⟨h1, h2, h3, h4, h5, h6, h7, h8, h9, h10, h11, h12, h13, h14, h15, h16, h17, h18, h19, h20⟩ := h
  refine ⟨ran (h1 0 .a .a _ ?_), ran (h2 0 .a .a _ ?_), ran (h3 0 .a .a _ ?_), ran (h4 0 .a .a _ ?_), ran (h5 0 .a .a 101 0 _ ?_),
    ran (h6 0 .a .a _ ?_), ran (h7 0 .a .a 199999000000000 _ ?_), ran (h8 0 .a .a false 199999000000000 _ ?_),
    ran (h9 0 .a .a 0 199999000000000 _ ?_), ran (h10 0 .a .a _ ?_), ran (h11 0 .a _ trivial),
    ran (h12 0 .a .a 5 0xC0A80A64 0xC0A80A0B ({} : Plug).addrA _ ?_), ran (h13 0 .a .a 5 0xC0A80A64 0xC0A80A0B ({} : Plug).addrA _ ?_),
    ran (h14 0 .a .a 1 otherMac 0xC0A80A0A 0 ({} : Plug).addrA _ ⟨?_, rfl, rfl, other_unit, ?_⟩),
    ran (h15 0 .a .a 9 { ip := 9, tries := 3, at_ := 0, wait := .pps .a, len := 0 } _ ?_), ran (h16 0 .a .a _ trivial),
    ran (h17 0 .a .a ({} : Plug).addrA 0 _ ?_), ran (h18 0 .a .a 0 _ ?_),
    ran (h19 0 .a .a 0xC0A80A64 0xC0A80A0A 7 [1] ({} : Plug).addrA { ip := 0xC0A80A64, mac := 1, at_ := 200000000000000, used := 200000000000000 } _ ?_),
    ran (h20 0 .a .a { ({} : Plug).addrA with unit := 1 } 0 (({} : Plug).addrA, ({} : Plug).addrB) _ ?_)⟩ <;> decide +kernel

theorem meets_DatagramsAreChecked (h : Obligations.DatagramsAreChecked) :
    Ran (.syaskegDatagram 0 .a .a ⟨0xC0A80A64, 50000⟩ 0xC0A80A0C []) net ∧
    Ran (.syaskegDatagram 0 .a .a ⟨0xC0A80A64, 50000⟩ 0xC0A80A0A [1]) net ∧
    Ran (.syaskegDatagram 0 .a .a ⟨0xC0A80A64, 50000⟩ 0xC0A80A0A pingData) (keyed net) ∧
    Ran (.syaskegDatagram 0 .a .a ⟨0xC0A80A64, 50000⟩ 0xC0A80A0A pingData) (keyed net) ∧
    Ran (.ipv4Datagram 0 .a .a 1 [1]) net ∧
    Ran (.ipv4Datagram 0 .a .a otherMac udpData) net ∧
    Ran (.x50Transfer 0 .a [1]) ({ dual with x50 := { cable := true, ctl := some .a } }) ∧
    Ran (.x50Transfer 0 .a pingData) (keyed { dual with x50 := { cable := true, ctl := some .a } }) := by
  obtain ⟨h1, h2, h3, h4, h5, h6, h7, h8⟩ := h
  refine ⟨ran (h1 0 .a .a ⟨0xC0A80A64, 50000⟩ 0xC0A80A0C [] _ ?_), ran (h2 0 .a .a ⟨0xC0A80A64, 50000⟩ 0xC0A80A0A [1] _ ?_),
    ran (h3 0 .a .a ⟨0xC0A80A64, 50000⟩ 0xC0A80A0A pingData pingIn _ ?_),
    ran (h4 0 .a .a ⟨0xC0A80A64, 50000⟩ 0xC0A80A0A pingData pingIn { gen := 1, st := .current, key := kek } ({} : Plug).addrA _ ?_),
    ran (h5 0 .a .a 1 [1] _ ?_), ran (h6 0 .a .a otherMac udpData _ ⟨?_, ?_, ?_, other_unit, other_phy .a, other_phy .b, ?_⟩),
    ran (h7 0 .a [1] _ ?_), ran (h8 0 .a pingData pingIn { gen := 1, st := .current, key := kek } _ ?_)⟩ <;> decide +kernel

theorem meets_UnitTimeIsKept (h : Obligations.UnitTimeIsKept) :
    Ran (.sourceQualified 0 .a false) ((dual.modGnss .a fun x => { x with run := true, fix := { x.fix with code := 2, iono := true } }).modTime .a fun x => { x with gnss := { since := some 0 } }) ∧
    Ran (.suspectExpiry 0 .a true) dual ∧
    Ran (.timeEvaluation 0 .a) locked ∧
    Ran (.holdoverExpiry 0 .a) (dual.modTime .a fun x => { x with st := .holdover, src := 3, holdAt := some 0 }) ∧
    Ran (.timeStep 0 .a) (dual.modTime .a fun x => { x with off := 10000000, stepDue := some (5, 1) }) ∧
    Ran (.timeArbitration 0 .a true) (dual.modTime .a fun x => { x with arbAt := some 0, gnss := { ok := true }, ptp := { ok := true } }) ∧
    Ran (.taiUtcChange 0 .a) (dual.modTime .a fun x => { x with taiNext := some (38, 1) }) ∧
    Ran (.timePairDiff 0) (dual.modTime .a fun x => { x with pairSince := some 0, off := 1001 }) := by
  obtain ⟨h1, h2, h3, h4, h5, h6, h7, h8⟩ := h
  refine ⟨ran (h1 0 .a false 0 _ ?_), ran (h2 0 .a true _ trivial), ran (h3 0 .a _ ?_), ran (h4 0 .a 0 _ ?_), ran (h5 0 .a 5 1 _ ?_),
    ran (h6 0 .a true 0 _ ?_), ran (h7 0 .a 38 1 _ ?_), ran (h8 0 .a 0 _ ?_)⟩ <;> decide +kernel

theorem meets_PtpAndPpsAct (h : Obligations.PtpAndPpsAct) :
    Ran (.ptpSync 0 .a .a 7 0 5 true 946684800000000000) (slaved {}) ∧
    Ran (.ptpSync 0 .a .a 7 0 5 false 946684800000000000) (slaved { delay := some 100 }) ∧
    Ran (.ptpFollowUp 0 .a .a 7 0 5 946684800000000000) (slaved { sync := some (5, 200), delay := some 100 }) ∧
    Ran (.ptpDelayResp 0 .a .a 7 0 5 946684800000000000) (slaved { req := some (5, 100), t21 := some 50 }) ∧
    Ran (.delayReq 0 .a) (slaved {}) ∧
    Ran (.ptpAnnounce 0 .a .a announce) (slaved {}) ∧
    Ran (.ptpMasterLost 0 .a) (slaved { annAt := some 0 }) ∧
    Ran (.timeReport 0 .a 3717) (dual.modTime .a fun x => { x with off := 300000000, nCal := 104 }) ∧
    Ran (.ppsEdge 0 .a) (dual.modTime .a fun x => { x with st := .locked, src := 1, report := some { edge := 200000000000000, tap := 39, carry := false, resid := 33, emit := true, content := [] } }) ∧
    Ran (.ppsPulseEnd 0 .a) (dual.modTime .a fun x => { x with ppsHigh := true }) ∧
    Ran (.ppsDelayCalibration 0 .a 104) dual := by
  obtain ⟨h1, h2, h3, h4, h5, h6, h7, h8, h9, h10, h11⟩ := h
  refine ⟨ran (h1 0 .a .a 7 0 5 946684800000000000 _ ?_), ran (h2 0 .a .a 7 0 5 946684800000000000 100 _ ?_),
    ran (h3 0 .a .a 7 0 5 946684800000000000 200 100 _ ?_), ran (h4 0 .a .a 7 0 5 946684800000000000 100 50 _ ?_),
    ran (h5 0 .a 7 _ ⟨?_, ?_, ?_, ?_, ?_, fun _ h => nomatch h⟩), ran (h6 0 .a .a announce _ ?_), ran (h7 0 .a 7 0 _ ?_),
    ran (h8 0 .a 3717 _ ⟨?_, ?_, ?_, ?_, fun _ h => nomatch h⟩),
    ran (h9 0 .a { edge := 200000000000000, tap := 39, carry := false, resid := 33, emit := true, content := [] } _ ?_),
    ran (h10 0 .a _ ?_), ran (h11 0 .a 104 _ ?_)⟩ <;> decide +kernel

theorem meets_GnssTracks (h : Obligations.GnssTracks) :
    Ran (.sampleFrame 0 .a true false 5 30 5 3 []) gnss ∧
    Ran (.acquisitionSearch 0 .a 0 150 120 5 20) gnss ∧
    Ran (.acquisitionSearch 0 .a 0 150 120 5 20) (trk { sat := some 12, l1 := { lostAt := some 200000000000000 } }) ∧
    Ran (.handOver 0 .a 0 true 0 4000) (trk { sat := some 12, l1 := locks, handAt := some 200000000000000 }) ∧
    Ran (.lossOfLock 0 .a 0 .l1 2199 600) (trk { sat := some 12, l1 := locks, l5 := locks }) ∧
    Ran (.lossOfLock 0 .a 0 .l1 0 0) (trk { sat := some 12, l1 := { lostAt := some 0 }, l5 := { lostAt := some 0 } }) ∧
    Ran (.sidePeakShift 0 .a 0 true 2 1) (trk { sat := some 65, l1 := locks, l5 := locks }) ∧
    Ran (.ephemerisDecoded 0 .a 12 0 true true) gnss ∧
    Ran (.ephemerisDecoded 0 .a 12 0 true false) gnss ∧
    Ran (.almanacWrite 0 .a none) gnss ∧
    Ran (.measurementEpoch 0 .a []) (trk { sat := some 12, l1 := locks, l5 := locks }) := by
  obtain ⟨h1, h2, h3, h4, h5, h6, h7, h8, h9, h10, h11⟩ := h
  refine ⟨ran (h1 0 .a true false 5 30 5 3 [] _ ?_), ran (h2 0 .a 0 1 150 120 5 20 _ ?_), ran (h3 0 .a 0 12 150 120 5 20 200000000000000 _ ?_),
    ran (h4 0 .a 0 true 0 4000 12 200000000000000 _ ?_), ran (h5 0 .a 0 .l1 2199 600 12 _ ?_), ran (h6 0 .a 0 .l1 0 0 12 0 0 _ ?_),
    ran (h7 0 .a 0 true 2 1 65 _ ?_), ran (h8 0 .a 12 0 true _ ?_), ran (h9 0 .a 12 0 true _ trivial),
    ran (h10 0 .a none _ ⟨?_, ?_, fun _ h => nomatch h⟩), ran (h11 0 .a [] _ ⟨?_, ?_, ?_, ?_, fun _ h => nomatch h⟩)⟩ <;> decide +kernel

theorem meets_GnssAndAntennaAreGuarded (h : Obligations.GnssAndAntennaAreGuarded) :
    Ran (.spectralMonitor 0 .a .l1 5 120 0 0 100) (gnss fun x => { x with l1 := { x.l1 with count := 2 } }) ∧
    Ran (.notchEnable 0 .a .l1 false) gnss ∧
    Ran (.fftSelfTest 0 .a false) gnss ∧
    Ran (.gnssCardPresence 0 false) gnss ∧
    Ran (.gnssCardPresence 0 true) ({ dual with ant := { card := false } }) ∧
    Ran (.snapStored 0 .a (zeros 10230)) (dual.modGnss .a fun x => { x with snapRun := some { snap with stored := false } }) ∧
    Ran (.snapProcessed 0 .a []) (dual.modGnss .a fun x => { x with snapRun := some snap }) ∧
    Ran (.scheduledCapture 0 .a) ((gnss (s := conf [⟨0x0814, 0, 60⟩])).modTime .a fun x => { x with st := .locked }) ∧
    Ran (.antOpen 0 2) ({ dual with ant := { bias := 1, openSince := some 0 } }) ∧
    Ran (.antOpenCleared 0 6) ({ dual with ant := { bias := 1, open_ := true, openSince := some 0 } }) ∧
    Ran (.antShort 0 60) ({ dual with ant := { bias := 1, shortSince := some 0 } }) ∧
    Ran (.antBiasReapply 0) ({ dual with ant := { short := true, reapply := some 0 } }) ∧
    Ran (.antShortCleared 0 59) ({ dual with ant := { bias := 1, short := true, belowSince := some 0 } }) ∧
    Ran (.antShortCleared 0 60) ({ dual with ant := { bias := 1, short := true, belowSince := some 0 } }) := by
  obtain ⟨h1, h2, h3, h4, h5, h6, h7, h8, h9, h10, h11, h12, h13, h14⟩ := h
  refine ⟨ran (h1 0 .a .l1 5 120 0 0 100 _ ?_), ran (h2 0 .a .l1 false _ ?_), ran (h3 0 .a false _ ⟨?_, ?_, fun _ h => nomatch h⟩),
    ran (h4 0 _ ?_), ran (h5 0 _ ?_), ran (h6 0 .a (zeros 10230) { snap with stored := false } _ ?_), ran (h7 0 .a [] snap _ ?_),
    ran (h8 0 .a _ ?_), ran (h9 0 2 _ ?_), ran (h10 0 6 _ ?_), ran (h11 0 60 _ ?_), ran (h12 0 0 _ ?_), ran (h13 0 59 0 _ ?_),
    ran (h14 0 60 _ ?_)⟩ <;> decide +kernel

theorem meets_SessionsEndAndReport (h : Obligations.SessionsEndAndReport) :
    Ran (.keyRetiringErase 0 0) dual ∧
    Ran (.leaseExpiry 0 0) dual ∧
    Ran (.subscriptionEnd 0 0 2) reporting ∧
    Ran (.stageHoldExpiry 0) (dual.modMram .a fun m => { m with staging := some { holder := 0, items := [], usedAt := 0 } }) ∧
    Ran (.reportSeqMirror 0) dual ∧
    Ran (.streamReport 0 0 2) reporting := by
  obtain ⟨h1, h2, h3, h4, h5, h6⟩ := h
  refine ⟨ran (h1 0 0 _ trivial), ran (h2 0 0 _ trivial), ran (h3 0 0 2 _ trivial), ran (h4 0 { holder := 0, items := [], usedAt := 0 } _ ?_),
    ran (h5 0 .a _ ?_),
    ran (h6 0 0 2 .a sub { gen := 1, st := .current, key := kek } hkDue _ ⟨by decide +kernel, by decide +kernel, by decide +kernel, by decide +kernel, by decide +kernel, hk_due⟩)⟩ <;> decide +kernel

theorem meets_ServiceActs (h : Obligations.ServiceActs) :
    Ran (.debugHalt 0 (askX (be 1 1 ++ be 1 1 ++ zeros 2))) service ∧
    Ran (.cartEpochReset 0 (askX (be 1 1 ++ zeros 3))) service ∧
    Ran (.debugResume 0 0) (dual.modCart 0 fun x => { x with frozen := true }) ∧
    Ran (.controllerLeverOpen 0 .a) dual ∧
    Ran (.leverWaitExpiry 0 .a) (onA fun x => { x with lever := true, leverAt := some 0 }) ∧
    Ran (.controllerLeverClose 0 .a) (onA fun _ => { runs .service with lever := true }) ∧
    Ran (.codePlugCheck 0 .a (.plug (List.replicate 12 0x30))) dual ∧
    Ran (.codePlugCheck 0 .a (.plug (List.replicate 12 0x30))) (dual.modMram .a fun m => { m with ident := none }) ∧
    Ran (.codePlugCheck 0 .a .empty) dual ∧
    Ran (.s50Change 0 true) dual ∧
    Ran (.x50Attach 0 true) dual ∧
    Ran (.scrubEn 0 .a false) dual ∧
    Ran (.scrubNow 0 .a) dual ∧
    Ran (.hsSelftestNow 0 0 15 15) dual := by
  obtain ⟨h1, h2, h3, h4, h5, h6, h7, h8, h9, h10, h11, h12, h13, h14⟩ := h
  refine ⟨ran (h1 0 (askX (be 1 1 ++ be 1 1 ++ zeros 2)) 0 _ ?_), ran (h2 0 (askX (be 1 1 ++ zeros 3)) 0 _ ?_), ran (h3 0 0 _ trivial),
    ran (h4 0 .a _ ?_), ran (h5 0 .a 0 _ ?_), ran (h6 0 .a _ ?_), ran (h7 0 .a (List.replicate 12 0x30) {} {} _ ?_),
    ran (h8 0 .a (List.replicate 12 0x30) {} _ ?_), ran (h9 0 .a _ ?_), ran (h10 0 true _ ?_), ran (h11 0 true _ trivial),
    ran (h12 0 .a false _ ?_), ran (h13 0 .a _ ?_), ran (h14 0 0 15 15 _ ?_)⟩ <;> decide +kernel

theorem meets_ControllersStart (h : Obligations.ControllersStart) :
    Ran (.logicPowerUp 0 .a true) (unpowered id) ∧
    Ran (.logicPowerUp 0 .a false) (unpowered id) ∧
    Ran (.powerFailRestart 0 .a true) (unpowered fun x => { x with failing := true, goodSince := some 0 }) ∧
    Ran (.ctrlTsdRelease 0 .a 1149 true) (unpowered fun x => { x with tsdOff := true }) ∧
    Ran (.lockstepMismatch 0 .a true) dual ∧
    Ran (.watchdogExpiry 0 .a true) dual ∧
    Ran (.watchdogExpiry 0 .a false) dual ∧
    Ran (.watchdogExpiry 0 .a false) (onA fun x => { x with role := .booting, bootRst := [199999000000000, 199999000000000] }) ∧
    Ran (.watchdogExpiry 0 .a true) onTrial ∧
    Ran (.watchdogExpiry 0 .a true) (dual.modMram .a fun m => { m with boot := { m.boot with imgA := {} } }) := by
  obtain ⟨h1, h2, h3, h4, h5, h6, h7, h8, h9, h10⟩ := h
  refine ⟨ran (h1 0 .a _ ?_), ran (h2 0 .a _ ?_), ran (h3 0 .a 0 _ ?_), ran (h4 0 .a 1149 _ ?_), ran (h5 0 .a _ ?_), ran (h6 0 .a _ ?_),
    ran (h7 0 .a _ ?_), ran (h8 0 .a false 199999000000000 199999000000000 _ ?_), ran (h9 0 .a _ ?_), ran (h10 0 .a _ ?_)⟩ <;> decide +kernel

theorem meets_RolesAreElected (h : Obligations.RolesAreElected) :
    Ran (.firmwareRunning 0 .a) (roleA .booting) ∧
    Ran (.electSend 0 .a) (roleA .electing) ∧
    Ran (.elect 0 .a) ({ roleA .electing with ctlB := { runs .electing with electTx := some elect } }) ∧
    Ran (.electTimeout 0 .a false) (roleA .electing) ∧
    Ran (.commandReady 0 .a) (roleA .active) ∧
    Ran (.imageConfirmed 0 .a) (onA fun x => { x with okFrom := some 0, mram := { x.mram with boot := { x.mram.boot with imgA := { x.mram.boot.imgA with st := .trial } } } }) := by
  obtain ⟨h1, h2, h3, h4, h5, h6⟩ := h
  refine ⟨ran (h1 0 .a _ ?_), ran (h2 0 .a _ ?_), ran (h3 0 .a elect _ ?_), ran (h4 0 .a false _ ?_), ran (h5 0 .a _ ?_), ran (h6 0 .a 0 _ ?_)⟩ <;> decide +kernel

theorem meets_ClaimsAct (h : Obligations.ClaimsAct) :
    Ran (.claimReq 0 .a 0) (claim { st := .requested } none) ∧
    Ran (.claimReq 0 .a 0) (claim { st := .requested } none (fun x => { x with epoch := 2 })) ∧
    Ran (.claimAck 0 .a 0) (claim { st := .requested } (some (.a, 2, 0)) (fun x => { x with holder := some .b })) ∧
    Ran (.claimAck 0 .a 0) (claim { st := .requested } (some (.a, 2, 0)) (fun x => { x with holder := none })) ∧
    Ran (.claimGo 0 .a 0) (tx done (claim { st := .acked, limp := true, jsn := 9 } (some (.a, 2, 0)) (fun x => { x with holder := none }))) ∧
    Ran (.claimGo 0 .a 0) (claim { st := .acked } (some (.a, 2, 0)) (fun x => { x with holder := some .b })) ∧
    Ran (.claimGo 0 .a 0) (claim { st := .acked, digest := 1 } (some (.a, 2, 0)) (fun x => { x with holder := some .b })) ∧
    Ran (.claimGo 0 .a 1) ((claim { st := .requested } none).modCtl .a fun x => { x with ready := false }) ∧
    Ran (.claimArmTimeout 0 0) (claim { st := .acked } (some (.a, 2, 0))) ∧
    Ran (.claimRetry 0 .a 0) (claim { retryAt := some 0 } none) ∧
    Ran (.statusFrame 0 .a 0 false) dual ∧
    Ran (.statusFrame 0 .a 0 true) dual := by
  obtain ⟨h1, h2, h3, h4, h5, h6, h7, h8, h9, h10, h11, h12⟩ := h
  refine ⟨ran (h1 0 .a 0 _ ?_), ran (h2 0 .a 0 _ ?_), ran (h3 0 .a 0 0 .b _ ?_), ran (h4 0 .a 0 0 _ ?_), ran (h5 0 .a 0 0 _ ?_),
    ran (h6 0 .a 0 0 .b _ ?_), ran (h7 0 .a 0 0 _ ?_), ran (h8 0 .a 1 _ ⟨?_, 0, ?_⟩), ran (h9 0 0 .a 2 0 _ ?_), ran (h10 0 .a 0 0 _ ?_),
    ran (h11 0 .a 0 _ ?_), ran (h12 0 .a 0 _ ?_)⟩ <;> decide +kernel

theorem meets_MirrorIsKept (h : Obligations.MirrorIsKept) :
    Ran (.prepare 0 9) (tx prep) ∧
    Ran (.prepAck 0 9) (both prep prep) ∧
    Ran (.commit 0 9) (both { prep with st := .committed, sentAt := some 0 } prep) ∧
    Ran (.commitAck 0 9) (both { prep with st := .committed, sentAt := some 0 } { prep with st := .committed }) ∧
    Ran (.mirrorTimeout 0) (tx prep) ∧
    Ran (.stateDigest 0) dual ∧
    Ran (.digestMismatch 0) (onA fun x => { x with digest := some (0, zeros 8), mram := { x.mram with epoch := 6 } }) ∧
    Ran (.resyncComplete 0) ({ dual with ctlB := { runs .unsynced with unsync := 2 } }) ∧
    Ran (.joinComplete 0) ({ dual with ctlB := { runs .unsynced with unsync := 1 } }) := by
  obtain ⟨h1, h2, h3, h4, h5, h6, h7, h8, h9⟩ := h
  refine ⟨ran (h1 0 9 .a prep _ ?_), ran (h2 0 9 .a prep prep _ ?_),
    ran (h3 0 9 .a { prep with st := .committed, sentAt := some 0 } prep _ ?_),
    ran (h4 0 9 .a { prep with st := .committed, sentAt := some 0 } { prep with st := .committed } _ ?_), ran (h5 0 .a prep _ ?_),
    ran (h6 0 .a _ ?_), ran (h7 0 .a 0 (zeros 8) _ ?_), ran (h8 0 .a _ ?_), ran (h9 0 .a _ ?_)⟩ <;> decide +kernel

theorem meets_PairActs (h : Obligations.PairActs) :
    Ran (.heartbeatSend 0 .a) dual ∧
    Ran (.heartbeat 0 .b true false) (onA fun x => { x with beatTx := some (dual.beatOf .a false) }) ∧
    Ran (.heartbeatMissed 0 .b true) dual ∧
    Ran (.failN 0 .a false) (dual.modCtl .b fun x => { x with failN := true }) ∧
    Ran (.failN 0 .a true) dual ∧
    Ran (.handoff 0) (tx swap) ∧
    Ran (.autoRoleSwap 0) ({ dual with ctlA := { dual.ctlA with seen := Vector.replicate 4 { at_ := some 0, holder := some .a, epoch := 1 } }, ctlB := { dual.ctlB with seen := Vector.replicate 4 { at_ := some 200000000000000 } } }) ∧
    Ran (.splitReelect 0 .a false) (roleA .hold fun x => { x with cause := 2, peerGone := some 0 }) ∧
    Ran (.tcxoFail 0 .a true 0 0) dual ∧
    Ran (.failover 0 .b) ({ dual with ctlB := { dual.ctlB with peerFail := true, seen := Vector.replicate 4 { at_ := some 200000000000000, holder := some .a, epoch := 1 } } }) := by
  obtain ⟨h1, h2, h3, h4, h5, h6, h7, h8, h9, h10⟩ := h
  refine ⟨ran (h1 0 .a _ ?_), ran (h2 0 .b true false (dual.beatOf .a false) _ ?_), ran (h3 0 .b true _ ?_), ran (h4 0 .a _ ?_),
    ran (h5 0 .a true _ ?_), ran (h6 0 .a swap _ ?_), ran (h7 0 .a 0 _ ?_), ran (h8 0 .a false _ ?_), ran (h9 0 .a true 0 0 _ ?_),
    ran (h10 0 .b 2 _ ?_)⟩ <;> decide +kernel

theorem meets_LogIsKept (h : Obligations.LogIsKept) :
    Ran (.logRecord 0 0x1001 0 0x0A 1 (zeros 33)) dual ∧
    Ran (.loss 0) (dual.modMram .a fun m => { m with log := { m.log with lost := 3, losses := 3 } }) ∧
    Ran (.voyage 0 0) ((at_ 0 on).modCart 0 fun x => { x with items := [⟨0x0126, 1, 1⟩] }) ∧
    Ran (.voyageAck 0 0) dual ∧
    Ran (.mirrorGapTimeout 0 .b) (dual.modMram .b fun m => { m with log := { m.log with gapAt := some 0 } }) ∧
    Ran (.energyCounterWrite 0 .a) dual ∧
    Ran (.cartridgeLinkLoss 0 .b 0) (dual.modCtl .b fun x => { x with seen := Vector.replicate 4 { at_ := some 0 } }) := by
  obtain ⟨h1, h2, h3, h4, h5, h6, h7⟩ := h
  refine ⟨ran (h1 0 0x1001 0 0x0A 1 (zeros 33) .a _ ?_), ran (h2 0 _ ?_), ran (h3 0 0 _ ?_), ran (h4 0 0 .a _ ?_), ran (h5 0 .b 0 _ ?_),
    ran (h6 0 .a _ ?_), ran (h7 0 .b 0 0 _ ?_)⟩ <;> decide +kernel

theorem meets_LatentFaultsAreFound (h : Obligations.LatentFaultsAreFound) :
    Ran (.scrubPass 0 (.ctrl .a) 3 2) dual ∧
    Ran (.scrubPass 0 (.ctrl .a) 3 2) (onA fun x => { x with scrubIn := 200000000000000 }) ∧
    Ran (.scrubPass 0 (.cart 0) 3 0) dual ∧
    Ran (.doubleBitError 0 (.ctrl .a) 0x0300000) solo ∧
    Ran (.doubleBitError 0 (.ctrl .a) 0x0400000) (solo.modMram .a fun m => { m with cone := { m.cone with entries := [{ index := 4 }] } }) ∧
    Ran (.doubleBitError 0 (.ctrl .a) 0x0F00000) dual ∧
    Ran (.doubleBitError 0 (.cart 0) 0) dual ∧
    Ran (.seriesTest 0 0 0 20000) dual ∧
    Ran (.dailySelftest 0 .a) dual := by
  obtain ⟨h1, h2, h3, h4, h5, h6, h7, h8, h9⟩ := h
  refine ⟨ran (h1 0 .a 3 2 _ ?_), ran (h2 0 .a 3 2 _ ?_), ran (h3 0 0 3 0 _ ?_), ran (h4 0 .a 0x0300000 _ ?_),
    ran (h5 0 .a 0x0400000 { index := 4 } _ ?_), ran (h6 0 .a 0x0F00000 _ ?_), ran (h7 0 0 0 _ ?_), ran (h8 0 0 0 20000 _ ?_),
    ran (h9 0 .a _ ?_)⟩ <;> decide +kernel

theorem meets_ExpansionActs (h : Obligations.ExpansionActs) :
    Ran (.spiTransactionEnd 0 .a [0]) (queued { write with st := .queued } fun x => { x with tx := some (spi, { write with st := .queued }) }) ∧
    Ran (.winPoll 0 .a 2) (queued write) ∧
    Ran (.winTimeout 0 .a 1) (queued { write with st := .polling }) ∧
    Ran (.winProbe 0 .a { jedec := 0 }) (probed 0) ∧
    Ran (.winProbe 0 .a { jedec := 1 }) (probed 1) ∧
    (∃ n, sckPeriod 1 = 10 * n) ∧
    ((({ drive := true, tx := some (spi, write) } : Exp).pins 0).sck = false) ∧
    ((({} : Exp).pins 0) = {} ∧ win.x40 = (win.ctl .a).exp.pins win.now) ∧
    Ran (.expSupply 0 200) ({ dual with expSince := some 0 }) ∧
    Ran (.expSupplyCleared 0 0) ({ dual with expOver := true, expSince := some 0 }) := by
  obtain ⟨h1, h2, h3, h4, h5, h6, h7, h8, h9, h10⟩ := h
  refine ⟨ran (h1 0 .a [0] spi { write with st := .queued } _ ?_), ran (h2 0 .a 2 write _ ?_),
    ran (h3 0 .a 1 { write with st := .polling } _ ?_), ran (h4 0 .a { jedec := 0 } _ ?_), ran (h5 0 .a { jedec := 1 } _ ?_),
    (h6 1 (by decide)).imp fun _ h => h.1, (h7 _ spi write 0 rfl rfl (by decide)).1 ?_, ⟨(h8 0 .a).1 {} rfl, (h8 0 .a).2 win rfl rfl⟩,
    ran (h9 0 200 _ ?_), ran (h10 0 0 _ ?_)⟩ <;> decide +kernel

theorem meets_StepTakesTheFront (h : Obligations.StepTakesTheFront) : step State.reset = .next State.reset := h.2 _ rfl

/-- Controllers without an ACTIVE one, with A's cartridges still held; and A ACTIVE before its first claim. -/
def gap : State := { dual with ctlA := {} }
def early : State := { dual with ctlA := runs .active, mode := .limp, carts := dual.carts.map fun k => { k with holder := none } }
theorem meets_UnitModeInOrder (h : Obligations.UnitModeInOrder) :
    (dual.unitMode = .dual ∧ solo.unitMode = .solo) ∧ State.reset.unitMode = .limp ∧ gap.unitMode = gap.mode ∧ early.unitMode = .limp ∧
    ({ dual with ctlA := { runs .hold with cause := 2 }, ctlB := { runs .hold with cause := 2 } } : State).unitMode = .split :=
  ⟨⟨(h dual).2.2.2.1 (fun g => nomatch (g .a).1) ⟨.a, rfl, .inl rfl⟩ ⟨.a, rfl, rfl, rfl, fun d => by cases d <;> rfl⟩,
    (h solo).2.2.2.2.1 (fun g => nomatch (g .a).1) ⟨.a, rfl, .inl rfl⟩ (fun ⟨c, e, f, g, _⟩ => by cases c <;> first | exact nomatch g | exact nomatch f)⟩,
   (h State.reset).2.1 (fun g => nomatch (g .a).1) (fun c => by cases c <;> exact fun e => nomatch e)
     (fun ⟨k, c, e⟩ => by revert e; revert c; revert k; decide +kernel),
   (h gap).2.2.1 (fun g => nomatch (g .b).1) (fun c => by cases c <;> exact fun e => nomatch e) ⟨0, .a, by decide +kernel⟩ (by decide +kernel),
   (h early).2.2.2.2.2 (fun g => nomatch (g .a).1) (fun ⟨c, e, f⟩ => by revert f; revert e; revert c; decide +kernel) rfl,
   (h _).1 (fun c => by cases c <;> exact ⟨rfl, rfl⟩)⟩

theorem meets_TrippedChannelsStayOff (h : Obligations.TrippedChannelsStayOff) : (State.reset).Untripped :=
  h State.reset State.reset (by intro c; decide +revert +kernel) rfl

theorem meets_JournalNumbersStayFresh (h : Obligations.JournalNumbersStayFresh) : (tx done).JournalFresh :=
  h (tx done) (tx done) (by intro c; cases c <;> decide +kernel) rfl

theorem meets_ClockStaysInRange (h : Obligations.ClockStaysInRange) : State.reset.InTime := h State.reset State.reset ⟨by decide +kernel, fun _ h => nomatch h⟩ rfl

/-- The packet of that PING. -/
def pingOut : Packet := { flags := 0, client := 0, gen := 1, seq := 1, opcode := 0, status := 0, time := 0, params := [], tag := tagOf kek pingHead }

theorem meets_PacketsReadBack (h : Obligations.PacketsReadBack) : packetOf pingData = some pingIn ∧ pingData = pingIn.head ++ pingIn.tag := by
  obtain ⟨write, read⟩ := h
  refine ⟨(write pingOut ?_ ?_ ?_ ?_ ?_ ?_ ?_ ?_ ?_).2, (read pingData pingIn ?_).1⟩ <;> decide +kernel

/-- A new request of client 0, on X50 and on BUS-A. -/
def pingX : Request := { askX [] with client := 0 }
def key0 : KeyGen := { gen := 1, st := .current, key := kek }

theorem meets_PingIsAnswered (h : Obligations.PingIsAnswered) :
    Ran (.ping 0 (askX [])) (keyed (service)) ∧ Ran (.ping 0 (ask [])) (keyed net) :=
  ⟨ran (h.1 0 (askX []) key0 rfl rfl rfl _ (by decide +kernel)), ran (h.2 0 (ask []) key0 .a ({} : Plug).addrA rfl rfl rfl _ (by decide +kernel))⟩

/-- A wrong level code; and a lease of another client. -/
def wrong : Request := ask (be 1 1 ++ be 1 3 ++ zeros 2)
def right : Request := ask (be 1 1 ++ be 1 1 ++ zeros 2)
def rival : State := dual.modMram .a fun m => { m with leases := m.leases.set 0 (some { client := 3, stop := 300000000000000 }) }
/-- A journal that has no room. -/
def full : State := dual.modMram .a fun m => { m with slots := List.replicate 32 { st := .committed } }

theorem meets_RequestsAreCheckedInOrder (h : Obligations.RequestsAreCheckedInOrder) :
    Ran (.setChannel 0 right) (roleA .electing) ∧ Ran (.setChannel 0 { right with toUnit := false }) (roleA .service) ∧
    Ran (.setChannel 0 wrong) dual ∧ Ran (.setChannel 0 right) full ∧ Ran (.setChannel 0 right) rival :=
  ⟨ran ((h (.setChannel 0 right) _ _ rfl).1 (roleA .electing) (by decide +kernel)),
   ran ((h (.setChannel 0 { right with toUnit := false }) _ _ rfl).2.1 (roleA .service) (by decide +kernel)),
   ran ((h (.setChannel 0 wrong) _ _ rfl).2.2.1 { status := 0x0303, off := 1, chan := 1 } dual (by decide +kernel)),
   ran ((h (.setChannel 0 right) _ _ rfl).2.2.2.1 (2, none) full (by decide +kernel)),
   ran ((h (.setChannel 0 right) _ _ rfl).2.2.2.2 { status := 0x0401, detail := 15, chan := 1 } rival (by decide +kernel))⟩

/-- The entry of SET_CHANNEL, and a window that holds it. -/
def entry (st : EntryState) (digest : Nat) : WinEntry := { seq := 1, st := st, status := 0, opcode := 0x0101, jour := true, time := 5, digest := digest }
def again (e : WinEntry) : State := dual.modMram .a fun m => { m with clients := m.clients.set 0 { high := 1, win := [e] } }
def retry : Request := { right with retrans := true }

theorem meets_RetransmissionsExecuteNothing (h : Obligations.RetransmissionsExecuteNothing) :
    let d := digestOf 0x0101 retry
    Ran (.setChannel 0 right) (again (entry .complete d)) ∧ Ran (.setChannel 0 retry) (again (entry .complete (d + 1))) ∧
    Ran (.setChannel 0 retry) (again (entry .inProgress d)) ∧ Ran (.setChannel 0 retry) (again (entry .scheduled d)) ∧
    Ran (.setChannel 0 retry) (again (entry .complete d)) :=
  ⟨ran ((h (.setChannel 0 right) _ _ rfl).1 (again (entry .complete (digestOf 0x0101 retry))) (by decide +kernel)),
   ran ((h (.setChannel 0 retry) _ _ rfl).2.1 (entry .complete (digestOf 0x0101 retry + 1)) (by decide +kernel)
     (again (entry .complete (digestOf 0x0101 retry + 1))) (by decide +kernel)),
   ran ((h (.setChannel 0 retry) _ _ rfl).2.2.1 (entry .inProgress (digestOf 0x0101 retry)) (by decide +kernel) rfl
     (again (entry .inProgress (digestOf 0x0101 retry))) (by decide +kernel)),
   ran ((h (.setChannel 0 retry) _ _ rfl).2.2.2.1 (entry .scheduled (digestOf 0x0101 retry)) (by decide +kernel) rfl
     (again (entry .scheduled (digestOf 0x0101 retry))) (by decide +kernel)),
   ran ((h (.setChannel 0 retry) _ _ rfl).2.2.2.2 (entry .complete (digestOf 0x0101 retry)) (by decide +kernel) rfl rfl
     (again (entry .complete (digestOf 0x0101 retry))) (by decide +kernel))⟩

theorem meets_SetChannelIsJournaled (h : Obligations.SetChannelIsJournaled) :
    Ran (.setChannel 0 right) solo ∧ Ran (.setChannel 0 right) dual :=
  ⟨ran (h.1 0 right rfl solo ⟨by decide +kernel, by decide +kernel, by intro c; cases c <;> decide +kernel⟩),
   ran (h.2 0 right dual ⟨by decide +kernel, by decide +kernel, by intro c; cases c <;> decide +kernel⟩)⟩

/-- A window whose highest sequence is 100, with an entry for 90. -/
def window : Mram := { clients := (Vector.replicate 16 {}).set 0 { high := 100, win := [{ entry .complete 0 with seq := 90 }] } }

/-- The same with the highest of all sequences; and with sequence 95 in progress, which its transaction will enter. -/
def spent : Mram := { clients := (Vector.replicate 16 {}).set 0 { high := 2 ^ 48 - 1 } }
def working : Mram :=
  { window with slots := [{ jsn := 9, client := 0, seq := 95, req := some (ask []), changes := [.entry 0 { entry .complete 0 with seq := 95 }] }] }

theorem meets_WindowClassifies (h : Obligations.WindowClassifies) :
    window.window 0 0 false = .drop ∧ window.window 0 36 false = .drop ∧ window.window 0 101 false = .fresh ∧
    window.window 0 37 false = .fresh ∧ spent.window 0 (2 ^ 48 - 2) false = .drop ∧
    working.window 0 95 true = .again { entry .inProgress 0 with seq := 95 } ∧
    window.window 0 90 false = .drop ∧ window.window 0 90 true = .again { entry .complete 0 with seq := 90 } := by
  have between (m : Mram) (s : Nat) (retrans : Bool) := (h m 0 s retrans).2.2
  refine ⟨(h window 0 0 false).1 ?_, (h window 0 36 false).1 ?_, ((h window 0 101 false).2.1 ?_ ?_ ?_).1, (between window 37 false ?_ ?_ ?_).1 ?_ ?_,
    (between spent (2 ^ 48 - 2) false ?_ ?_ ?_).1 ?_ ?_, ((between working 95 true ?_ ?_ ?_).2.1 _ ?_ ?_).2,
    ((between window 90 false ?_ ?_ ?_).2.2 { entry .complete 0 with seq := 90 } ?_).1, ((between window 90 true ?_ ?_ ?_).2.2 _ ?_).2⟩ <;> decide +kernel

/-- The hash of the blank configuration (R612). -/
theorem test_blankHash : configHash [] = blankHash := by decide +kernel

/-! Ill-formed commands, one for each check of WellFormed.lean. -/

/-- An instant past its 63 bits. -/
theorem test_wf_instant : (Instr.scrubNow (2 ^ 63) .a).wf = false ∧ (Instr.scrubNow (2 ^ 63 - 1) .a).wf = true := by decide
theorem test_wf_request : (Instr.ping 0 (ask [])).wf = true ∧ (Instr.ping 0 { ask [] with gen := 256 }).wf = false ∧ (Instr.ping 0 { ask [] with seq := 2 ^ 48 }).wf = false ∧
    (Instr.ping 0 { ask [] with time := 2 ^ 63 }).wf = false ∧ (Instr.ping 0 { ask [] with time := -2 ^ 63 - 1 }).wf = false ∧
    (Instr.ping 0 { ask [] with src := ⟨2 ^ 32, 0⟩ }).wf = false ∧ (Instr.ping 0 { ask [] with src := ⟨0, 65536⟩ }).wf = false := by decide
theorem test_wf_params : (Instr.ping 0 (ask (zeros 1024))).wf = true ∧ (Instr.ping 0 (ask (zeros 1025))).wf = false := by decide +kernel
/-- The commands of a list are all ill-formed. -/
def refusesAll (l : List Instr) : Bool := l.all fun i => !i.wf

theorem test_wf_operands_1 : refusesAll [
    .oltestNow 0 0 (2 ^ 31) 0, .oltestNow 0 0 0 (2 ^ 31), .syaskegDatagram 0 .a .a ⟨2 ^ 32, 0⟩ 0 [], .syaskegDatagram 0 .a .a ⟨0, 65536⟩ 0 [],
    .syaskegDatagram 0 .a .a ⟨0, 0⟩ (2 ^ 32) [], .syaskegDatagram 0 .a .a ⟨0, 0⟩ 0 (zeros 1473), .x50Transfer 0 .a (zeros 1473),
    .ipv4Datagram 0 .a .a (2 ^ 48) [], .ipv4Datagram 0 .a .a 0 (zeros 1501), .arpFrame 0 .a .a (2 ^ 16) 0 0 0, .arpFrame 0 .a .a 0 (2 ^ 48) 0 0,
    .arpFrame 0 .a .a 0 0 (2 ^ 32) 0, .arpFrame 0 .a .a 0 0 0 (2 ^ 32), .icmpEchoRequest 0 .a .a (2 ^ 32) 0 0 [],
    .icmpEchoRequest 0 .a .a 0 (2 ^ 32) 0 [], .icmpEchoRequest 0 .a .a 0 0 (2 ^ 32) [], .icmpEchoRequest 0 .a .a 0 0 0 (zeros 1473),
    .ptpSync 0 .a .a (2 ^ 80) 0 0 true 0, .ptpSync 0 .a .a 0 (2 ^ 8) 0 true 0, .ptpSync 0 .a .a 0 0 (2 ^ 16) true 0,
    .ptpSync 0 .a .a 0 0 0 true (2 ^ 63), .ptpFollowUp 0 .a .a (2 ^ 80) 0 0 0, .ptpFollowUp 0 .a .a 0 (2 ^ 8) 0 0,
    .ptpFollowUp 0 .a .a 0 0 (2 ^ 16) 0] = true := by decide +kernel

theorem test_wf_operands_2 : refusesAll [
    .ptpFollowUp 0 .a .a 0 0 0 (2 ^ 63), .ptpDelayResp 0 .a .a (2 ^ 80) 0 0 0, .ptpDelayResp 0 .a .a 0 (2 ^ 8) 0 0,
    .ptpDelayResp 0 .a .a 0 0 (2 ^ 16) 0, .ptpDelayResp 0 .a .a 0 0 0 (2 ^ 63), .arpRetry 0 .a .a (2 ^ 32), .subscriptionEnd 0 0 (2 ^ 3),
    .streamReport 0 0 (2 ^ 3), .scheduleArm 0 (2 ^ 64), .scheduleUnarmedApply 0 (2 ^ 64), .scheduledSetLoop 0 (2 ^ 64), .logicDip 0 .a (2 ^ 31),
    .holdupExhausted 0 .a (2 ^ 32), .holdupPrediction 0 .a (2 ^ 32), .logicInputState 0 .a 0 (2 ^ 31), .powerBusBand 0 0 (2 ^ 31),
    .cartridgeStart 0 0 (2 ^ 31) (zeros 12), .cartridgeStart 0 0 0 (zeros 11), .cellQualificationEnd 0 .a (2 ^ 32) 0,
    .cellQualificationEnd 0 .a 0 (2 ^ 31), .prechargeDone 0 .a (2 ^ 31), .cellLoadTest 0 .a (2 ^ 31) 0, .cellLoadTest 0 .a 0 (2 ^ 31),
    .chargerControl 0 .a (2 ^ 31) 0] = true := by decide +kernel

theorem test_wf_operands_3 : refusesAll [
    .chargerControl 0 .a 0 (2 ^ 32), .chargerFault 0 .a (2 ^ 31), .fanStartCheck 0 0 (2 ^ 32), .fanTachFault 0 0 (2 ^ 32) 0,
    .fanTachFault 0 0 0 (2 ^ 32), .fanTachRecovery 0 0 (2 ^ 32), .dieThermalShutdown 0 0 true (2 ^ 31), .dieThermalExit 0 0 true (2 ^ 31),
    .ctrlTsd 0 .a (2 ^ 31), .ctrlTsdRelease 0 .a (2 ^ 31) true, .decayCurrentLow 0 0 (2 ^ 31), .decayCap 0 0 (2 ^ 31), .offStateTest 0 0 (2 ^ 31) 0,
    .offStateTest 0 0 0 (2 ^ 31), .reverse 0 0 (2 ^ 31), .startEnd 0 0 (2 ^ 31), .prechargeTimeout 0 0 (2 ^ 31), .prechargeEnergy 0 0 (2 ^ 32),
    .heaterDrift 0 0 (2 ^ 31), .hardShort 0 0 (2 ^ 31) 0, .hardShort 0 0 0 (2 ^ 31), .regulationEngage 0 0 (2 ^ 31),
    .regulationEnd 0 0 (2 ^ 31) 0 true, .regulationEnd 0 0 0 (2 ^ 32) true] = true := by decide +kernel

theorem test_wf_operands_4 : refusesAll [
    .stuckOn 0 0 (2 ^ 32) 0 0, .stuckOn 0 0 0 (2 ^ 32) 0, .stuckOn 0 0 0 0 (2 ^ 32), .disconnectFailed 0 0 (2 ^ 32), .stuckOff 0 0 (2 ^ 31) 0 0,
    .stuckOff 0 0 0 (2 ^ 32) 0, .stuckOff 0 0 0 0 (2 ^ 32), .gateMonFault 0 0 (2 ^ 32), .freewheelOn 0 0 (2 ^ 31) 0 true,
    .freewheelOn 0 0 0 (2 ^ 32) true, .freewheelOffAhead 0 0 (2 ^ 32) 0, .freewheelOffAhead 0 0 0 (2 ^ 32), .freewheelLowCurrent 0 0 (2 ^ 31),
    .swCmpFault 0 0 (2 ^ 31) true, .triggerFire 0 0 true (2 ^ 63) 0, .triggerFire 0 0 true 0 (2 ^ 63), .delayLineCalibration 0 0 (2 ^ 32),
    .averageIntervalEnd 0 0 0 [] 0, .averageIntervalEnd 0 0 0 (List.replicate 21 {}) 0, .averageIntervalEnd 0 0 0 (List.replicate 20 {}) (2 ^ 31),
    .voltageCalibration 0 0 0 (2 ^ 63), .sharingLoop 0 0 (2 ^ 63), .compliance 0 .a 0 (2 ^ 32) 0,
    .compliance 0 .a 0 0 (2 ^ 31)] = true := by decide +kernel

theorem test_wf_operands_5 : refusesAll [
    .loopProbe 0 0 (2 ^ 31) 0, .loopProbe 0 0 0 (2 ^ 31), .timeReport 0 .a (2 ^ 32), .ppsDelayCalibration 0 .a (2 ^ 32),
    .tcxoFail 0 .a true (2 ^ 32) 0, .tcxoFail 0 .a true 0 (2 ^ 32), .sampleFrame 0 .a true true (2 ^ 32) 0 0 0 [],
    .sampleFrame 0 .a true true 0 (2 ^ 31) 0 0 [], .sampleFrame 0 .a true true 0 0 (2 ^ 8) 0 [], .sampleFrame 0 .a true true 0 0 0 (2 ^ 8) [],
    .acquisitionSearch 0 .a 0 (2 ^ 16) 0 0 0, .acquisitionSearch 0 .a 0 0 (2 ^ 16) 0 0, .acquisitionSearch 0 .a 0 0 0 (2 ^ 64) 0,
    .handOver 0 .a 0 true 0 (2 ^ 16), .lossOfLock 0 .a 0 .l1 (2 ^ 32) 0, .lossOfLock 0 .a 0 .l1 0 (2 ^ 32), .sidePeakShift 0 .a 0 true (2 ^ 32) 0,
    .sidePeakShift 0 .a 0 true 0 (2 ^ 32), .spectralMonitor 0 .a .l1 (2 ^ 63) 0 0 0 0, .spectralMonitor 0 .a .l1 0 (2 ^ 32) 0 0 0,
    .spectralMonitor 0 .a .l1 0 0 (2 ^ 32) 0 0, .spectralMonitor 0 .a .l1 0 0 0 (2 ^ 32) 0, .spectralMonitor 0 .a .l1 0 0 0 0 (2 ^ 63),
    .ephemerisDecoded 0 .a (2 ^ 7) 0 true true] = true := by decide +kernel

theorem test_wf_operands_6 : refusesAll [
    .ephemerisDecoded 0 .a 0 (2 ^ 63) true true, .antOpen 0 (2 ^ 32), .antShort 0 (2 ^ 32), .logRecord 0 (2 ^ 16) 0 0 0 [],
    .logRecord 0 0 (2 ^ 8) 0 0 [], .logRecord 0 0 0 (2 ^ 8) 0 [], .logRecord 0 0 0 0 (2 ^ 8) [], .logRecord 0 0 0 0 0 (zeros 41),
    .lineSample 0 (.ctrl .a) 0 (2 ^ 32) 0, .lineSample 0 (.ctrl .a) 0 0 (2 ^ 32), .fltAssert 0 0 0 (2 ^ 32) 0, .fltAssert 0 0 0 0 (2 ^ 32),
    .fltRelease 0 0 0 (2 ^ 32) 0, .fltRelease 0 0 0 0 (2 ^ 32), .prepare 0 (2 ^ 64), .prepAck 0 (2 ^ 64), .commit 0 (2 ^ 64), .commitAck 0 (2 ^ 64),
    .scrubPass 0 (.ctrl .a) (2 ^ 32) 0, .scrubPass 0 (.ctrl .a) 0 (2 ^ 32), .doubleBitError 0 (.ctrl .a) (2 ^ 32), .seriesTest 0 0 (2 ^ 31) 0,
    .seriesTest 0 0 0 (2 ^ 31), .winPoll 0 .a (2 ^ 32)] = true := by decide +kernel

theorem test_wf_operands_7 : refusesAll [
    .winTimeout 0 .a (2 ^ 32), .expSupply 0 (2 ^ 32), .logicRailDipOnset 0 .a (2 ^ 31) 0, .logicRailDipOnset 0 .a 0 1001,
    .spiTransactionEnd 0 .a (zeros 1025), .notApplied 0 (2 ^ 64), .busCollisions 0 .a .a (2 ^ 32), .antOpenCleared 0 (2 ^ 32),
    .antShortCleared 0 (2 ^ 32), .expSupplyCleared 0 (2 ^ 32)] = true := by decide +kernel

/-! The worked numbers of the spec's chapters. -/

/-- Chapter 14: STAGE_CONFIG, sequence 120; its five item records. -/
theorem test_items_of_stage_config :
    (itemsOf (be 29 0x01010B0104010D0B020064030101010203020101060304010400001388)).map (fun l => l.map fun r => (r.id, r.ix, r.val)) =
      some [(0x0101, 11, 4), (0x010D, 11, 0x64), (0x0301, 1, 2), (0x0302, 1, 6), (0x0304, 1, 0x1388)] := by decide +kernel

/-- Chapter 14: SET_GROUP, sequence 50210, and SET_PWM, sequence 50300, each with some tag. -/
def groupData : Bytes := be 28 0x0202030700000000C4220102003C00000DE0B6B41E99940002000000 ++ be 28 (0x0A01 <<< 208) ++ be 28 (0x0B01 <<< 208) ++ zeros 16
def pwmData : Bytes :=
  be 52 0x0200030700000000C47C0103001C000000000000000000000301000000001F400002EE33800005DC000000000000000004000000 ++ zeros 16
theorem test_packet_set_group : (packetOf groupData).map (fun p => ([p.client, p.gen, p.seq, p.opcode, p.params.length], p.time, bit p.flags 1)) =
    some ([3, 7, 50210, 0x0102, 60], (1000000002000000000 : Int), true) := by decide +kernel
theorem test_packet_set_pwm : (packetOf pwmData).map (fun p => (p.seq, p.opcode, p.params.length, p.params.take 2, slice p.params 8 4)) =
    some (50300, 0x0103, 28, [3, 1], be 4 0x0002EE33) := by decide +kernel

/-- Chapter 13: BUSY 40 ms after the request for 2 s ahead. -/
theorem test_retry_after : dual.retryAfter .a 3 1 (some (dual.utime .a + 1960000000)) = 1960000 := by decide +kernel

/-- Chapter 7: 37.51 % of 20 kHz with N_CAL 96, and 1 % clamped by a MIN_PULSE of 1 µs. -/
theorem test_tap : tapOf 51 96 = 77 := by decide
theorem test_clamp : clampOn 8000 0x2800 (80 * 64) = 0x2800 ∧ clampOn 8000 0x2800 0 = 0 ∧ clampOn 8000 0x2800 0x2EE33 = 0x2EE33 := by decide

/-- Chapter 8: 8.000 A WEDGED and SINGLE; 8.015 A UNRESOLVED with a disagreement of 30 mA, rounded up. -/
theorem test_bounds : boundOf 0 8000000 0 2 = 4500 ∧ boundOf 3 8000000 0 2 = 40500 ∧ boundOf 4 8015000 30000 2 = 55575 := by decide

/-- Chapter 10: limits at 58 °C. -/
theorem test_derating : [0, 1, 2].map (fun k => (chLimitAt k 580, unitLimitAt k 580)) = [(11280, 150400), (8460, 112800), (4700, 56400)] := by decide

/-- Chapter 11: 3.2 A of 5 A; the probe's 23.104 V and 23.079 V, in whole millivolts, stand for 250 Ω and predict 20.419 V. -/
theorem test_loop : scaleUa 3200000 0 5000 = 14240 ∧ predictMv 23104 23079 14240 = 20419 := by decide

/-- Chapter 3: restart delays of CH10, CH14 and CH16. -/
theorem test_stagger : [9, 13, 15].map stagger = [18000000, 26000000, 30000000] := by decide

/-- Chapter 17: the edge 3717 ps after its tick with N_CAL 104. -/
theorem test_pps_placing : placeEdge 3717 104 false = (39, false, 33) := by decide

/-- Chapter 18: the record of tracker 5 on GPS satellite 12; its code phase depends on the card's delay, which the spec does not give. -/
def tracked : TrkBand := { lock := true, phase := -0x18F10780000000, freq := 2345678000 }
def observed : TrkObs := { trk := 5, band := .l1, second := some 302399, half := true, decoded := true, cn0 := 4437 }
theorem test_gnss_record :
    let r := trkRecord 5 .l1 12 tracked (some observed) false 600000000000
    r.take 4 = be 4 0x050C2F00 ∧ r.drop 16 = be 16 0xFFE70EF8800000000023CACE11551770 := by decide +kernel

/-- Chapter 15: CH10, the lower half of TW6, in HOLD at 40 %, 20 kHz, with a trim of 73 mV. -/
def hold : State :=
  (dual.modChan 9 fun x => { x with
    ctrl := { x.ctrl with source := .host, level := .on, mark := 6 }, set := { level := .on, share := 1, trim := 73 }
    stage := { output := .pwm, phase := .hold, profile := 4, cause := 15 }, gen := { act := { per := 8000, cmpa := 0, en := true } } }).modCart 2 fun k =>
    { k with items := [⟨0x0101, 10, 4⟩] }
theorem test_reg_read_words : [0x0, 0x4, 0x8, 0xC, 0x10, 0x14, 0x18, 0x1C].map (fun o => hold.chanWord 9 o 0) =
    [0x200F1A41, 0x98490101, 0x1F40, 0x32000, 0, 0, 0, 4] := by decide +kernel
theorem test_reg_address : regAddr 0x30200 = some (.chan 9 0) ∧ (RegAddr.chan 9 0xC).cls = .sh 10 := by decide

/-- RFC 3394, 4.6 and the test message of FIPS 180-4. -/
theorem test_key_unwrap : keyUnwrap kek wrapped = some plainKey := by decide +kernel
theorem test_sha256 : sha256 [0x61, 0x62, 0x63] = be 32 0xBA7816BF8F01CFEA414140DE5DAE2223B00361A396177A9CB410FF61F20015AD := by decide +kernel
theorem test_crc32 : crc32 (zeros 4) = 0x2144DF1C := by decide

/-- Chapter 19: the voyage record of CH10. -/
def voyage : State :=
  (((locked.modChan 9 fun x => { x with ctrl := { x.ctrl with mark := 6 } }).modMram .a fun m =>
      { m with items := [⟨0x0201, 6, 1⟩], energy := m.energy.set 9 { mwh := 48213 } }).modTime .a fun x => { x with gnss := { x.gnss with ok := true } }).modGnss .a fun g =>
    { g with fix := { code := 2 }, good := some { code := 2, lat := 535461230, lon := 99687500, unc := 9, sats := 9, iono := true, time := 1000000001000000000 } }
theorem test_voyage_record :
    let e : VoyEntry := { seq := 0, time := 1000000002000000000, pos := 1, began := true, cause := 1, run := 0, removing := false, unclaimed := false }
    ({ voyage.voyRecord .a 2 e 1234 with index := 0x12C5A } : LogRec).bytes.take 60 =
      be 60 0x00012C5A0DE0B6B41E999400110100030A0000000A0101021FEA7D6E05F11C4C000003E80009091300000000000000000000BC5500000032000004D2 := by decide +kernel
end Sys2Proof.Tests
end

section
/-!
PROOFS. Every command moves the clock to its own instant at the latest and leaves the queue alone (log entry 1), whatever else it does; with the
range of a well-formed command's instant, the clock stays within its 63 bits.
-/
namespace Sys2Proof.Laws.InstantFits

/-- The laws of the single commands, put together in the order of the constructors. -/
theorem statement_all (i : Instr) : Statement i :=
  i.rec
    ping identify sessionInfo setAddress subscribe unsubscribe listSubs setChannel setGroup setPwm clearTrip clearGlaze own release setLoop
    getConfig stageConfig commitConfig discardConfig getChannel getTwin latchMeas latchRead getTrigger getEnergy getHk getAlarms getPortStats
    getTime getGnss getGnssMeas snapCapture snapRead logRead logFind logMark logStatus coneRead coneStatus coneClear winRead winWrite winErase
    spiXfer pairStatus roleSwap resolveSplit regRead regWrite fwBegin fwData fwCommit fwRestart fwStatus keyLoad keyClear signRevoke debugHalt
    cartEpochReset scrubEn scrubNow oltestNow hsSelftestNow notchEnable syaskegDatagram x50Transfer ipv4Datagram arpFrame icmpEchoRequest ptpSync
    ptpFollowUp ptpAnnounce ptpDelayResp delayReq ptpMasterLost plcaBeacon beaconLoss rxFcs portQuiet portDown portUp arpRetry arpEntryExpiry
    gratuitousArp dupEntryExpiry strangerTrafficClear addressChangeEffect keyRetiringErase leaseExpiry subscriptionEnd streamReport stageHoldExpiry
    reportSeqMirror scheduleArm armedApply scheduleUnarmedApply scheduledSetLoop logicPowerUp firmwareRunning elect electSend electTimeout claimReq
    claimAck claimGo claimArmTimeout claimRetry commandReady imageConfirmed logicDip powerFail powerFailRestart holdupExhausted holdupCharged
    holdupPrediction logicInputState powerBusBand uvloFreewheelCap ovOff ovOffExit restartStagger cartridgeStart insertionHoldEnd cellInserted
    cellQualificationEnd prechargeDone cellRemoved cellLoadTest chargerControl chargerFault housekeepingRound shed shedResume chDerateExceeded
    derateStep fanTrayTimeout fanStartCheck fanTachFault fanTachRecovery fanRetry fanTrayPresence dieThermalShutdown dieThermalExit ctrlTsd
    ctrlTsdRelease coneCollect setpointFrame statusFrame frameSlot cartHoldExpiry turnOn turnOff decayCurrentLow decayCap offStateTest
    onStateOpenLoad reverse reverseHoldEnd reverseFlagClear startEnd prechargeTimeout prechargeEnergy heaterDrift hardShort regulationEngage
    regulationEnd limitTime limitTimerReset wireI2t stuckOn disconnectFailed stuckOff gateMonFault retryAttempt retryCounterReset protStateSave
    periodBoundary pwmCompare freewheelOn freewheelOffAhead freewheelLowCurrent swCmpFault triggerFire blankWindowStart blankWindowEnd
    delayLineCalibration debugResume averageIntervalEnd latchInstant latchComplete energySave visitStart visitEnd visitAbandoned offsetLearn
    pathComparison crazingClear pathFail voltageCalibration sharingLoop twinUnbalanced leverOpen leverClose left slotLeft slotLost twinJoin
    loopUpdate take loopStageTimeout compliance loopProbe loopHostTmo tachEdge tachEvaluation tachSpinupEnd tachStall tachOverrange timeEvaluation
    sourceQualified timeStep timeArbitration suspectExpiry holdoverExpiry taiUtcChange ppsEdge timeReport ppsDelayCalibration timePairDiff tcxoFail
    sampleFrame acquisitionSearch handOver lossOfLock sidePeakShift measurementEpoch spectralMonitor ephemerisDecoded almanacWrite snapStored
    snapProcessed scheduledCapture fftSelfTest gnssCardPresence antOpen antShort antBiasReapply logRecord loss voyage voyageAck mirrorGapTimeout
    lineSample contactChange lineState fltAssert fltRelease limpDemand soakEnd handoverRampEnd heartbeatSend heartbeat heartbeatMissed failN
    lockstepMismatch watchdogExpiry failover prepare prepAck commit commitAck mirrorTimeout stateDigest digestMismatch resyncComplete joinComplete
    handoff autoRoleSwap splitReelect controllerLeverOpen leverWaitExpiry controllerLeverClose codePlugCheck s50Change x50Attach scrubPass
    doubleBitError seriesTest dailySelftest winPoll winTimeout winProbe expSupply logicRailDipOnset ppsPulseEnd spiTransactionEnd energyCounterWrite
    notApplied busCollisions plcaDegradedClear addrConflictCleared antOpenCleared antShortCleared expSupplyCleared cartridgeLinkLoss

end Sys2Proof.Laws.InstantFits

namespace Sys2Proof.Machine

/-- Every meaning has the shape that `run` gives: it completes, and whatever state `v` its effect comes to, the clock and the queue are those
with which the command began. -/
theorem exec_eq_keep (i : Instr) (s : State) : ∃ v, exec i s = .next ((s.begin i.instant).keep v) := by
  cases i <;> exact ⟨_, rfl⟩

theorem now_of_exec {i : Instr} {s u : State} (h : exec i s = .next u) : u.now = max s.now i.instant := by
  obtain ⟨v, e⟩ := exec_eq_keep i s
  cases e.symm.trans h
  simp

theorem pending_of_exec {i : Instr} {s u : State} (h : exec i s = .next u) : u.pending = s.pending := by
  obtain ⟨v, e⟩ := exec_eq_keep i s
  cases e.symm.trans h
  simp

/-- What a step can do: idle on an empty queue, or run the command at the front with the queue's rest (log entry 5). -/
theorem step_cases {s u : State} (h : step s = .next u) :
    (s.pending = [] ∧ u = s) ∨ ∃ i rest, s.pending = i :: rest ∧ exec i { s with pending := rest } = .next u := by
  unfold step at h
  split at h
  next hq =>
    cases h
    exact .inl ⟨hq, rfl⟩
  next i rest hq => exact .inr ⟨i, rest, hq, h⟩

/-- Taking the command at the front leaves an `InTime` state, and the command taken is well formed. -/
theorem State.InTime.take {s : State} {i : Instr} {rest : List Instr} (h : s.InTime) (hq : s.pending = i :: rest) :
    State.InTime { s with pending := rest } ∧ i.wf = true := by
  obtain ⟨hnow, hwf⟩ := h
  rw [hq, List.forall_mem_cons] at hwf
  exact ⟨⟨hnow, hwf.2⟩, hwf.1⟩

theorem exec_keeps_inTime {i : Instr} {s u : State} (hs : s.InTime) (hi : i.wf = true) (h : exec i s = .next u) : u.InTime := by
  obtain ⟨hnow, hwf⟩ := hs
  constructor
  · rw [now_of_exec h]
    exact Nat.max_lt.mpr ⟨hnow, Laws.InstantFits.statement_all i hi⟩
  · rwa [pending_of_exec h]

/-- Settles O53, by the two things a step can do: an idle step changes nothing, and a command that is well formed moves the clock no further than
its own instant. -/
theorem clockStaysInRange : Obligations.ClockStaysInRange := by
  intro s u hs h
  obtain ⟨-, rfl⟩ | ⟨i, rest, hq, hx⟩ := step_cases h
  · exact hs
  · obtain ⟨hrest, hi⟩ := hs.take hq
    exact exec_keeps_inTime hrest hi hx

end Sys2Proof.Machine
end

section
/-!
PROOFS. Every protection of chapter 06 is a fresh trip of its channel: what such a trip leaves of the channel is said once, in terms of the entry of the trip
and of its turn-off, and each event adds its own condition (R243 to R261).
-/
namespace Sys2Proof.Machine

theorem when_of {p : Bool} (f : State → State) (s : State) (h : p = true) : when p f s = f s := if_pos h

/-- The protection state as a fresh trip enters it, before the turn-off (R243, R264). -/
def State.tripEntry (s : State) (c : Ch) (cause : Nat) (q : Prot) : Prot :=
  let p := (s.chan c).prot
  let n := if p.retrying then p.n + 1 else p.n
  let iv := retryInterval (s.chItem c 0x0116) (s.chItem c 0x0118) n (s.chItem c 0x0117)
  { q with
    trip := if cause = 0x14 || cause = 0x15 || iv = none then .locked else .tripped, tripCause := cause, second := 0, tripAt := s.now
    strat := s.chItem c 0x0116, interval := iv.getD 0, n := n, retrying := false, held := false, tripLog := true, limpOff := none, cleanSince := none }

/-- The state in which the turn-off of a fresh trip is done. -/
def State.tripTurnOff (s : State) (c : Ch) (cause : Nat) : State := (s.modProt c (s.tripEntry c cause)).tripOff c cause

/-- What a fresh trip leaves of its channel, in terms of its entry and its turn-off: the protection state is saved, and the stage shows the cause. -/
theorem trip_chan_of_fresh (s : State) (c : Ch) (cause : Nat) (h : (s.chan c).prot.trip = .none) :
    ∃ now rev, ((s.trip c cause).chan c).prot = ((s.tripTurnOff c cause).chan c).prot.save now ∧
      ((s.trip c cause).chan c).stage =
        { ((s.tripTurnOff c cause).chan c).stage with cause := ((s.tripTurnOff c cause).chan c).prot.tripCause, revUntil := rev } := by
  unfold State.trip
  dsimp only
  simp only [h, ne_eq, not_true_eq_false, if_false, State.chan_modChan, if_true, State.modStage_eq, Chan.prot_modStage, Chan.stage_modStage]
  exact ⟨_, _, rfl, rfl⟩

theorem decay_preMj (s : State) (c : Ch) (toFw slow : Bool) (cause : Nat) :
    ((s.decay c toFw slow cause).chan c).stage.preMj = (s.chan c).stage.preMj := by
  unfold State.decay State.unopposed when
  split <;> simp [Chan.decay]

/-- The turn-off of a trip leaves the dissipation of a precharge, and that of STUCK_ON opens the series switch (R257). -/
theorem tripOff_stage (s : State) (c : Ch) (cause : Nat) :
    ((s.tripOff c cause).chan c).stage.preMj = (s.chan c).stage.preMj ∧
    (cause = 0x14 → ((s.tripOff c cause).chan c).stage.ser = false) := by
  unfold State.tripOff
  dsimp only
  cases e : (s.chan c).stage.output <;> dsimp only <;> repeat' split
  all_goals simp_all [decay_preMj, Chan.cut, Stage.toOff]

section
variable {s : State} {c : Ch} {cause : Nat} (h : (s.chan c).prot.trip = .none)
include h

theorem trip_fresh_x : ((s.trip c cause).chan c).prot.x = (s.chan c).prot.x := by
  obtain ⟨now, rev, hp, -⟩ := trip_chan_of_fresh s c cause h
  obtain ⟨-, -, hx⟩ := tripOff_prot (s.modProt c (s.tripEntry c cause)) c cause
  rw [hp]
  exact hx.trans (by simp [State.tripEntry])

theorem trip_fresh_preMj : ((s.trip c cause).chan c).stage.preMj = (s.chan c).stage.preMj := by
  obtain ⟨now, rev, -, hs⟩ := trip_chan_of_fresh s c cause h
  rw [hs]
  exact (tripOff_stage ..).1.trans (by simp)

/-- STUCK_ON and STUCK_OFF lock out whatever the retry strategy (R264). -/
theorem trip_fresh_locked (hc : cause = 0x14 ∨ cause = 0x15) : ((s.trip c cause).chan c).prot.trip = .locked := by
  obtain ⟨now, rev, hp, -⟩ := trip_chan_of_fresh s c cause h
  obtain ⟨ht, -, -⟩ := tripOff_prot (s.modProt c (s.tripEntry c cause)) c cause
  rw [hp]
  exact ht.trans (by rcases hc with rfl | rfl <;> simp [State.tripEntry])

theorem trip_fresh_ser (hc : cause = 0x14) : ((s.trip c cause).chan c).stage.ser = false := by
  obtain ⟨now, rev, -, hs⟩ := trip_chan_of_fresh s c cause h
  rw [hs]
  exact (tripOff_stage ..).2 hc

end

/-- What a command keeps of a trip that follows changes of its channel alone: all of it. -/
theorem keep_trip {b s : State} {c : Ch} (r : OnlyChan c b s) (cause : Nat) : b.keep (s.trip c cause) = s.trip c cause :=
  (r.trans (onlyChan_trip s c cause)).keep

section
variable (t : Instant) (c : Ch)

theorem hardShort_trips (shunt mirror : MilliAmp) : Does (.hardShort t c shunt mirror)
    (fun b => (b.chan c).prot.trip = .none ∧ (b.cart (slotOf c)).powered = true ∧ (90000 ≤ shunt ∨ 90000 ≤ mirror))
    (fun b u => Tripped c 0x10 u ∧ OnlyChan c b u) := by
  refine does_of_run _ (fun s => show execHardShort t c shunt mirror s = run t _ s from rfl) fun b ⟨ht, hp, hma⟩ => ?_
  rw [when_of _ _ (by simpa [hp] using hma), keep_trip (OnlyChan.refl c b)]
  exact ⟨trip_fresh b c _ ht, onlyChan_trip ..⟩

theorem limitTime_trips : Does (.limitTime t c)
    (fun b => (b.chan c).prot.trip = .none ∧ b.engine c = true ∧ (b.chan c).prot.limiting = true ∧
      b.chItem c 0x0113 * 1000000 ≤ (b.chan c).prot.limTimer + (b.now - (b.chan c).prot.regAt))
    (fun b u => Tripped c 0x11 u ∧ OnlyChan c b u) := by
  refine does_of_run _ (fun s => show execLimitTime t c s = run t _ s from rfl) fun b ⟨ht, he, hl, hlim⟩ => ?_
  dsimp only
  rw [when_of _ _ (by simpa [he, hl, Prot.limited, ms, msec] using hlim), keep_trip (OnlyChan.refl c b)]
  exact ⟨trip_fresh b c _ ht, onlyChan_trip ..⟩

theorem wireI2t_trips : Does (.wireI2t t c)
    (fun b => (b.chan c).prot.trip = .none ∧ b.engine c = true ∧ (b.chan c).stage.output.conducts = true ∧
      2 ^ 60 ≤ wireStep (b.chan c).prot.x (b.chan c).wireMa (b.chItem c 0x0114) (b.chItem c 0x0115))
    (fun b u => Tripped c 0x12 u ∧ (u.chan c).prot.x = wireStep (b.chan c).prot.x (b.chan c).wireMa (b.chItem c 0x0114) (b.chItem c 0x0115) ∧
      OnlyChan c b u) := by
  refine does_of_run _ (fun s => show execWireI2t t c s = run t _ s from rfl) fun b ⟨ht, he, hc, hx⟩ => ?_
  dsimp only
  rw [when_of _ _ he, if_pos ⟨hx, .inr hc⟩]
  generalize wireStep (b.chan c).prot.x _ _ _ = y
  have r : OnlyChan c b (b.modProt c fun p => { p with x := y }) := (OnlyChan.refl c b).modProt _
  have ht' : ((b.modProt c fun p => { p with x := y }).chan c).prot.trip = .none := by simpa using ht
  rw [keep_trip r]
  exact ⟨trip_fresh _ c _ ht', (trip_fresh_x ht').trans (by simp), r.trans (onlyChan_trip ..)⟩

theorem stuckOn_trips (ns conf n : Nat) : Does (.stuckOn t c ns conf n)
    (fun b => (b.chan c).prot.trip = .none ∧ (b.cart (slotOf c)).powered = true ∧ (b.chan c).prot.gateMon = false ∧ b.blanked c 2 = false ∧
      b.stuckOn c ns conf n = true)
    (fun b u => Tripped c 0x14 u ∧ (u.chan c).prot.trip = .locked ∧ (u.chan c).stage.ser = false ∧ OnlyChan c b u) := by
  refine does_of_run _ (fun s => show execStuckOn t c ns conf n s = run t _ s from rfl) fun b ⟨ht, hp, hg, hb, hs⟩ => ?_
  dsimp only
  rw [when_of _ _ (by simp [hp, hg, hb, hs]), keep_trip (OnlyChan.refl c b)]
  exact ⟨trip_fresh b c _ ht, trip_fresh_locked ht (.inl rfl), trip_fresh_ser ht rfl, onlyChan_trip ..⟩

theorem stuckOff_trips (sw : MilliVolt) (ns n : Nat) : Does (.stuckOff t c sw ns n)
    (fun b => (b.chan c).prot.trip = .none ∧ b.engine c = true ∧ (b.chan c).stage.running = true ∧ (b.chan c).prot.gateMon = false ∧
      (b.chan c).prot.limiting = false ∧ b.blanked c 2 = false ∧ sw * 2 < (b.cart (slotOf c)).busMv ∧
      (((b.chan c).stage.output = .on ∧ 2000000 ≤ ns) ∨ ((b.chan c).stage.output = .pwm ∧ 8 ≤ n ∧ 10000 ≤ (b.chan c).gen.onNs)))
    (fun b u => Tripped c 0x15 u ∧ (u.chan c).prot.trip = .locked ∧ OnlyChan c b u) := by
  refine does_of_run _ (fun s => show execStuckOff t c sw ns n s = run t _ s from rfl) fun b ⟨ht, he, hr, hg, hl, hb, hsw, hout⟩ => ?_
  dsimp only
  rw [when_of, keep_trip (OnlyChan.refl c b)]
  · exact ⟨trip_fresh b c _ ht, trip_fresh_locked ht (.inr rfl), onlyChan_trip ..⟩
  · obtain ⟨ho, hns⟩ | ⟨ho, hn, hon⟩ := hout
    · simp [he, hr, hg, hl, hb, hsw, ho, hns, msec]
    · simp [he, hr, hg, hl, hb, hsw, ho, hn, hon, usec]

theorem prechargeTimeout_trips (mv : MilliVolt) : Does (.prechargeTimeout t c mv)
    (fun b => (b.chan c).prot.trip = .none ∧ (b.chan c).stage.profile = 3 ∧ (b.chan c).stage.phase = .start ∧
      (b.chan c).stage.output.conducts = true ∧ (b.chan c).stage.startAt + (b.chan c).stage.p 6 * 1000000 ≤ b.now ∧
      mv * 10 < (b.cart (slotOf c)).busMv * 9 ∧ (b.cart (slotOf c)).frozen = false)
    (fun b u => Tripped c 0x0B u ∧ OnlyChan c b u) := by
  refine does_of_run _ (fun s => show execPrechargeTimeout t c mv s = run t _ s from rfl) fun b ⟨ht, hpr, hph, hc, hnow, hmv, hf⟩ => ?_
  have low : b.startOver c mv = false := by simpa [State.startOver, hpr] using hmv
  dsimp only
  rw [when_of _ _ (by simp [hpr, hph, hc, hf, low, ms, msec, hnow]), keep_trip (OnlyChan.refl c b)]
  exact ⟨trip_fresh b c _ ht, onlyChan_trip ..⟩

theorem prechargeEnergy_trips (mj : Nat) : Does (.prechargeEnergy t c mj)
    (fun b => (b.chan c).prot.trip = .none ∧ (b.chan c).stage.profile = 3 ∧ (b.chan c).stage.phase = .start ∧
      (b.chan c).stage.output.conducts = true ∧ 5000 < mj ∧ (b.cart (slotOf c)).frozen = false)
    (fun b u => Tripped c 0x0C u ∧ (u.chan c).stage.preMj = mj ∧ OnlyChan c b u) := by
  refine does_of_run _ (fun s => show execPrechargeEnergy t c mj s = run t _ s from rfl) fun b ⟨ht, hpr, hph, hc, hmj, hf⟩ => ?_
  have r : OnlyChan c b (b.modStage c fun g => { g with preMj := mj }) := (OnlyChan.refl c b).modStage _
  have ht' : ((b.modStage c fun g => { g with preMj := mj }).chan c).prot.trip = .none := by simpa using ht
  dsimp only
  rw [when_of _ _ (by simp [hpr, hph, hc, hf]), if_pos hmj, keep_trip r]
  exact ⟨trip_fresh _ c _ ht', (trip_fresh_preMj ht').trans (by simp), r.trans (onlyChan_trip ..)⟩

end

/-- Settles O3: each protection's event, at its condition, is a fresh trip of its channel. -/
theorem protectionsTrip : Obligations.ProtectionsTrip :=
  ⟨hardShort_trips, limitTime_trips, wireI2t_trips, stuckOn_trips, stuckOff_trips, prechargeTimeout_trips, prechargeEnergy_trips⟩

end Sys2Proof.Machine
end

section
/-!
PROOFS. Regulation, retry attempts and the protection save touch one channel, or the channels of one cartridge, and at most the logs (R245 to R283).
-/
namespace Sys2Proof.Machine

/-! The channels of a cartridge. -/

theorem OnlyChansOf.refl (k : Slot) (s : State) : OnlyChansOf k s s := ⟨fun _ _ => rfl, rfl⟩

theorem OnlyChansOf.trans {k : Slot} {s u v : State} (h : OnlyChansOf k s u) (g : OnlyChansOf k u v) : OnlyChansOf k s v :=
  ⟨fun d hd => by rw [g.1 d hd, h.1 d hd], by rw [g.2, h.2]⟩

theorem OnlyChansOf.keep {k : Slot} {s u : State} (h : OnlyChansOf k s u) : s.keep u = u := by
  refine State.keep_of ?_ ?_ <;> rw [h.2]

theorem OnlyChan.toChansOf {c : Ch} {s u : State} (h : OnlyChan c s u) : OnlyChansOf (slotOf c) s u :=
  ⟨fun d hd => h.1 d fun e => hd (by rw [e]), h.2⟩

/-- What touches one channel alone, done over channels of one cartridge, touches that cartridge's channels alone. -/
theorem onlyChansOf_overList (k : Slot) (f : Ch → State → State) (h : ∀ c s, OnlyChan c s (f c s)) (l : List Ch)
    (hl : ∀ c ∈ l, slotOf c = k) (s : State) : OnlyChansOf k s (overList l f s) := by
  induction l generalizing s with
  | nil => exact OnlyChansOf.refl ..
  | cons c l ih =>
    have g : OnlyChansOf (slotOf c) s (f c s) := (h c s).toChansOf
    rw [hl c (by simp)] at g
    exact g.trans (ih (fun d hd => hl d (by simp [hd])) (f c s))

@[simp] theorem slotOf_chOf (k : Slot) (p : Fin 4) : slotOf (chOf k p) = k := by revert k p; decide
@[simp] theorem posOf_chOf (k : Slot) (p : Fin 4) : posOf (chOf k p) = p := by revert k p; decide

theorem chOf_mem_chansOf (k : Slot) (p : Fin 4) : chOf k p ∈ chansOf k := (chansOf_mem k _).2 (slotOf_chOf k p)

/-- What a command keeps of an update of one channel: all of it. -/
theorem keep_modChan (b : State) (c : Ch) (f : Chan → Chan) : b.keep (b.modChan c f) = b.modChan c f := (onlyChan_modChan b c f).keep

section
variable (t : Instant) (c : Ch)

theorem regulationEngage_engages (ma : MilliAmp) : Does (.regulationEngage t c ma)
    (fun b => b.engine c = true ∧ (b.chan c).stage.output.conducts = true ∧ (b.chan c).prot.reg = false ∧ (b.limitMa c : Int) ≤ ma ∧ b.limHeld c = false)
    (fun b u => (u.chan c).prot.reg = true ∧ ((u.chan c).prot.limiting = true ↔ (b.chan c).stage.phase ≠ .start) ∧ (u.chan c).prot.regAt = b.now ∧
      (u.chan c).stage = (b.chan c).stage ∧ OnlyChan c b u) := by
  refine does_of_run _ (fun s => show execRegulationEngage t c ma s = run t _ s from rfl) fun b ⟨he, hc, hr, hma, hl⟩ => ?_
  dsimp only
  rw [when_of _ _ (by simp [he, hc, hr, hma, hl]), State.modProt_eq, keep_modChan]
  exact ⟨by simp, by simp, by simp, by simp, onlyChan_modChan ..⟩

theorem regulationEnd_ends (ma : MilliAmp) (ns : Nat) (period : Bool) : Does (.regulationEnd t c ma ns period)
    (fun b => b.engine c = true ∧ (b.chan c).prot.reg = true ∧ 100000 ≤ ns ∧ ma * 100 ≤ b.shared c (b.chItem c 0x0112 * 100) * 95 ∧
      ((b.chan c).stage.output = .pwm → period = true))
    (fun b u => (u.chan c).prot.reg = false ∧ (u.chan c).prot.limiting = false ∧ (u.chan c).prot.regEnd = b.now ∧
      (u.chan c).stage = (b.chan c).stage ∧ OnlyChan c b u) := by
  refine does_of_run _ (fun s => show execRegulationEnd t c ma ns period s = run t _ s from rfl) fun b ⟨he, hr, hns, hma, hper⟩ => ?_
  dsimp only
  rw [when_of, State.modProt_eq, keep_modChan]
  · exact ⟨by simp [Prot.endReg], by simp [Prot.endReg], by simp [Prot.endReg, hr], by simp, onlyChan_modChan ..⟩
  · by_cases ho : (b.chan c).stage.output = .pwm
    · simp [he, hr, usec, hns, hma, hper ho]
    · simp [he, hr, usec, hns, hma, ho]

theorem limitTimerReset_resets : Does (.limitTimerReset t c)
    (fun b => b.engine c = true ∧ (b.chan c).prot.reg = false ∧ (b.chan c).prot.regEnd + 100000000 ≤ b.now)
    (fun b u => u.chan c = (b.chan c).modProt (fun p => { p with limTimer := 0 }) ∧ OnlyChan c b u) := by
  refine does_of_run _ (fun s => show execLimitTimerReset t c s = run t _ s from rfl) fun b ⟨he, hr, hnow⟩ => ?_
  dsimp only
  rw [when_of _ _ (by simp [he, hr, msec, hnow]), State.modProt_eq, keep_modChan]
  exact ⟨by simp, onlyChan_modChan ..⟩

theorem retryAttempt_runs : Does (.retryAttempt t c)
    (fun b => b.engine c = true ∧ b.retryDue c = true ∧ b.retryWaits c = false ∧ (b.chan c).ctrl.source ≠ .open ∧ (b.cart (slotOf c)).mayDrive = true ∧
      (b.chan c).ctrl.level.isOn = true)
    (fun b u => (u.chan c).prot.trip = .none ∧ (u.chan c).prot.tripCause = 0 ∧ (u.chan c).prot.retrying = true ∧ (u.chan c).prot.n = (b.chan c).prot.n ∧
      OnlyChanLog c b u) := by
  refine does_of_run _ (fun s => show execRetryAttempt t c s = run t _ s from rfl) fun b ⟨he, hd, hw, hs, hm, hl⟩ => ?_
  have o := onlyChanLog_attempt b c
  have ends : (b.attempt c).chan c = (b.chan c).modProt (·.endTrip true) := by simp [State.attempt, hd, hw, hs, hm, hl]
  rw [when_of _ _ he, o.keep, ends]
  exact ⟨rfl, rfl, rfl, rfl, o⟩

theorem retryCounterReset_resets (a : Instant) : Does (.retryCounterReset t c)
    (fun b => b.engine c = true ∧ (b.chan c).stage.running = true ∧ (b.chan c).prot.trip = .none ∧ (b.chan c).prot.cleanSince = some a ∧
      a + 60000000000 ≤ b.now ∧ a + (b.chan c).prot.interval ≤ b.now)
    (fun b u => u.chan c = (b.chan c).modProt (fun p => { p with n := 0, retrying := false }) ∧ OnlyChan c b u) := by
  refine does_of_run _ (fun s => show execRetryCounterReset t c s = run t _ s from rfl) fun b ⟨he, hr, ht, hcl, h60, hiv⟩ => ?_
  have clean : b.held (b.chan c).prot.cleanSince (max (60 * sec) (b.chan c).prot.interval) = true := by
    have : a + max (60 * sec) (b.chan c).prot.interval ≤ b.now := by
      rw [← Nat.add_max_add_left]
      exact Nat.max_le.2 ⟨h60, hiv⟩
    simpa [State.held, hcl] using this
  dsimp only
  rw [when_of _ _ (by simp [he, hr, ht, clean]), State.modProt_eq, keep_modChan]
  exact ⟨by simp, onlyChan_modChan ..⟩

theorem disconnectFailed_marks (ns : Nat) : Does (.disconnectFailed t c ns)
    (fun b => (b.cart (slotOf c)).powered = true ∧ (b.chan c).prot.trip = .locked ∧ (b.chan c).prot.tripCause = 0x14 ∧ (b.chan c).prot.discFail = 0 ∧
      20000 < ns)
    (fun b u => u.chan c = (b.chan c).modProt (fun p => { p with discFail := 1 }) ∧ OnlyChanLog c b u) := by
  refine does_of_run _ (fun s => show execDisconnectFailed t c ns s = run t _ s from rfl) fun b ⟨hp, ht, hc, hd, hns⟩ => ?_
  have o : OnlyChanLog c b ((b.modProt c fun p => { p with discFail := 1 }).chanAlarm c 0x020C true 0 1 ns (20 * usec)) :=
    ((OnlyChanLog.refl c b).modProt _).alarm ..
  dsimp only
  rw [when_of _ _ (by simp [hp, ht, hc, hd, usec, hns]), o.keep]
  exact ⟨by simp, o⟩

theorem gateMonFault_marks (ns : Nat) : Does (.gateMonFault t c ns)
    (fun b => (b.cart (slotOf c)).powered = true ∧ (b.chan c).prot.gateMon = false ∧ 2000 < ns)
    (fun b u => u.chan c = (b.chan c).modProt (fun p => { p with gateMon := true }) ∧ OnlyChanLog c b u) := by
  refine does_of_run _ (fun s => show execGateMonFault t c ns s = run t _ s from rfl) fun b ⟨hp, hg, hns⟩ => ?_
  have o : OnlyChanLog c b ((b.modProt c fun p => { p with gateMon := true }).chanAlarm c 0x020E true 0 1 ns (2 * usec)) :=
    ((OnlyChanLog.refl c b).modProt _).alarm ..
  rw [when_of _ _ (by simp [hp, hg, usec, hns]), o.keep]
  exact ⟨by simp, o⟩

end

theorem protStateSave_saves (t : Instant) (k : Slot) : Does (.protStateSave t k)
    (fun b => (b.cart k).powered = true)
    (fun b u => (∀ p : Fin 4, u.chan (chOf k p) = (b.chan (chOf k p)).modProt (·.save b.now)) ∧ OnlyChansOf k b u) := by
  refine does_of_run _ (fun s => show execProtStateSave t k s = run t _ s from rfl) fun b hp => ?_
  have one : ∀ c (s : State), OnlyChan c s (s.modProt c (·.save s.now)) := fun c s => (OnlyChan.refl c s).modProt _
  have o := onlyChansOf_overList k (fun c s => s.modProt c (·.save s.now)) one (chansOf k) (fun c hc => (chansOf_mem k c).1 hc) b
  rw [when_of _ _ hp, o.keep]
  refine ⟨fun p => ?_, o⟩
  obtain ⟨s', hs, hc, hu⟩ := over_at _ (fun c s => (one c s).toLog) (chansOf k) (chansOf_nodup k) _ (chOf_mem_chansOf k p) b
  have now : s'.now = b.now := by rw [hs]
  rw [hu, State.modProt_eq, State.chan_modChan, if_pos rfl, hc, now]

/-- Settles O4: each event, at its condition, is one update of its channel, with a retry attempt and a failure logged beside it. -/
theorem regulationAndRetriesAct : Obligations.RegulationAndRetriesAct :=
  ⟨regulationEngage_engages, regulationEnd_ends, limitTimerReset_resets, retryAttempt_runs, retryCounterReset_resets, protStateSave_saves,
    disconnectFailed_marks, gateMonFault_marks⟩

end Sys2Proof.Machine
end

section
/-!
PROOFS. The service events of chapter 24: what a debug halt and its end do to a cartridge, that the levers and the code plug move no output, and what a
controller that leaves ACTIVE for SERVICE keeps (R943 to R970).
-/
namespace Sys2Proof.Machine

/-! What logging leaves of a controller. -/

section
variable {x y : Ctlr} (h : Ctlr.Logged x y)
include h

theorem Ctlr.Logged.role : y.role = x.role := by rw [h.2]
theorem Ctlr.Logged.running : y.running = x.running := by rw [h.2]; rfl
theorem Ctlr.Logged.link : y.link = x.link := by rw [h.2]; rfl
theorem Ctlr.Logged.ready : y.ready = x.ready := by rw [h.2]
theorem Ctlr.Logged.beatTx : y.beatTx = x.beatTx := by rw [h.2]
theorem Ctlr.Logged.lever : y.lever = x.lever := by rw [h.2]
theorem Ctlr.Logged.leverAt : y.leverAt = x.leverAt := by rw [h.2]
theorem Ctlr.Logged.ident : y.mram.ident = x.mram.ident := by rw [h.2]
theorem Ctlr.Logged.foreign : y.mram.foreign = x.mram.foreign := by rw [h.2]
theorem Ctlr.Logged.scrubEn : y.scrubEn = x.scrubEn := by rw [h.2]
theorem Ctlr.Logged.scrubIn : y.scrubIn = x.scrubIn := by rw [h.2]
theorem Ctlr.Logged.scrubRun : y.scrubRun = x.scrubRun := by rw [h.2]
theorem Ctlr.Logged.directAl : y.directAl = x.directAl := by rw [h.2]

end

/-- Who writes what a controller finds follows from the roles, from who runs, and from the pair link (R814). -/
theorem State.writer_congr {s u : State} (hr : ∀ d, (u.ctl d).role = (s.ctl d).role) (hn : ∀ d, (u.ctl d).running = (s.ctl d).running)
    (hl : ∀ d, (u.ctl d).link = (s.ctl d).link) (c : Ctl) : u.writer c = s.writer c := by
  have active : u.active = s.active := by
    have ha := hr .a
    have hb := hr .b
    simp only [State.ctl] at ha hb
    simp only [State.active, ha, hb]
  have linkUp : u.linkUp = s.linkUp := by
    have ha := hl .a
    have hb := hl .b
    simp only [State.ctl] at ha hb
    simp only [State.linkUp, ha, hb]
  simp only [State.writer, hr, hn, active, linkUp]

theorem OnlyLog.writer {s u : State} (h : OnlyLog s u) (c : Ctl) : u.writer c = s.writer c :=
  State.writer_congr (fun d => (h.1 d).role) (fun d => (h.1 d).running) (fun d => (h.1 d).link) c

/-! Alarms. -/

theorem alarms_setAlarm (x : Ctlr) (code ix : Nat) (on : Bool) (now : UnitTime) :
    (x.setAlarm code ix on now).alarms = (x.putAlarm code ix on now).alarms := by
  unfold Ctlr.setAlarm
  dsimp only
  split <;> rfl

/-- An alarm's entry after an onset or a clearing shows which of them it was (R616). -/
theorem alarmed_setAlarm_same (x : Ctlr) (code ix : Nat) (on : Bool) (now : UnitTime) :
    (x.setAlarm code ix on now).alarmed code ix = on := by
  unfold Ctlr.alarmed
  rw [alarms_setAlarm]
  unfold Ctlr.putAlarm
  split
  next found =>
    rw [List.any_map]
    cases on
    · refine List.any_eq_false.2 fun a _ => ?_
      by_cases e : a.code = code ∧ a.index = ix <;> simp [e]
    · obtain ⟨a, ha, e⟩ := List.any_eq_true.1 found
      have e : a.code = code ∧ a.index = ix := by simpa using e
      exact List.any_eq_true.2 ⟨a, ha, by simp [e]⟩
  next none =>
    cases on
    · refine List.any_eq_false.2 fun a ha active => none (List.any_eq_true.2 ⟨a, ha, ?_⟩)
      exact (Bool.and_eq_true_iff.1 active).1
    · simp

theorem alarmed_setAlarm_other (x : Ctlr) {code ix code' ix' : Nat} (on : Bool) (now : UnitTime) (h : ¬(code' = code ∧ ix' = ix)) :
    (x.setAlarm code ix on now).alarmed code' ix' = x.alarmed code' ix' := by
  have apart : (decide (code = code') && decide (ix = ix')) = false := by
    rw [← Bool.decide_and]
    exact decide_eq_false fun ⟨e, f⟩ => h ⟨e.symm, f.symm⟩
  unfold Ctlr.alarmed
  rw [alarms_setAlarm]
  unfold Ctlr.putAlarm
  split
  · rw [List.any_map]
    congr 1
    funext a
    by_cases e : a.code = code ∧ a.index = ix
    · cases on <;> simp only [Function.comp, e, apart, and_self, if_true, Bool.false_and, Bool.false_eq_true, if_false]
    · simp [e]
  · split
    · rw [List.any_append, List.any_cons, apart, Bool.false_and, List.any_nil, Bool.or_false, Bool.or_false]
    · rfl

@[simp] theorem alarmed_logAt (s : State) (w d : Ctl) (r : LogRec) (code ix : Nat) :
    ((s.logAt w r).ctl d).alarmed code ix = (s.ctl d).alarmed code ix := by
  simp only [State.logAt, State.modMram_eq, State.ctl_modCtl]
  split <;> rfl

/-- An alarm stands at its writer as it was found last. -/
theorem alarmed_alarm_same {s : State} {c w : Ctl} (hw : s.writer c = some w) (code ix : Nat) (on : Bool) (source : Nat) (old new meas limit : Int)
    (serial : Bytes) : ((s.alarm c code ix on source old new meas limit serial).ctl w).alarmed code ix = on := by
  unfold State.alarm
  rw [hw]
  dsimp only
  split
  · assumption
  · simp [alarmed_setAlarm_same]

theorem alarmed_alarm_other (s : State) (c d : Ctl) {code ix code' ix' : Nat} (on : Bool) (source : Nat) (old new meas limit : Int) (serial : Bytes)
    (h : ¬(code' = code ∧ ix' = ix)) :
    ((s.alarm c code ix on source old new meas limit serial).ctl d).alarmed code' ix' = (s.ctl d).alarmed code' ix' := by
  unfold State.alarm
  split
  · rfl
  · split
    · rfl
    · simp only [alarmed_logAt, State.ctl_modCtl]
      split
      · exact alarmed_setAlarm_other _ _ _ h
      · rfl

/-! Outputs that stand as they did. -/

theorem OutputsKept.refl (s : State) : OutputsKept s s := ⟨rfl, rfl⟩

theorem OutputsKept.trans {s u v : State} (h : OutputsKept s u) (g : OutputsKept u v) : OutputsKept s v := ⟨g.1.trans h.1, g.2.trans h.2⟩

theorem OnlyCtls.outputs {s u : State} (h : OnlyCtls s u) : OutputsKept s u := ⟨by rw [h], by rw [h]⟩

theorem OnlyLog.outputs {s u : State} (h : OnlyLog s u) : OutputsKept s u := ⟨h.carts, h.chans⟩

theorem OnlyCtls.keep {s u : State} (h : OnlyCtls s u) : s.keep u = u := by
  refine State.keep_of ?_ ?_ <;> rw [h]

theorem outputs_modCtl (s : State) (c : Ctl) (f : Ctlr → Ctlr) : OutputsKept s (s.modCtl c f) := (onlyCtls_modCtl s c f).outputs

theorem outputs_setRole (s : State) (c : Ctl) (r : Role) (cause unsync ev : Nat) : OutputsKept s (s.setRole c r cause unsync ev) := by
  constructor <;> rw [setRole_leaves]

/-- What an effect on every element of a list leaves as it was, if each of its steps does. -/
theorem overList_keeps {α β : Type} (g : State → β) (f : α → State → State) (h : ∀ x s, g (f x s) = g s) (l : List α) (s : State) :
    g (overList l f s) = g s := by
  induction l generalizing s with
  | nil => rfl
  | cons x l ih => exact (ih (f x s)).trans (h x s)

/-! Roles. -/

/-- What a change of role leaves of a controller: its readiness, the heartbeat that it sends, and its lever. -/
def Ctlr.front (x : Ctlr) : Bool × Option Beat × Bool × Option Instant := (x.ready, x.beatTx, x.lever, x.leverAt)

theorem Ctlr.front_eq {x : Ctlr} {ready : Bool} {beat : Option Beat} {lever : Bool} {at_ : Option Instant}
    (h : x.front = (ready, beat, lever, at_)) : x.ready = ready ∧ x.beatTx = beat ∧ x.lever = lever ∧ x.leverAt = at_ := by
  simpa [Ctlr.front] using h

theorem Ctlr.Logged.front {x y : Ctlr} (h : Ctlr.Logged x y) : y.front = x.front := by
  unfold Ctlr.front
  rw [h.ready, h.beatTx, h.lever, h.leverAt]

theorem front_roleTo (s : State) (c : Ctl) (r : Role) (cause unsync ev : Nat) :
    ((s.roleTo c r cause unsync ev).ctl c).role = r ∧ ((s.roleTo c r cause unsync ev).ctl c).front = (s.ctl c).front := by
  simp [State.roleTo, Ctlr.front]

@[simp] theorem State.ctl_setBias (s : State) (d : Ctl) : s.setBias.ctl d = s.ctl d := by rw [setBias_ant]; cases d <;> rfl

theorem logged_noteMode (s : State) (cause : Nat) (d : Ctl) : Ctlr.Logged (s.ctl d) ((s.noteMode cause).ctl d) := by
  obtain ⟨u, g, h⟩ := noteMode_log s cause
  have e : (s.noteMode cause).ctl d = u.ctl d := by rw [h]; cases d <;> rfl
  rw [e]
  exact g.1 d

/-- A role in which no start ends is taken with logging beside it (R159, R876). -/
theorem front_setRole (s : State) (c : Ctl) (r : Role) (cause unsync ev : Nat) (hr : ¬(r = .unsynced ∨ r = .hold ∨ r = .faulted)) :
    ((s.setRole c r cause unsync ev).ctl c).role = r ∧ ((s.setRole c r cause unsync ev).ctl c).front = (s.ctl c).front := by
  obtain ⟨hrole, hfront⟩ := front_roleTo s c r cause unsync ev
  unfold State.setRole
  dsimp only
  rw [if_neg hr]
  have g := logged_noteMode (s.roleTo c r cause unsync ev).setBias (if r = .unsynced then unsync else 0) c
  rw [State.ctl_setBias] at g
  exact ⟨g.role.trans hrole, g.front.trans hfront⟩

/-! Debug halts. -/

/-- A cartridge's channels done one by one, each in that channel alone, leave the cartridges. -/
theorem carts_overList (f : Ch → State → State) (h : ∀ c s, OnlyChan c s (f c s)) (l : List Ch) (s : State) : (overList l f s).carts = s.carts :=
  overList_keeps State.carts f (fun c s => by rw [(h c s).2]) l s

theorem cart_of_carts {s u : State} (h : u.carts = s.carts) (k : Slot) : u.cart k = s.cart k := by simp only [State.cart, h]

theorem halt_frozen (s : State) (k : Slot) : ((s.halt k).cart k).frozen = true := by
  unfold State.halt
  dsimp only
  split
  · assumption
  · rw [State.cart_logUnit, cart_of_carts (carts_overList _ (fun c s => (OnlyChan.refl c s).modStage _) _ _)]
    simp

/-- What the end of a halt does to a channel touches it alone. -/
theorem onlyChan_thaw (c : Ch) (s : State) (f : Chan → Chan) : OnlyChan c s ((s.modChan c f).settle c) :=
  (onlyChan_modChan s c f).trans (onlyChan_settle ..)

theorem resume_frozen (s : State) (k : Slot) : ((s.resume k).cart k).frozen = false := by
  unfold State.resume
  dsimp only
  split
  · rw [State.cart_logUnit, cart_of_carts (carts_overList _ (fun c s => onlyChan_thaw c s _) _ _)]
    simp
  next h => simpa using h

/-- The end of a halt touches its cartridge, that cartridge's channels, and the logs (R964). -/
theorem onlySlotLog_resume (s : State) (k : Slot) : OnlySlotLog k s (s.resume k) := by
  unfold State.resume
  dsimp only
  split
  · exact ((onlySlotLog_modCart s k _).trans (onlySlotLog_chansOf k _ (fun c s => (onlyChan_thaw c s _).toLog) _)).trans
      ((onlyLog_logUnit ..).toSlot k)
  · exact OnlySlotLog.refl k s

/-- Halts that end one after another leave no cartridge of the list halted, and halt none. -/
theorem resume_overList_frozen (l : List Slot) (s : State) (k : Slot) (h : k ∈ l ∨ (s.cart k).frozen = false) :
    ((overList l (fun j s => s.resume j) s).cart k).frozen = false := by
  induction l generalizing s with
  | nil => simpa [overList] using h
  | cons j l ih =>
    refine ih (s.resume j) ?_
    by_cases e : k = j
    · subst e
      exact .inr (resume_frozen s k)
    · rw [(onlySlotLog_resume s j).2.1 k e]
      simpa [e] using h

theorem resumeAll_frozen (s : State) (k : Slot) : (s.resumeAll.cart k).frozen = false :=
  resume_overList_frozen allSlots s k (.inl (List.mem_finRange k))

theorem s50_resumeAll (s : State) : s.resumeAll.s50 = s.s50 :=
  overList_keeps State.s50 _ (fun k s => by rw [(onlySlotLog_resume s k).2.2.2]) _ s

theorem x50_resumeAll (s : State) : s.resumeAll.x50 = s.x50 :=
  overList_keeps State.x50 _ (fun k s => by rw [(onlySlotLog_resume s k).2.2.2]) _ s

/-! Requests of the service port. -/

theorem OnlyCtlsOut.trans {s u v : State} (h : OnlyCtlsOut s u) (g : OnlyCtlsOut u v) : OnlyCtlsOut s v := by
  unfold OnlyCtlsOut at *
  rw [g, h]

theorem OnlyCtls.toOut {s u : State} (h : OnlyCtls s u) : OnlyCtlsOut s u := by
  unfold OnlyCtls OnlyCtlsOut at *
  rw [h]

theorem OnlyCtlsOut.cart {s u : State} (h : OnlyCtlsOut s u) (k : Slot) : u.cart k = s.cart k := by rw [h]; rfl

theorem onlyCtls_modPhy (s : State) (c : Ctl) (p : Bus) (f : Phy → Phy) : OnlyCtls s (s.modPhy c p f) := onlyCtls_modCtl ..

theorem onlyCtlsOut_emit (s : State) (o : Sent) : OnlyCtlsOut s (s.emit o) := rfl

theorem onlyCtlsOut_putFrame (s : State) (c : Ctl) (p : Bus) (len : Nat) (o : Sent) : OnlyCtlsOut s (s.putFrame c p len o) := by
  unfold State.putFrame
  split
  · rfl
  · exact (onlyCtlsOut_emit s o).trans (onlyCtls_modPhy ..).toOut

theorem onlyCtlsOut_sendOn (s : State) (c : Ctl) (p : Bus) (ip len : Nat) (o : Sent) : OnlyCtlsOut s (s.sendOn c p ip len o) := by
  unfold State.sendOn
  dsimp only
  split
  · rfl
  next a _ =>
    generalize (if a.near ip a.unit = true then ip else a.gateway) = hop
    split
    · rfl
    · split
      · exact (onlyCtlsOut_putFrame ..).trans (onlyCtls_modPhy ..).toOut
      · split
        · exact (onlyCtls_modPhy ..).toOut
        · exact (onlyCtlsOut_putFrame ..).trans (onlyCtls_modPhy ..).toOut

/-- A reply changes a controller and what the unit sends, and nothing else (R562). -/
theorem onlyCtlsOut_reply (s : State) (c : Ctl) (q : Request) (op status : Nat) (time : UnitTime) (params : Bytes) :
    OnlyCtlsOut s (s.reply c q op status time params) := by
  unfold State.reply
  split
  · rfl
  · split
    · rfl
    · dsimp only
      split
      · exact onlyCtlsOut_sendOn ..
      · exact onlyCtlsOut_emit ..

theorem onlyCtls_useKey (s : State) (c : Ctl) (cl : Client) (gen : Nat) : OnlyCtls s (s.useKey c cl gen) := by
  unfold State.useKey
  dsimp only
  split
  · exact (onlyCtls_modCtl ..).trans (onlyCtls_modCtl ..)
  · exact onlyCtls_modCtl ..

theorem onlyCtls_letIn (s : State) (q : Request) : OnlyCtls s (s.letIn q) := by
  unfold State.letIn
  exact (onlyCtls_useKey ..).trans (onlyCtls_modCtl ..)

@[simp] theorem State.cart_letIn (s : State) (q : Request) (k : Slot) : (s.letIn q).cart k = s.cart k := by
  rw [onlyCtls_letIn s q]
  rfl

@[simp] theorem State.claims_letIn (s : State) (q : Request) (c : Ctl) : ((s.letIn q).ctl c).claims = (s.ctl c).claims := by
  have h : ∀ (s : State) (d : Ctl) (f : Mram → Mram), ((s.modMram d f).ctl c).claims = (s.ctl c).claims := by
    intro s d f
    simp only [State.modMram_eq, State.ctl_modCtl]
    split <;> rfl
  unfold State.letIn State.useKey
  dsimp only
  split <;> simp only [h]

/-- A request that passes and whose execution is done at once: it is answered DONE, and the cartridges stand as its execution left them. -/
theorem answered_of_done {h : Handler} {q : Request} {b d : State} {params : Bytes} (p : Passes h q b)
    (hr : h.run (b.letIn q) q.ctl q = .done params d) :
    AnsweredDone h q (b.letIn q) d params (b.keep (b.perform h q)) ∧ ∀ k, (b.keep (b.perform h q)).cart k = d.cart k := by
  rw [perform_passes p, hr]
  refine ⟨(State.keep_letIn b q _).symm, fun k => ?_⟩
  exact (onlyCtlsOut_reply ..).cart k |>.trans (by simp [State.enter])

@[simp] theorem State.cart_see (s : State) (c : Ctl) (k j : Slot) : (s.see c k).cart j = s.cart j := by simp [State.see]

theorem resetEpoch_epoch (s : State) (c : Ctl) (k : Slot) : ((s.resetEpoch c k).cart k).epoch = 0 := by simp [State.resetEpoch]

/-! Leaving ACTIVE for SERVICE. -/

theorem State.modCtl_self {s : State} {c : Ctl} {f : Ctlr → Ctlr} (h : f (s.ctl c) = s.ctl c) : s.modCtl c f = s := by
  unfold State.modCtl
  rw [h]
  cases c <;> rfl

/-- DIRECT_WRITE follows the registers of an ACTIVE controller: its flag changes, and the rest is logging (R682). -/
theorem onlyLog_directAlarm (s : State) (c : Ctl) :
    OnlyLog (s.modCtl c fun x => { x with directAl := (s.ctl c).directWrite && (s.ctl c).role = .active }) (s.directAlarm c) := by
  unfold State.directAlarm
  dsimp only
  split
  next h =>
    rw [State.modCtl_self (by rw [h])]
    exact OnlyLog.refl s
  · exact onlyLog_alarm ..

theorem front_modCtl (s : State) (c d : Ctl) (f : Ctlr → Ctlr) (h : (f (s.ctl d)).front = (s.ctl d).front) :
    ((s.modCtl c f).ctl d).front = (s.ctl d).front := by
  rw [State.ctl_modCtl]
  split
  · exact h
  · rfl

theorem front_modPhy (s : State) (c d : Ctl) (p : Bus) (f : Phy → Phy) : ((s.modPhy c p f).ctl d).front = (s.ctl d).front :=
  front_modCtl s c d _ (by cases p <;> rfl)

theorem front_directAlarm (s : State) (c : Ctl) : ((s.directAlarm c).ctl c).front = (s.ctl c).front :=
  ((onlyLog_directAlarm s c).1 c).front.trans (front_modCtl s c c _ rfl)

theorem front_expDrop (s : State) (c : Ctl) : ((s.expDrop c).ctl c).front = (s.ctl c).front :=
  (overList_keeps (fun s => (s.ctl c).front) _ (fun _ s => front_modCtl s c c _ rfl) _ _).trans (front_modCtl s c c _ rfl)

/-- A controller that leaves ACTIVE is not command-ready, and its heartbeat and its lever stay (R193). -/
theorem front_leaveActive (s : State) (c : Ctl) :
    ((s.leaveActive c).ctl c).front = (false, (s.ctl c).beatTx, (s.ctl c).lever, (s.ctl c).leverAt) := by
  obtain ⟨-, hb, hl, ha⟩ := Ctlr.front_eq (front_expDrop s c)
  unfold State.leaveActive
  dsimp only
  refine (front_modPhy ..).trans ((front_modPhy ..).trans ((front_modCtl _ c c _ rfl).trans ((front_directAlarm ..).trans ?_)))
  rw [← hb, ← hl, ← ha, State.ctl_modCtl, if_pos rfl]
  rfl

theorem onlyCtls_directAlarm (s : State) (c : Ctl) : OnlyCtls s (s.directAlarm c) :=
  (onlyCtls_modCtl ..).trans (onlyLog_directAlarm s c).ctls

theorem onlyCtls_expDrop (s : State) (c : Ctl) : OnlyCtls s (s.expDrop c) :=
  (onlyCtls_modCtl ..).trans (onlyCtls_overList _ _ (fun _ s => onlyCtls_modCtl s ..) _)

theorem onlyCtls_leaveActive (s : State) (c : Ctl) : OnlyCtls s (s.leaveActive c) :=
  (((((onlyCtls_expDrop s c).trans (onlyCtls_modCtl ..)).trans (onlyCtls_directAlarm ..)).trans (onlyCtls_modCtl ..)).trans
    (onlyCtls_modPhy ..)).trans (onlyCtls_modPhy ..)

/-- An ACTIVE controller sends RELINQUISH, and leaves ACTIVE (R944). -/
def State.relinquish (s : State) (c : Ctl) : State := (s.modCtl c fun x => { x with beatTx := some (s.beatOf c true) }).leaveActive c

theorem onlyCtls_relinquish (s : State) (c : Ctl) : OnlyCtls s (s.relinquish c) := (onlyCtls_modCtl ..).trans (onlyCtls_leaveActive ..)

theorem front_relinquish (s : State) (c : Ctl) :
    ((s.relinquish c).ctl c).front = (false, some (s.beatOf c true), (s.ctl c).lever, (s.ctl c).leverAt) := by
  unfold State.relinquish
  rw [front_leaveActive, State.ctl_modCtl, if_pos rfl]

/-- What a controller with an empty journal has done when its lever takes it to SERVICE: log and counters are written, an ACTIVE one has left ACTIVE, and
no wait runs (R944). -/
def State.shutDown (s : State) (c : Ctl) : State :=
  let v := s.modMram c fun m => { m with log := m.log.flush, energy := m.energy.map Energy.save }
  (if (s.ctl c).role = .active then v.relinquish c else v).modCtl c fun x => { x with leverAt := none }

theorem onlyCtls_shutDown (s : State) (c : Ctl) : OnlyCtls s (s.shutDown c) := by
  unfold State.shutDown
  dsimp only
  split
  · exact ((onlyCtls_modCtl ..).trans (onlyCtls_relinquish ..)).trans (onlyCtls_modCtl ..)
  · exact (onlyCtls_modCtl ..).trans (onlyCtls_modCtl ..)

theorem front_shutDown (s : State) (c : Ctl) :
    ((s.shutDown c).ctl c).lever = (s.ctl c).lever ∧ ((s.shutDown c).ctl c).leverAt = none ∧
    ((s.ctl c).role = .active → ((s.shutDown c).ctl c).ready = false ∧ ∃ e, ((s.shutDown c).ctl c).beatTx = some e ∧ e.relinq = true) := by
  unfold State.shutDown
  dsimp only
  by_cases ha : (s.ctl c).role = .active
  · obtain ⟨hr, hb, hl, -⟩ := Ctlr.front_eq (front_relinquish (s.modMram c fun m => { m with log := m.log.flush, energy := m.energy.map Energy.save }) c)
    rw [if_pos ha, State.ctl_modCtl, if_pos rfl]
    exact ⟨hl.trans (by simp), rfl, fun _ => ⟨hr, _, hb, rfl⟩⟩
  · simp [ha]

/-- With an empty journal no request is left to complete: the controller shuts down and takes the role (R944). -/
theorem enterService_eq (s : State) (c : Ctl) (h : (s.ctl c).role = .active → (s.ctl c).mram.slots = []) :
    s.enterService c = (s.shutDown c).roleTo c .service 0 0 0x07 ∨ s.enterService c = (s.shutDown c).setRole c .service 0 0 0x07 := by
  have e : ∃ b : Bool, s.enterService c =
      if b then (s.shutDown c).roleTo c .service 0 0 0x07 else (s.shutDown c).setRole c .service 0 0 0x07 := by
    unfold State.enterService State.shutDown
    by_cases ha : (s.ctl c).role = .active
    · simp only [ha, h ha, List.filter_nil, decide_true, if_true]
      exact ⟨_, rfl⟩
    · simp only [ha, decide_false, Bool.false_eq_true, if_false]
      exact ⟨_, rfl⟩
  obtain ⟨b, e⟩ := e
  cases b
  · exact .inr e
  · exact .inl e

/-- A controller whose journal holds nothing enters SERVICE with no effect on an output; one that leaves ACTIVE for it is not command-ready any more,
and says so in its last heartbeat (R944). -/
theorem enterService_leaves (s : State) (c : Ctl) (h : (s.ctl c).role = .active → (s.ctl c).mram.slots = []) :
    OutputsKept s (s.enterService c) ∧ ((s.enterService c).ctl c).role = .service ∧
    ((s.enterService c).ctl c).front = ((s.shutDown c).ctl c).front := by
  have o := (onlyCtls_shutDown s c).outputs
  obtain e | e := enterService_eq s c h <;> rw [e]
  · exact ⟨o.trans (onlyCtls_roleTo ..).outputs, front_roleTo ..⟩
  · exact ⟨o.trans (outputs_setRole ..), front_setRole _ _ _ _ _ _ (by simp)⟩

/-! The levers. -/

theorem OnlyCtl.trans {c : Ctl} {s u v : State} (h : OnlyCtl c s u) (g : OnlyCtl c u v) : OnlyCtl c s v := ⟨g.1.trans h.1, h.2.trans g.2⟩

theorem onlyCtl_modCtl (s : State) (c : Ctl) (f : Ctlr → Ctlr) : OnlyCtl c s (s.modCtl c f) := ⟨by simp, onlyCtls_modCtl ..⟩

theorem OnlyCtl.kept {c : Ctl} {s u : State} (h : OnlyCtl c s u) : OnlyCtl c s (s.keep u) := by rwa [h.2.keep]

theorem swapping_nil {m : Mram} (h : m.slots = []) : m.swapping = false := by simp [Mram.swapping, h]

section
variable (t : Instant) (c : Ctl)

theorem controllerLeverOpen_acts : Does (.controllerLeverOpen t c)
    (fun b => (b.ctl c).fitted = true ∧ (b.ctl c).lever = false)
    (fun b u =>
      let x := b.ctl c
      let y := u.ctl c
      (x.running = false ∨ x.role = .service → y = { x with lever := true } ∧ OnlyCtl c b u) ∧
      (x.running = true → x.role = .active → b.hasStandby c = false ∨ x.mram.swapping = true →
        y = { x with lever := true, leverAt := some b.now } ∧ OnlyCtl c b u) ∧
      (x.running = true → x.role = .active → x.mram.slots = [] → b.hasStandby c = true →
        y.role = .service ∧ y.ready = false ∧ (∃ e, y.beatTx = some e ∧ e.relinq = true) ∧ OutputsKept b u) ∧
      (x.running = true → x.role ≠ .active → x.role ≠ .service → y.role = .service ∧ y.lever = true ∧ OutputsKept b u)) := by
  refine does_of_run _ (fun s => show execControllerLeverOpen t c s = run t _ s from rfl) fun b ⟨hf, hl⟩ => ?_
  dsimp only
  rw [when_of _ _ (by simp [hf, hl])]
  generalize hv : (b.modCtl c fun y => { y with lever := true }) = v
  have vx : v.ctl c = { b.ctl c with lever := true } := by simp [← hv]
  have vn : v.now = b.now := by simp [← hv]
  have vo : OnlyCtl c b v := by rw [← hv]; exact onlyCtl_modCtl ..
  have vs : v.hasStandby c = b.hasStandby c := by simp [← hv, State.hasStandby]
  obtain ⟨dl, -, da⟩ := front_shutDown v c
  simp only [State.ctl_keep, vs]
  refine ⟨fun hx => ?_, fun hr ha hw => ?_, fun hr ha hj hs => ?_, fun hr ha hs => ?_⟩
  · rw [if_pos (by simpa using hx)]
    exact ⟨vx, vo.kept⟩
  · rw [if_neg (by simp [hr, ha]), if_pos ⟨ha, by simpa using hw⟩]
    exact ⟨by simp [vx, vn], (vo.trans (onlyCtl_modCtl ..)).kept⟩
  · obtain ⟨eo, er, ef⟩ := enterService_leaves v c fun _ => by simp [vx, hj]
    obtain ⟨efr, efb, -, -⟩ := Ctlr.front_eq ef
    obtain ⟨dr, e, de, dq⟩ := da (by simp [vx, ha])
    rw [if_neg (by simp [hr, ha]), if_neg (by simp [hs, swapping_nil hj])]
    exact ⟨er, efr.trans dr, ⟨e, efb.trans de, dq⟩, vo.2.outputs.trans eo⟩
  · obtain ⟨eo, er, ef⟩ := enterService_leaves v c fun h => absurd (by simpa [vx] using h) ha
    obtain ⟨-, -, efl, -⟩ := Ctlr.front_eq ef
    rw [if_neg (by simp [hr, hs]), if_neg (by simp [ha])]
    exact ⟨er, efl.trans (dl.trans (by simp [vx])), vo.2.outputs.trans eo⟩

theorem leverWaitExpiry_acts (a : Instant) : Does (.leverWaitExpiry t c)
    (fun b => (b.ctl c).running = true ∧ (b.ctl c).role = .active ∧ (b.ctl c).leverAt = some a ∧ (b.ctl c).mram.slots = [] ∧
      (a + 10000000000 ≤ b.now ∨ b.hasStandby c = true))
    (fun b u => (u.ctl c).role = .service ∧ (u.ctl c).leverAt = none ∧ (u.ctl c).ready = false ∧ OutputsKept b u) := by
  refine does_of_run _ (fun s => show execLeverWaitExpiry t c s = run t _ s from rfl) fun b ⟨hr, ha, hl, hj, hend⟩ => ?_
  obtain ⟨eo, er, ef⟩ := enterService_leaves b c fun _ => hj
  obtain ⟨efr, -, -, efa⟩ := Ctlr.front_eq ef
  obtain ⟨-, da, dr⟩ := front_shutDown b c
  have due : b.held (some a) (10 * sec) = true ∨ b.hasStandby c = true :=
    hend.imp (fun h => by simp [State.held, sec, h]) id
  dsimp only
  rw [when_of _ _ (by simpa [hr, ha, hl, swapping_nil hj] using due), State.ctl_keep]
  exact ⟨er, efa.trans da, efr.trans (dr ha).1, eo⟩

theorem controllerLeverClose_acts : Does (.controllerLeverClose t c)
    (fun b => (b.ctl c).fitted = true ∧ (b.ctl c).lever = true)
    (fun b u => (u.ctl c).lever = false ∧ (u.ctl c).leverAt = none ∧
      ((b.ctl c).running = true → (b.ctl c).role = .service → (u.ctl c).role = .electing) ∧
      ((b.ctl c).role ≠ .service → (u.ctl c).role = (b.ctl c).role) ∧ OutputsKept b u) := by
  refine does_of_run _ (fun s => show execControllerLeverClose t c s = run t _ s from rfl) fun b ⟨hf, hl⟩ => ?_
  dsimp only
  rw [when_of _ _ (by simp [hf, hl]), State.ctl_keep]
  split
  next h =>
    generalize hv : (b.modCtl c fun y => { y with lever := false, leverAt := none }).modCtl c
      (fun y => { y with elect := none, electTx := none }) = v
    have vo : OutputsKept b v := by rw [← hv]; exact (outputs_modCtl ..).trans (outputs_modCtl ..)
    obtain ⟨sr, sf⟩ := front_setRole v c .electing 0 0 0x01 (by simp)
    obtain ⟨-, -, sl, sa⟩ := Ctlr.front_eq sf
    exact ⟨sl.trans (by simp [← hv]), sa.trans (by simp [← hv]), fun _ _ => sr, fun hs => absurd h.2 hs, vo.trans (outputs_setRole ..)⟩
  next h =>
    rw [State.ctl_modCtl, if_pos rfl]
    exact ⟨rfl, rfl, fun hr hs => absurd ⟨hr, hs⟩ h, fun _ => rfl, outputs_modCtl ..⟩

end

/-! The code plug and the key switch. -/

theorem socket_known {s : State} {p : Plug} (hp : s.plug = some p) (ok : p.ok = true) (bl : p.blank = false) :
    s.socket (.plug p.serial) = some p := by simp [State.socket, hp, ok, bl]

theorem onlyLog_foreignPlug (s : State) (c : Ctl) (other : Bool) : OnlyLog s (s.foreignPlug c other) := onlyLog_alarm ..

/-- What a check says of FOREIGN, it says at the writer, and it says nothing of CODEPLUG_ABSENT. -/
theorem foreignPlug_alarms {s : State} {c w : Ctl} (hw : s.writer c = some w) (other : Bool) :
    ((s.foreignPlug c other).ctl w).alarmed 0x0009 c.code = (other || (s.ctl c).mram.foreign) ∧
    ((s.foreignPlug c other).ctl w).alarmed 0x0008 0 = (s.ctl w).alarmed 0x0008 0 :=
  ⟨alarmed_alarm_same hw .., alarmed_alarm_other _ _ _ _ _ _ _ _ _ _ (by simp)⟩

theorem onlyCtls_plugSeen (s : State) (c : Ctl) (p : Plug) : OnlyCtls s (s.plugSeen c p) := by
  unfold State.plugSeen
  split
  · exact ((onlyCtls_modCtl ..).trans (onlyLog_alarm ..).ctls).trans (onlyLog_foreignPlug ..).ctls
  · exact (onlyLog_foreignPlug ..).ctls

/-- A plug of this unit, or one that finds no identity held, renews the identity copy; FOREIGN follows what was set aside, and CODEPLUG_ABSENT ends
(R168, R956). -/
theorem plugSeen_own {s : State} {c : Ctl} {p : Plug} (h : ((s.ctl c).mram.ident).all (·.serial = p.serial) = true) :
    ((s.plugSeen c p).ctl c).mram.ident = some p ∧
    ∀ w, s.writer c = some w →
      ((s.plugSeen c p).ctl w).alarmed 0x0009 c.code = (s.ctl c).mram.foreign ∧ ((s.plugSeen c p).ctl w).alarmed 0x0008 0 = false := by
  unfold State.plugSeen
  rw [if_pos h]
  generalize hv : s.modMram c (fun m => { m with ident := some p }) = v
  have g1 : OnlyLog v (v.alarm c 0x0008 0 false c.code 1 0) := onlyLog_alarm ..
  have hi : (v.ctl c).mram.ident = some p := by simp [← hv]
  have hf : (v.ctl c).mram.foreign = (s.ctl c).mram.foreign := by simp [← hv]
  refine ⟨((onlyLog_foreignPlug ..).1 c).ident.trans ((g1.1 c).ident.trans hi), fun w hw => ?_⟩
  have vw : v.writer c = some w := by
    rw [← hw, ← hv]
    refine State.writer_congr (fun d => ?_) (fun d => ?_) (fun d => ?_) c <;>
    · rw [State.modMram_eq, State.ctl_modCtl]
      split <;> rfl
  obtain ⟨a1, a2⟩ := foreignPlug_alarms ((g1.writer c).trans vw) false
  exact ⟨a1.trans (by rw [Bool.false_or, (g1.1 c).foreign, hf]), a2.trans (alarmed_alarm_same vw ..)⟩

section
variable (t : Instant) (c : Ctl)

/-- A check that finds a plug whose contents are known sees that plug. -/
theorem does_codePlugCheck (serial : Bytes) (p : Plug) {pre : State → Prop} {res : State → State → Prop}
    (hp : ∀ b, pre b → (b.ctl c).running = true ∧ b.plug = some p ∧ p.serial = serial ∧ p.ok = true ∧ p.blank = false)
    (h : ∀ b, pre b → res b (b.plugSeen c p)) : Does (.codePlugCheck t c (.plug serial)) pre res := by
  refine does_of_run _ (fun s => show execCodePlugCheck t c (.plug serial) s = run t _ s from rfl) fun b hb => ?_
  obtain ⟨hr, hpl, rfl, ok, bl⟩ := hp b hb
  rw [when_of _ _ hr]
  dsimp only
  have e : ({ b with plug := some p } : State) = b := by rw [← hpl]
  rw [socket_known hpl ok bl]
  dsimp only
  rw [e, (onlyCtls_plugSeen b c p).keep]
  exact h b hb

theorem codePlugCheck_withIdentity (serial : Bytes) (p i : Plug) : Does (.codePlugCheck t c (.plug serial))
    (fun b => (b.ctl c).running = true ∧ b.plug = some p ∧ p.serial = serial ∧ p.ok = true ∧ p.blank = false ∧ (b.ctl c).mram.ident = some i)
    (fun b u => u.plug = some p ∧
      (i.serial = serial → (u.ctl c).mram.ident = some p ∧
        ∀ w, b.writer c = some w → (u.ctl w).alarmed 0x0009 c.code = (b.ctl c).mram.foreign ∧ (u.ctl w).alarmed 0x0008 0 = false) ∧
      (i.serial ≠ serial → (u.ctl c).mram.ident = some i ∧ ∀ w, b.writer c = some w → (u.ctl w).alarmed 0x0009 c.code = true) ∧ OutputsKept b u) := by
  refine does_codePlugCheck t c serial p (fun b ⟨hr, hp, hs, ok, bl, _⟩ => ⟨hr, hp, hs, ok, bl⟩) fun b ⟨_, hp, hs, _, _, hi⟩ => ?_
  have o := onlyCtls_plugSeen b c p
  refine ⟨by rw [o]; exact hp, fun own => plugSeen_own (by simp [hi, own, hs]), fun foreign => ?_, o.outputs⟩
  have e : b.plugSeen c p = b.foreignPlug c true := if_neg (by simpa [hi, hs] using foreign)
  rw [e]
  exact ⟨((onlyLog_foreignPlug ..).1 c).ident.trans hi, fun w hw => (foreignPlug_alarms hw true).1⟩

theorem codePlugCheck_noIdentity (serial : Bytes) (p : Plug) : Does (.codePlugCheck t c (.plug serial))
    (fun b => (b.ctl c).running = true ∧ b.plug = some p ∧ p.serial = serial ∧ p.ok = true ∧ p.blank = false ∧ (b.ctl c).mram.ident = none)
    (fun b u => u.plug = some p ∧ (u.ctl c).mram.ident = some p ∧ OutputsKept b u) := by
  refine does_codePlugCheck t c serial p (fun b ⟨hr, hp, hs, ok, bl, _⟩ => ⟨hr, hp, hs, ok, bl⟩) fun b ⟨_, hp, _, _, _, hi⟩ => ?_
  have o := onlyCtls_plugSeen b c p
  exact ⟨by rw [o]; exact hp, (plugSeen_own (by simp [hi])).1, o.outputs⟩

theorem codePlugCheck_empty : Does (.codePlugCheck t c .empty)
    (fun b => (b.ctl c).running = true)
    (fun b u => u.plug = none ∧ (u.ctl c).mram.ident = (b.ctl c).mram.ident ∧
      (∀ w, b.writer c = some w → (u.ctl w).alarmed 0x0008 0 = true) ∧ OutputsKept b u) := by
  refine does_of_run _ (fun s => show execCodePlugCheck t c .empty s = run t _ s from rfl) fun b hr => ?_
  rw [when_of _ _ hr]
  dsimp only [State.socket]
  generalize hv : ({ b with plug := none } : State) = v
  have vx : ∀ d, v.ctl d = b.ctl d := fun d => by rw [← hv]; cases d <;> rfl
  have g1 := onlyLog_foreignPlug v c false
  have g2 : OnlyLog (v.foreignPlug c false) ((v.foreignPlug c false).alarm c 0x0008 0 true c.code 0 1) := onlyLog_alarm ..
  have g := g1.trans g2
  refine ⟨g.plug.trans (by rw [← hv]), ?_, fun w hw => ?_, g.carts.trans (by rw [← hv]), g.chans.trans (by rw [← hv])⟩
  · rw [State.ctl_keep, (g.1 c).ident, vx]
  · have vw : v.writer c = b.writer c := by rw [← hv]; rfl
    rw [State.ctl_keep]
    exact alarmed_alarm_same ((g1.writer c).trans (vw.trans hw)) ..

end

/-- A blank plug that is written moves neither the key switch nor an output (R955). -/
theorem fillPlug_kept (s : State) (c : Ctl) : (s.fillPlug c).s50 = s.s50 ∧ OutputsKept s (s.fillPlug c) := by
  unfold State.fillPlug
  dsimp only
  split
  · split
    · have put : ∀ (u : State) (d : Ctl) (f : Mram → Mram), OnlyCtls u (if (u.ctl d).running = true then u.modMram d f else u) := by
        intro u d f
        split
        · exact onlyCtls_modCtl ..
        · rfl
      have kept : ∀ x u, OnlyCtls { s with plug := x } u → u.s50 = s.s50 ∧ OutputsKept s u := fun x u g => ⟨by rw [g], by rw [g], by rw [g]⟩
      exact kept _ _ (((put _ .a _).trans (put _ .b _)).trans (onlyLog_alarm ..).ctls)
    · exact ⟨rfl, OutputsKept.refl s⟩
  · exact ⟨rfl, OutputsKept.refl s⟩

theorem s50Change_acts (t : Instant) (on : Bool) : Does (.s50Change t on)
    (fun b => b.s50 ≠ on)
    (fun b u => u.s50 = on ∧ (on = false → ∀ k, (u.cart k).frozen = false) ∧ (on = true → OutputsKept b u)) := by
  refine does_of_run _ (fun s => show execS50Change t on s = run t _ s from rfl) fun b hon => ?_
  dsimp only
  rw [when_of _ _ (by simpa using hon)]
  generalize hv : State.logUnit { b with s50 := on } 0x0E01 0 _ 0 _ = v
  have vs : v.s50 = on := by rw [← hv, State.s50_logUnit]
  have vo : OutputsKept b v := by rw [← hv]; exact ⟨State.carts_logUnit .., State.chans_logUnit ..⟩
  cases on
  · exact ⟨(s50_resumeAll v).trans vs, fun _ k => resumeAll_frozen v k, by simp⟩
  · rw [if_pos rfl]
    split
    next act _ => exact ⟨(fillPlug_kept v act).1.trans vs, by simp, fun _ => vo.trans (fillPlug_kept v act).2⟩
    · exact ⟨vs, by simp, fun _ => vo⟩

theorem x50Attach_acts (t : Instant) (cable : Bool) : Does (.x50Attach t cable)
    (fun _ => True)
    (fun b u => u.x50.cable = cable ∧ u.x50.ctl = (if cable then b.x50Choice else none) ∧
      (b.x50.ctl = none → u.x50.ctl ≠ none → u.x50.from_ = b.now) ∧
      (b.x50.ctl ≠ none → u.x50.ctl ≠ b.x50.ctl → u.x50.from_ = b.now + 200000000) ∧
      (u.x50.ctl ≠ b.x50.ctl → ∀ k, (u.cart k).frozen = false) ∧ (u.x50.ctl = b.x50.ctl → OutputsKept b u)) := by
  refine does_of_run _ (fun s => show execX50Attach t cable s = run t _ s from rfl) fun b _ => ?_
  dsimp only
  generalize hn : (if cable = true then b.x50Choice else none) = new
  by_cases h : b.x50.ctl = new
  · rw [show decide (b.x50.ctl ≠ new) = false by simp [h]]
    exact ⟨rfl, rfl, fun h1 h2 => absurd (h.symm.trans h1) h2, fun _ h2 => absurd h.symm h2, fun h2 => absurd h.symm h2, fun _ => ⟨rfl, rfl⟩⟩
  · simpa [h, x50_resumeAll, resumeAll_frozen, msec, Ne.symm h] using fun h1 _ => h1

/-! Halts, epochs and self-tests. -/

theorem debugHalt_run {q : Request} {k : Slot} (h : cartTarget q = some k) (s : State) (c : Ctl) :
    hDebugHalt.run s c q =
      let d := (if field q.params 1 1 = 1 then s.halt k else s.resume k).see c k
      .done ((d.ctl c).stateList (chansOf k)) d := by
  unfold hDebugHalt
  dsimp only
  rw [h]

/-- During a claim a reset waits for its end, and it acts at once where none is under way (R966, R970). -/
theorem cartEpochReset_run {q : Request} {k : Slot} (h : cartTarget q = some k) (s : State) (c : Ctl) :
    let st := ((s.ctl c).claims[k]).st
    (st = .idle ∨ st = .held → hCartEpochReset.run s c q = .done (be 4 0) (s.resetEpoch c k)) ∧
    (st = .requested ∨ st = .acked ∨ st = .sent →
      hCartEpochReset.run s c q = .done (be 4 0) (s.modClaim c k fun y => { y with reset := true })) := by
  unfold hCartEpochReset
  dsimp only
  rw [h]
  dsimp only
  generalize ((s.ctl c).claims[k]).st = st
  refine ⟨fun free => ?_, fun busy => ?_⟩
  · exact congrArg _ (if_neg (by rcases free with e | e <;> simp [e]))
  · exact congrArg _ (if_pos (by simpa [or_assoc] using busy))

theorem debugHalt_acts (t : Instant) (q : Request) (k : Slot) : Does (.debugHalt t q) (fun b => Passes hDebugHalt q b ∧ cartTarget q = some k)
    (fun b u =>
      let a := b.letIn q
      let d := (if field q.params 1 1 = 1 then a.halt k else a.resume k).see q.ctl k
      (u.cart k).frozen = decide (field q.params 1 1 = 1) ∧ AnsweredDone hDebugHalt q a d ((d.ctl q.ctl).stateList (chansOf k)) u) := by
  refine does_of_run _ (fun s => show execDebugHalt t q s = run t _ s from rfl) fun b ⟨pass, target⟩ => ?_
  obtain ⟨answered, carts⟩ := answered_of_done pass (debugHalt_run target _ _)
  refine ⟨?_, answered⟩
  rw [carts, State.cart_see]
  split
  next h => simp [halt_frozen, h]
  next h => simp [resume_frozen, h]

theorem cartEpochReset_acts (t : Instant) (q : Request) (k : Slot) :
    Does (.cartEpochReset t q) (fun b => Passes hCartEpochReset q b ∧ cartTarget q = some k)
    (fun b u =>
      let a := b.letIn q
      let st := ((b.ctl q.ctl).claims[k]).st
      (st = .idle ∨ st = .held → (u.cart k).epoch = 0 ∧ AnsweredDone hCartEpochReset q a (a.resetEpoch q.ctl k) (be 4 0) u) ∧
      (st = .requested ∨ st = .acked ∨ st = .sent → (u.cart k).epoch = (b.cart k).epoch ∧
        AnsweredDone hCartEpochReset q a (a.modClaim q.ctl k fun y => { y with reset := true }) (be 4 0) u)) := by
  refine does_of_run _ (fun s => show execCartEpochReset t q s = run t _ s from rfl) fun b ⟨pass, target⟩ => ?_
  obtain ⟨free, busy⟩ := cartEpochReset_run target (b.letIn q) q.ctl
  rw [State.claims_letIn] at free busy
  refine ⟨fun h => ?_, fun h => ?_⟩
  · obtain ⟨answered, carts⟩ := answered_of_done pass (free h)
    exact ⟨by rw [carts, resetEpoch_epoch], answered⟩
  · obtain ⟨answered, carts⟩ := answered_of_done pass (busy h)
    exact ⟨by simp [carts], answered⟩

theorem debugResume_acts (t : Instant) (k : Slot) : Does (.debugResume t k)
    (fun _ => True)
    (fun b u => (b.haltEnds k = true → (u.cart k).frozen = false) ∧ (b.haltEnds k = false → u = b) ∧ OnlySlotLog k b u) := by
  refine does_of_run _ (fun s => show execDebugResume t k s = run t _ s from rfl) fun b _ => ?_
  cases h : b.haltEnds k
  · exact ⟨fun h => (nomatch h), fun _ => rfl, OnlySlotLog.refl k b⟩
  · have o := onlySlotLog_resume b k
    rw [when_true, o.keep]
    exact ⟨fun _ => resume_frozen b k, fun h => (nomatch h), o⟩

/-- The comparator self-test of one channel (R282): its flag is whether its two comparators disagree. -/
def State.comparatorTest (s : State) (sh mi : BitVec 4) (c : Ch) : State :=
  (s.modProt c fun p => { p with hsFail := sh.getLsb (posOf c) != mi.getLsb (posOf c) }).chanFlag c 0x020D (s.chan c).prot.hsFail
    (sh.getLsb (posOf c) != mi.getLsb (posOf c))

theorem onlyChanLog_comparatorTest (s : State) (sh mi : BitVec 4) (c : Ch) : OnlyChanLog c s (s.comparatorTest sh mi c) :=
  ((OnlyChanLog.refl c s).modProt _).trans ((onlyLog_chanFlag ..).toChan c)

theorem hsSelftestNow_acts (t : Instant) (k : Slot) (sh mi : BitVec 4) : Does (.hsSelftestNow t k sh mi)
    (fun b => (b.cart k).powered = true ∧ (b.cart k).frozen = false ∧ (b.cart k).holder ≠ none)
    (fun b u => (u.cart k).hsTested = true ∧
      (∀ p : Fin 4, (u.chan (chOf k p)).prot.hsFail = (sh.getLsb p != mi.getLsb p) ∧ (u.chan (chOf k p)).stage = (b.chan (chOf k p)).stage) ∧
      OnlySlotLog k b u) := by
  refine does_of_run (fun s => when ((s.cart k).powered && !(s.cart k).frozen && (s.cart k).holder.isSome) (fun s =>
    overList (chansOf k) (fun c s => s.comparatorTest sh mi c) (s.modCart k fun x => { x with hsTested := true })) s) (fun _ => rfl)
    fun b ⟨hp, hf, hh⟩ => ?_
  have one := fun c s => onlyChanLog_comparatorTest s sh mi c
  have o := (onlySlotLog_modCart b k fun x => { x with hsTested := true }).trans (onlySlotLog_chansOf k _ one _)
  rw [when_of _ _ (by simpa [hp, hf, Option.isSome_iff_ne_none] using hh), o.keep]
  refine ⟨?_, fun p => ?_, o⟩
  · have same := overList_keeps (fun s => s.cart k) (fun c s => s.comparatorTest sh mi c) (fun c s => by simp [State.comparatorTest]) (chansOf k)
      (b.modCart k fun x => { x with hsTested := true })
    rw [same]
    simp
  · obtain ⟨s', -, hc, hu⟩ := over_at _ one (chansOf k) (chansOf_nodup k) _ (chOf_mem_chansOf k p) (b.modCart k fun x => { x with hsTested := true })
    rw [hu]
    simp [State.comparatorTest, hc]

/-! The scrub. -/

/-- A write to SCRUB_CTRL of an ACTIVE controller (R653, R672, R682): the pass, and DIRECT_WRITE with it; the rest is logging. -/
theorem setScrub_leaves (s : State) (c : Ctl) (en start : Bool) (ha : (s.ctl c).role = .active) :
    Ctlr.Logged { (s.ctl c).setScrub s.now en start with directAl := !en || !(s.ctl c).gnss.l1.en || !(s.ctl c).gnss.l5.en }
      ((s.setScrub c en start).ctl c) ∧ OnlyCtlLog c s (s.setScrub c en start) := by
  have g := onlyLog_directAlarm (s.modCtl c fun x => x.setScrub s.now en start) c
  refine ⟨?_, ?_, (onlyCtls_modCtl ..).trans (onlyCtls_directAlarm ..)⟩
  · have raised : (let x := (s.modCtl c fun x => x.setScrub s.now en start).ctl c; x.directWrite && decide (x.role = .active)) =
        (!en || !(s.ctl c).gnss.l1.en || !(s.ctl c).gnss.l5.en) := by
      simp [Ctlr.setScrub, Ctlr.directWrite, ha]
    have logged := g.1 c
    rw [State.ctl_modCtl, if_pos rfl, raised, State.ctl_modCtl, if_pos rfl] at logged
    exact logged
  · simpa [State.setScrub] using g.1 c.other

section
variable (t : Instant) (c : Ctl)

theorem scrubEn_acts (on : Bool) : Does (.scrubEn t c on)
    (fun b => (b.ctl c).running = true ∧ (b.ctl c).role = .active)
    (fun b u => (u.ctl c).scrubEn = on ∧ (u.ctl c).scrubIn = b.now - (u.ctl c).scrubRun ∧
      (u.ctl c).scrubRun = (if (b.ctl c).scrubEn then b.now - (b.ctl c).scrubIn else (b.ctl c).scrubRun) ∧
      (u.ctl c).directAl = (!on || !(b.ctl c).gnss.l1.en || !(b.ctl c).gnss.l5.en) ∧ OnlyCtlLog c b u) := by
  refine does_of_run _ (fun s => show execScrubEn t c on s = run t _ s from rfl) fun b ⟨hr, ha⟩ => ?_
  obtain ⟨g, o⟩ := setScrub_leaves b c on false ha
  rw [when_of _ _ (by simp [hr, ha]), o.2.keep, g.scrubEn, g.scrubIn, g.scrubRun, g.directAl]
  exact ⟨rfl, rfl, rfl, rfl, o⟩

theorem scrubNow_acts : Does (.scrubNow t c)
    (fun b => (b.ctl c).running = true ∧ (b.ctl c).role = .active)
    (fun b u => (u.ctl c).scrubEn = (b.ctl c).scrubEn ∧ (u.ctl c).scrubIn = b.now ∧ (u.ctl c).scrubRun = 0 ∧ OnlyCtlLog c b u) := by
  refine does_of_run _ (fun s => show execScrubNow t c s = run t _ s from rfl) fun b ⟨hr, ha⟩ => ?_
  obtain ⟨g, o⟩ := setScrub_leaves b c (b.ctl c).scrubEn true ha
  rw [when_of _ _ (by simp [hr, ha]), o.2.keep, g.scrubEn, g.scrubIn, g.scrubRun]
  exact ⟨rfl, rfl, rfl, o⟩

end

/-- Settles O38: each service event by the rule for its own act; the levers by what a controller that enters SERVICE leaves. -/
theorem serviceActs : Obligations.ServiceActs :=
  ⟨debugHalt_acts, cartEpochReset_acts, debugResume_acts, controllerLeverOpen_acts, leverWaitExpiry_acts, controllerLeverClose_acts,
    codePlugCheck_withIdentity, codePlugCheck_noIdentity, codePlugCheck_empty, s50Change_acts, x50Attach_acts, scrubEn_acts, scrubNow_acts,
    hsSelftestNow_acts⟩

end Sys2Proof.Machine
end

section
/-!
PROOFS. The PWM generator of chapter 07. What passes at a boundary and what the period that begins does to its channel are said once of the channel alone;
each event is then one update of its channel, with the blanking selections and the logs beside it (R289 to R315, R339).
-/
namespace Sys2Proof.Machine

/-! Frames of a boundary: one channel, the blanking selections and the logs. -/

theorem OnlyChanLog.toTimers {c : Ch} {s u : State} (h : OnlyChanLog c s u) : OnlyChanTimers c s u :=
  ⟨h.1, fun k => by rw [h.2.2]; rfl, h.2.1, by rw [h.2.2]⟩

theorem OnlyChanTimers.trans {c : Ch} {s u v : State} (h : OnlyChanTimers c s u) (g : OnlyChanTimers c u v) : OnlyChanTimers c s v := by
  obtain ⟨hchan, hcart, hlog, hrest⟩ := h
  obtain ⟨gchan, gcart, glog, grest⟩ := g
  exact ⟨fun d hd => (gchan d hd).trans (hchan d hd), fun k => by rw [gcart k, hcart k], hlog.trans glog, by rw [grest, hrest]⟩

theorem OnlyChanTimers.keep {c : Ch} {s u : State} (h : OnlyChanTimers c s u) : s.keep u = u := by
  obtain ⟨-, -, -, rest⟩ := h
  refine State.keep_of ?_ ?_ <;> rw [rest]

theorem OnlyChanTimers.mod {c : Ch} {s u : State} (h : OnlyChanTimers c s u) (f : Chan → Chan) : OnlyChanTimers c s (u.modChan c f) :=
  h.trans (onlyChan_modChan ..).toLog.toTimers

@[simp] theorem State.chan_loadTimers (s : State) (k : Slot) (o : Option Ch) (d : Ch) : (s.loadTimers k o).chan d = s.chan d := rfl

/-- Taking the BLANK_SEL words into use changes nothing of a cartridge but its timers (R321). -/
theorem cart_loadTimers (s : State) (k : Slot) (o : Option Ch) (j : Slot) :
    (s.loadTimers k o).cart j = { s.cart j with at_ := ((s.loadTimers k o).cart j).at_ } := by
  simp only [State.loadTimers, State.cart_modCart]
  split <;> rfl

@[simp] theorem State.chItem_loadTimers (s : State) (k : Slot) (o : Option Ch) (d : Ch) (id : Nat) :
    (s.loadTimers k o).chItem d id = s.chItem d id := by
  unfold State.chItem
  rw [cart_loadTimers]

theorem onlyChanTimers_loadTimers (s : State) (c : Ch) (k : Slot) (o : Option Ch) : OnlyChanTimers c s (s.loadTimers k o) :=
  ⟨fun _ _ => rfl, cart_loadTimers s k o, fun d => by cases d <;> exact Ctlr.Logged.refl _, rfl⟩

/-! What passes at a boundary (R297, R299). -/

section
variable (g : Gen) (edge : Nat)

/-- What passes leaves the counter and the freewheel switch's lead as they were. -/
theorem Gen.pass_keeps : (g.pass edge).enabled = g.enabled ∧ (g.pass edge).boundAt = g.boundAt ∧ (g.pass edge).ahead = g.ahead ∧
    (g.pass edge).fwWait = g.fwWait := by
  unfold Gen.pass
  split
  · exact ⟨rfl, rfl, rfl, rfl⟩
  · split <;> exact ⟨rfl, rfl, rfl, rfl⟩

@[simp] theorem Gen.enabled_pass : (g.pass edge).enabled = g.enabled := (g.pass_keeps edge).1
@[simp] theorem Gen.boundAt_pass : (g.pass edge).boundAt = g.boundAt := (g.pass_keeps edge).2.1
@[simp] theorem Gen.ahead_pass : (g.pass edge).ahead = g.ahead := (g.pass_keeps edge).2.2.1
@[simp] theorem Gen.fwWait_pass : (g.pass edge).fwWait = g.fwWait := (g.pass_keeps edge).2.2.2

variable {g}

theorem Gen.pass_inTime (he : g.early = none) (hp : g.pending = true) (ht : g.inTime g.shadowAt = true) :
    (g.pass edge).act = g.shadow ∧ (g.pass edge).pending = false := by
  simp [Gen.pass, he, hp, ht]

theorem Gen.act_pass_of_none (he : g.early = none) (hp : g.pending = false) : (g.pass edge).act = g.act := by
  simp [Gen.pass, he, hp]

end

/-- Beneath a force the counter goes on, and EN 0 stops it (R337, R338). -/
def Gen.countOn (g : Gen) : Gen := if g.act.en then { g.turnOver g.act.per with edges := 2 } else g.stop

theorem Gen.countOn_keeps {g : Gen} (hp : g.pending = false) (hen : g.enabled = true) :
    g.countOn.act = g.act ∧ g.countOn.pending = false ∧ g.countOn.enabled = g.act.en ∧
    (g.act.en = true → g.countOn.boundAt = g.boundAt + 25 * g.act.per) := by
  unfold Gen.countOn
  cases h : g.act.en
  · exact ⟨by simp [Gen.stop, hp], rfl, rfl, fun h => nomatch h⟩
  · exact ⟨rfl, hp, hen, fun _ => rfl⟩

/-- The state in which the generator of a channel is led past a boundary: what waits has passed, and the BLANK_SEL words are in use. -/
def State.passBoundary (s : State) (c : Ch) : State := (s.modGen c (·.pass (s.chItem c 0x011B))).loadTimers (slotOf c) (some c)

theorem chan_passBoundary (s : State) (c : Ch) : (s.passBoundary c).chan c = (s.chan c).modGen (·.pass (s.chItem c 0x011B)) := by
  simp [State.passBoundary]

theorem chItem_passBoundary (s : State) (c : Ch) (id : Nat) : (s.passBoundary c).chItem c id = s.chItem c id :=
  State.chItem_loadTimers ..

theorem onlyChanTimers_passBoundary (s : State) (c : Ch) : OnlyChanTimers c s (s.passBoundary c) :=
  (onlyChan_modChan ..).toLog.toTimers.trans (onlyChanTimers_loadTimers ..)

/-- PERIOD_BOUNDARY of an engine that runs, at the boundary's instant (R289, R297, R337). -/
theorem does_periodBoundary (t : Instant) (c : Ch) {cond : State → Prop} {res : State → State → Prop}
    (due : ∀ b, cond b → b.engine c = true ∧ (b.chan c).gen.enabled = true ∧ (b.chan c).gen.boundAt ≤ 4 * b.now)
    (h : ∀ b, cond b → res b (b.keep (if (b.chan c).ctrl.source = .open ∨ (b.chan c).ctrl.source = .glaze then
        (b.passBoundary c).modGen c (·.countOn)
      else ((b.passBoundary c).boundary c).logClamp c))) : Does (.periodBoundary t c) cond res := by
  refine does_of_run _ (fun s => show execPeriodBoundary t c s = run t _ s from rfl) fun b hb => ?_
  obtain ⟨he, hen, hat⟩ := due b hb
  have hd : decide ((b.chan c).gen.boundAt ≤ quarters b.now) = true := decide_eq_true hat
  dsimp only
  rw [if_pos (by simp [he, hen, hd])]
  exact h b hb

/-! The period that begins (R289 to R295). -/

section
variable (x : Chan) (per minp cmpa : Nat)

/-- The generator governs the period, from this boundary to the next, with its on-time clamped (R290, R294). -/
theorem Chan.period_governs :
    (x.period per minp cmpa).gen.applied = clampOn per minp cmpa ∧ (x.period per minp cmpa).gen.governs = true ∧
    (x.period per minp cmpa).stage.output = .pwm ∧ (x.period per minp cmpa).gen.boundAt = x.gen.boundAt + 25 * per := by
  unfold Chan.period
  dsimp only
  split
  · split <;> exact ⟨rfl, rfl, rfl, rfl⟩
  · split <;> exact ⟨rfl, rfl, rfl, rfl⟩

variable {x per minp cmpa}

/-- A period that begins with an off interval begins with the forward switch off (R290, R291). -/
theorem Chan.period_begins_off (h : ¬(clampOn per minp cmpa ≠ 0 ∧ (per * 64 ≤ clampOn per minp cmpa ∨ x.gen.act.centre = false))) :
    (x.period per minp cmpa).stage.fwd = false := by
  have h' : ¬(clampOn per minp cmpa ≠ 0 ∧ (per * 64 ≤ clampOn per minp cmpa ∨ ¬x.gen.act.centre = true)) := by simpa using h
  unfold Chan.period
  dsimp only [Gen.turnOver]
  rw [if_neg h']
  split
  · rfl
  next hf => exact Bool.eq_false_iff.2 hf

/-- A period that begins with its on edge has it there, unless the freewheel switch still has to confirm within 500 ns (R290, R313). -/
theorem Chan.period_begins_on (h : clampOn per minp cmpa ≠ 0 ∧ (per * 64 ≤ clampOn per minp cmpa ∨ x.gen.act.centre = false))
    (now : ¬(x.gen.ahead = true ∧ 0 < x.gen.fwWait ∧ x.gen.fwWait ≤ 500)) :
    (x.period per minp cmpa).stage.fwd = !(x.gen.ahead && decide (500 < x.gen.fwWait)) := by
  have h' : clampOn per minp cmpa ≠ 0 ∧ (per * 64 ≤ clampOn per minp cmpa ∨ ¬x.gen.act.centre = true) := by simpa using h
  unfold Chan.period
  dsimp only [Gen.turnOver]
  rw [if_pos h', if_neg now]
  rfl

/-- How a period begins: with the forward switch off, or with its on edge. -/
theorem Chan.period_begins (x : Chan) (per minp cmpa : Nat) :
    let z := x.period per minp cmpa
    let on := z.gen.applied ≠ 0 ∧ (per * 64 ≤ z.gen.applied ∨ x.gen.act.centre = false)
    (¬on → z.stage.fwd = false) ∧ (on → x.gen.ahead = false → z.stage.fwd = true) ∧
    (on → x.gen.ahead = true → 500 < x.gen.fwWait → z.stage.fwd = false) := by
  obtain ⟨applied, -, -, -⟩ := x.period_governs per minp cmpa
  dsimp only
  rw [applied]
  refine ⟨Chan.period_begins_off, fun on ahead => ?_, fun on ahead late => ?_⟩
  · rw [Chan.period_begins_on on (by simp [ahead])]
    simp [ahead]
  · rw [Chan.period_begins_on on fun ⟨_, _, early⟩ => absurd late (Nat.not_lt.2 early)]
    simp [ahead, late]

end

theorem setChan_self (s : State) (c : Ch) : s.setChan c (s.chan c) = s := by
  simp [State.setChan, State.chan]

/-- A conducting channel at level PWM with its generator enabled, in RUN and without a ramp: the boundary begins a period of its settings. -/
theorem boundary_eq_period {s : State} {c : Ch} (hl : (s.chan c).ctrl.level = .pwm) (hr : (s.chan c).ctrl.ramp = none)
    (hp : (s.chan c).stage.phase = .run) (ho : (s.chan c).stage.output = .pwm) (hen : (s.chan c).gen.act.en = true) :
    s.boundary c = s.modChan c fun y => y.period (s.chan c).gen.act.per (s.chItem c 0x011A * 8 * 64) (s.chan c).gen.act.cmpa := by
  have w : ∀ at_, s.waveform c at_ = ((s.chan c).gen.act.per, (s.chan c).gen.act.cmpa) := fun at_ => by simp [State.waveform, hl, hr, hp]
  simp [State.boundary, hl, hr, hp, ho, hen, setChan_self, w]

/-- Logging CLAMPED notes what has been sent, and logs (R295). -/
theorem logClamp_keeps (s : State) (c : Ch) : OnlyChanLog c s (s.logClamp c) ∧ ((s.logClamp c).chan c).stage = (s.chan c).stage ∧
    ((s.logClamp c).chan c).gen.applied = (s.chan c).gen.applied ∧ ((s.logClamp c).chan c).gen.governs = (s.chan c).gen.governs ∧
    ((s.logClamp c).chan c).gen.boundAt = (s.chan c).gen.boundAt := by
  have r := OnlyChanLog.refl c s
  unfold State.logClamp
  dsimp only
  split
  · exact ⟨(r.mod _).event .., by simp⟩
  · split
    · exact ⟨(r.mod _).event .., by simp⟩
    · exact ⟨r, rfl, rfl, rfl, rfl⟩

section
variable (t : Instant) (c : Ch)

theorem periodBoundary_passes : Does (.periodBoundary t c)
    (fun b => b.engine c = true ∧ (b.chan c).gen.enabled = true ∧ (b.chan c).gen.boundAt ≤ 4 * b.now ∧ (b.chan c).gen.pending = true ∧
      (b.chan c).gen.early = none ∧ 4 * (b.chan c).gen.shadowAt + 50 ≤ (b.chan c).gen.boundAt ∧ (b.chan c).ctrl.source = .open)
    (fun b u => (u.chan c).gen.act = (b.chan c).gen.shadow ∧ (u.chan c).gen.pending = false ∧
      (u.chan c).gen.enabled = (b.chan c).gen.shadow.en ∧
      ((b.chan c).gen.shadow.en = true → (u.chan c).gen.boundAt = (b.chan c).gen.boundAt + 25 * (b.chan c).gen.shadow.per) ∧
      (u.chan c).stage = (b.chan c).stage ∧ OnlyChanTimers c b u) := by
  refine does_periodBoundary t c (fun b ⟨he, hen, hat, _⟩ => ⟨he, hen, hat⟩) fun b ⟨_, hen, _, hp, hearly, ht, hs⟩ => ?_
  have o : OnlyChanTimers c b ((b.passBoundary c).modGen c (·.countOn)) := (onlyChanTimers_passBoundary b c).mod _
  obtain ⟨act, pend⟩ := Gen.pass_inTime (b.chItem c 0x011B) hearly hp (decide_eq_true ht)
  obtain ⟨cAct, cPend, cEn, cBound⟩ := Gen.countOn_keeps pend (by simpa using hen)
  rw [act, Gen.boundAt_pass] at cBound
  rw [if_pos (.inl hs), o.keep, State.modGen_eq, State.chan_modChan, if_pos rfl, chan_passBoundary]
  exact ⟨cAct.trans act, cPend, cEn.trans (by rw [act]), cBound, rfl, o⟩

theorem periodBoundary_begins : Does (.periodBoundary t c)
    (fun b => b.engine c = true ∧ (b.chan c).gen.enabled = true ∧ (b.chan c).gen.boundAt ≤ 4 * b.now ∧ (b.chan c).gen.pending = false ∧
      (b.chan c).gen.early = none ∧ (b.chan c).ctrl.source = .host ∧ (b.chan c).ctrl.level = .pwm ∧ (b.chan c).ctrl.ramp = none ∧
      (b.chan c).stage.phase = .run ∧ (b.chan c).stage.output = .pwm ∧ (b.chan c).gen.act.en = true)
    (fun b u =>
      let on := (u.chan c).gen.applied ≠ 0 ∧ ((b.chan c).gen.act.per * 64 ≤ (u.chan c).gen.applied ∨ (b.chan c).gen.act.centre = false)
      (u.chan c).gen.applied = clampOn (b.chan c).gen.act.per (b.chItem c 0x011A * 512) (b.chan c).gen.act.cmpa ∧
      (u.chan c).gen.governs = true ∧ (u.chan c).stage.output = .pwm ∧
      (u.chan c).gen.boundAt = (b.chan c).gen.boundAt + 25 * (b.chan c).gen.act.per ∧
      (¬on → (u.chan c).stage.fwd = false) ∧ (on → (b.chan c).gen.ahead = false → (u.chan c).stage.fwd = true) ∧
      (on → (b.chan c).gen.ahead = true → 500 < (b.chan c).gen.fwWait → (u.chan c).stage.fwd = false) ∧ OnlyChanTimers c b u) := by
  refine does_periodBoundary t c (fun b ⟨he, hen, hat, _⟩ => ⟨he, hen, hat⟩)
    fun b ⟨_, _, _, hp, hearly, hs, hl, hr, hph, ho, hen⟩ => ?_
  have act := Gen.act_pass_of_none (b.chItem c 0x011B) hearly hp
  have x := chan_passBoundary b c
  have begins : (b.passBoundary c).boundary c = (b.passBoundary c).modChan c fun y =>
      y.period (b.chan c).gen.act.per (b.chItem c 0x011A * 512) (b.chan c).gen.act.cmpa := by
    have e := boundary_eq_period (s := b.passBoundary c) (c := c)
    simp only [x, Chan.ctrl_modGen, Chan.stage_modGen, Chan.gen_modGen, act, chItem_passBoundary, Nat.mul_assoc] at e
    exact e hl hr hph ho hen
  rw [if_neg (by simp [hs]), begins]
  obtain ⟨olog, stage, applied, governs, boundAt⟩ := logClamp_keeps ((b.passBoundary c).modChan c fun y =>
    y.period (b.chan c).gen.act.per (b.chItem c 0x011A * 512) (b.chan c).gen.act.cmpa) c
  have o := ((onlyChanTimers_passBoundary b c).mod _).trans olog.toTimers
  rw [o.keep, stage, applied, governs, boundAt, State.chan_modChan, if_pos rfl, x]
  obtain ⟨pApplied, pGoverns, pOut, pBound⟩ := ((b.chan c).modGen (·.pass (b.chItem c 0x011B))).period_governs (b.chan c).gen.act.per
    (b.chItem c 0x011A * 512) (b.chan c).gen.act.cmpa
  obtain ⟨off, now, late⟩ := ((b.chan c).modGen (·.pass (b.chItem c 0x011B))).period_begins (b.chan c).gen.act.per (b.chItem c 0x011A * 512)
    (b.chan c).gen.act.cmpa
  simp only [Chan.gen_modGen, Gen.boundAt_pass, Gen.ahead_pass, Gen.fwWait_pass, act] at pBound off now late
  exact ⟨pApplied, pGoverns, pOut, pBound, off, now, late, o⟩

/-! Edges within the period (R290, R291). -/

theorem pwmCompare_off : Does (.pwmCompare t c)
    (fun b => b.engine c = true ∧ (b.chan c).gen.enabled = true ∧ (b.chan c).gen.governs = true ∧ (b.chan c).stage.output = .pwm ∧
      (b.chan c).stage.offDue = false ∧ (b.chan c).gen.applied ≠ 0 ∧ (b.chan c).gen.edges = 1 ∧ (b.chan c).gen.edged = true ∧
      (b.chan c).gen.edgeAt (b.chan c).gen.offPos ≤ 4 * b.now)
    (fun b u => (u.chan c).stage.fwd = false ∧ (u.chan c).gen.edges = 2 ∧ (u.chan c).stage.output = .pwm ∧ OnlyChan c b u) := by
  refine does_of_run _ (fun s => show execPwmCompare t c s = run t _ s from rfl) fun b ⟨he, hen, hg, ho, hd, ha, h1, hedged, hat⟩ => ?_
  have reached : decide ((b.chan c).gen.edgeAt (b.chan c).gen.offPos ≤ quarters b.now) = true := decide_eq_true hat
  dsimp only
  rw [if_pos he, when_of _ _ (by simp [hen, hg, ho, hd, ha]), if_neg (by simp [h1]), if_pos ⟨h1, hedged, reached⟩, keep_modChan, State.chan_modChan,
    if_pos rfl]
  exact ⟨rfl, rfl, ho, onlyChan_modChan ..⟩

theorem pwmCompare_on : Does (.pwmCompare t c)
    (fun b => b.engine c = true ∧ (b.chan c).gen.enabled = true ∧ (b.chan c).gen.governs = true ∧ (b.chan c).stage.output = .pwm ∧
      (b.chan c).stage.offDue = false ∧ (b.chan c).gen.applied ≠ 0 ∧ (b.chan c).gen.edges = 0 ∧
      (b.chan c).gen.edgeAt (b.chan c).gen.onPos +
        (if (b.chan c).gen.ahead = true ∧ (b.chan c).gen.fwWait ≤ 500 then 4 * (b.chan c).gen.fwWait else 0) ≤ 4 * b.now)
    (fun b u => ((u.chan c).stage.fwd = true ↔ (b.chan c).gen.ahead = false ∨ (b.chan c).gen.fwWait ≤ 500) ∧ (u.chan c).stage.fw = false ∧
      (u.chan c).gen.edges = 1 ∧ (u.chan c).stage.output = .pwm ∧ OnlyChan c b u) := by
  refine does_of_run _ (fun s => show execPwmCompare t c s = run t _ s from rfl) fun b ⟨he, hen, hg, ho, hd, ha, h0, hat⟩ => ?_
  have confirmed : (!((b.chan c).gen.ahead && decide (500 < (b.chan c).gen.fwWait))) = true ↔
      (b.chan c).gen.ahead = false ∨ (b.chan c).gen.fwWait ≤ 500 := by
    cases (b.chan c).gen.ahead <;> simp
  have reached : decide ((b.chan c).gen.edgeAt (b.chan c).gen.onPos +
      (if (b.chan c).gen.ahead = true ∧ (b.chan c).gen.fwWait ≤ 500 then quarters (b.chan c).gen.fwWait else 0) ≤ quarters b.now) = true :=
    decide_eq_true hat
  dsimp only
  rw [if_pos he, when_of _ _ (by simp [hen, hg, ho, hd, ha]), if_pos h0, if_pos reached, keep_modChan, State.chan_modChan, if_pos rfl]
  exact ⟨confirmed, rfl, rfl, ho, onlyChan_modChan ..⟩

/-! The freewheel switch (R311 to R315, R339). -/

/-- After the dead time, where the rest of the off interval has room for it, the freewheel switch follows (R311, R315). -/
theorem freewheelOn_follows (sw : MilliVolt) (ns : Nat) (off : Bool) : Does (.freewheelOn t c sw ns off)
    (fun b => (b.chan c).stage.output = .pwm ∧ (b.chan c).gen.governs = true ∧ (b.chan c).stage.fwd = false ∧ (b.chan c).stage.fw = false ∧
      (b.chan c).gen.fwDone = false ∧ (b.chan c).gen.offInterval = true ∧ (b.cart (slotOf c)).powered = true ∧ sw < 2000 ∧ 20 ≤ ns ∧ ns < 500 ∧
      ns + (b.chan c).gen.fwOffNs + 20 ≤ (b.chan c).gen.offNs)
    (fun b u => u.chan c = (b.chan c).modStage (fun g => { g with fw := true }) ∧ OnlyChan c b u) := by
  refine does_of_run _ (fun s => show execFreewheelOn t c sw ns off s = run t _ s from rfl)
    fun b ⟨ho, hg, hfwd, hfw, hdone, hoff, hp, hsw, h20, h500, hroom⟩ => ?_
  have held : (b.chan c).fwHeld = false := by simp [Chan.fwHeld, ho]
  have early : ¬500 ≤ ns := Nat.not_le.2 h500
  dsimp only
  rw [if_neg (by simp [held]), when_of _ _ (by simp [ho, hg, hfwd, hfw, hdone, hoff, hp]), keep_modChan, State.chan_modChan, if_pos rfl]
  exact ⟨by simp [early, hsw, h20, hroom, Chan.modStage], onlyChan_modChan ..⟩

theorem freewheelOn_held (sw : MilliVolt) (ns : Nat) (off : Bool) : Does (.freewheelOn t c sw ns off)
    (fun b => (b.chan c).fwHeld = true ∧ b.engine c = true ∧ sw < 2000 ∧ 20 ≤ ns)
    (fun b u => u.chan c = (b.chan c).modStage (fun g => { g with fw := true }) ∧ OnlyChan c b u) := by
  refine does_of_run _ (fun s => show execFreewheelOn t c sw ns off s = run t _ s from rfl) fun b ⟨hh, he, hsw, h20⟩ => ?_
  dsimp only
  rw [if_pos hh, when_of _ _ (by simp [hsw, h20, he]), State.modStage_eq, keep_modChan, State.chan_modChan, if_pos rfl]
  exact ⟨rfl, onlyChan_modChan ..⟩

theorem freewheelLowCurrent_turnsOff (ma : MilliAmp) : Does (.freewheelLowCurrent t c ma)
    (fun b => (b.chan c).stage.output = .pwm ∧ (b.chan c).stage.fw = true ∧ ma < 50)
    (fun b u => (u.chan c).stage.fw = false ∧ (u.chan c).gen.fwDone = true ∧ OnlyChan c b u) := by
  refine does_of_run _ (fun s => show execFreewheelLowCurrent t c ma s = run t _ s from rfl) fun b ⟨ho, hfw, hma⟩ => ?_
  dsimp only
  rw [when_of _ _ (by simp [ho, hfw, hma]), keep_modChan, State.chan_modChan, if_pos rfl]
  exact ⟨rfl, rfl, onlyChan_modChan ..⟩

/-- The freewheel switch of a channel commanded off ahead of the on edge, with the times that it measures (R313). -/
def Chan.fwOffAhead (x : Chan) (offNs waitNs : Nat) : Chan :=
  { x with
    stage := { x.stage with fw := false }
    gen := { x.gen with fwDone := true, ahead := true, fwWait := waitNs, fwOffNs := offNs } }

/-- FREEWHEEL_OFF_AHEAD within the lead of the next on edge (R313). -/
theorem does_freewheelOffAhead (offNs waitNs : Nat) {cond : State → Prop} {res : State → State → Prop}
    (due : ∀ b, cond b → b.engine c = true ∧ (b.chan c).stage.output = .pwm ∧ (b.chan c).gen.governs = true ∧ (b.chan c).stage.fwd = false ∧
      (b.chan c).gen.ahead = false ∧ 4 * b.now ≤ (b.chan c).gen.nextOn ∧ (b.chan c).gen.nextOn ≤ 4 * (b.now + (b.chan c).gen.fwOffNs + 20))
    (h : ∀ b, cond b → res b (b.keep (
      let s := b.modChan c (·.fwOffAhead offNs waitNs)
      if waitNs > 500 then
        let s := s.modGen c fun g => { g with fwSkip := bump 255 g.fwSkip, fwSkips := g.fwSkips + 1 }
        if (b.chan c).gen.fwSkips + 1 ≥ 8 then s.gateFault c else s
      else s.modGen c fun g => { g with fwSkips := 0 }))) : Does (.freewheelOffAhead t c offNs waitNs) cond res := by
  refine does_of_run _ (fun s => show execFreewheelOffAhead t c offNs waitNs s = run t _ s from rfl) fun b hb => ?_
  obtain ⟨he, ho, hg, hfwd, ha, hfrom, hto⟩ := due b hb
  have lead : (decide (quarters b.now ≤ (b.chan c).gen.nextOn) &&
      decide ((b.chan c).gen.nextOn ≤ quarters (b.now + (b.chan c).gen.fwOffNs + 20))) = true := by
    rw [Bool.and_eq_true]
    exact ⟨decide_eq_true hfrom, decide_eq_true hto⟩
  dsimp only
  rw [lead, when_of _ _ (by simp [he, ho, hg, hfwd, ha])]
  exact h b hb

theorem freewheelOffAhead_confirms (offNs waitNs : Nat) : Does (.freewheelOffAhead t c offNs waitNs)
    (fun b => b.engine c = true ∧ (b.chan c).stage.output = .pwm ∧ (b.chan c).gen.governs = true ∧ (b.chan c).stage.fwd = false ∧
      (b.chan c).gen.ahead = false ∧ 4 * b.now ≤ (b.chan c).gen.nextOn ∧ (b.chan c).gen.nextOn ≤ 4 * (b.now + (b.chan c).gen.fwOffNs + 20) ∧
      waitNs ≤ 500)
    (fun b u => (u.chan c).stage.fw = false ∧ (u.chan c).gen.ahead = true ∧ (u.chan c).gen.fwWait = waitNs ∧ (u.chan c).gen.fwOffNs = offNs ∧
      (u.chan c).gen.fwSkips = 0 ∧ OnlyChan c b u) := by
  refine does_freewheelOffAhead t c offNs waitNs (fun b ⟨he, ho, hg, hfwd, ha, hfrom, hto, _⟩ => ⟨he, ho, hg, hfwd, ha, hfrom, hto⟩)
    fun b ⟨_, _, _, _, _, _, _, hw⟩ => ?_
  have o : OnlyChan c b ((b.modChan c (·.fwOffAhead offNs waitNs)).modGen c fun g => { g with fwSkips := 0 }) := (onlyChan_modChan ..).mod _
  dsimp only
  rw [if_neg (Nat.not_lt.2 hw), o.keep, State.modGen_eq, State.chan_modChan, if_pos rfl, State.chan_modChan, if_pos rfl]
  exact ⟨rfl, rfl, rfl, rfl, rfl, o⟩

/-- The fault of the freewheel gate disables the generator, marks it and logs it (R339). -/
theorem gateFault_disables (s : State) (c : Ch) : ((s.gateFault c).chan c).gen.enabled = false ∧ ((s.gateFault c).chan c).gen.fwGate = true ∧
    OnlyChanLog c s (s.gateFault c) := by
  have set := fun x => onlyChan_setChan s c x
  unfold State.gateFault
  dsimp only
  split
  · exact ⟨by simp [Chan.decay, Gen.stop], by simp [Chan.decay, Gen.stop], OnlyChanLog.of ((set _).mod _) (onlyLog_chanFlag ..)⟩
  · exact ⟨by simp [Chan.staticOn, Gen.stop], by simp [Chan.staticOn, Gen.stop], OnlyChanLog.of ((set _).mod _) (onlyLog_chanFlag ..)⟩

theorem freewheelOffAhead_faults (offNs waitNs : Nat) : Does (.freewheelOffAhead t c offNs waitNs)
    (fun b => b.engine c = true ∧ (b.chan c).stage.output = .pwm ∧ (b.chan c).gen.governs = true ∧ (b.chan c).stage.fwd = false ∧
      (b.chan c).gen.ahead = false ∧ 4 * b.now ≤ (b.chan c).gen.nextOn ∧ (b.chan c).gen.nextOn ≤ 4 * (b.now + (b.chan c).gen.fwOffNs + 20) ∧
      500 < waitNs ∧ (b.chan c).gen.fwSkips = 7)
    (fun b u => (u.chan c).gen.enabled = false ∧ (u.chan c).gen.fwGate = true ∧ OnlyChanLog c b u) := by
  refine does_freewheelOffAhead t c offNs waitNs (fun b ⟨he, ho, hg, hfwd, ha, hfrom, hto, _⟩ => ⟨he, ho, hg, hfwd, ha, hfrom, hto⟩)
    fun b ⟨_, _, _, _, _, _, _, hw, h7⟩ => ?_
  dsimp only
  rw [if_pos hw, if_pos (Nat.succ_le_succ (Nat.le_of_eq h7.symm))]
  obtain ⟨off, fault, o⟩ := gateFault_disables ((b.modChan c (·.fwOffAhead offNs waitNs)).modGen c fun g =>
    { g with fwSkip := bump 255 g.fwSkip, fwSkips := g.fwSkips + 1 }) c
  have o' := (((onlyChan_modChan b c _).mod _).toLog).trans o
  rw [o'.keep]
  exact ⟨off, fault, o'⟩

/-! Faults found by their counts (R309, R310, R339). -/

theorem swCmpFault_stands (ma : MilliAmp) (a : Instant) : Does (.swCmpFault t c ma true)
    (fun b => b.engine c = true ∧ (b.chan c).gen.governs = true ∧ 1000 < ma ∧ (b.chan c).gen.swCmpSince = some a ∧ a + 1000000000 ≤ b.now)
    (fun b u => (u.chan c).gen.swCmp = true ∧ (u.chan c).stage = (b.chan c).stage ∧ OnlyChanLog c b u) := by
  refine does_of_run _ (fun s => show execSwCmpFault t c ma true s = run t _ s from rfl) fun b ⟨he, hg, hma, hsince, hat⟩ => ?_
  have stood : b.held (b.track true (b.chan c).gen.swCmpSince) sec = true := by
    rw [hsince]
    exact decide_eq_true hat
  have o : ∀ f (was is : Bool), OnlyChanLog c b ((b.modGen c f).chanFlag c 0x020B was is) := fun f _ _ =>
    OnlyChanLog.of (onlyChan_modChan ..) (onlyLog_chanFlag ..)
  dsimp only
  rw [when_of _ _ (by simp [he, hg, hma]), stood, (o ..).keep]
  exact ⟨by simp, by simp, o ..⟩

/-- What a calibration count leaves: a valid one is N_CAL, and the second in a row that is not finds the delay line at fault. -/
theorem Gen.calibrate_leaves (g : Gen) (n : Nat) : (80 ≤ n → n ≤ 120 → (g.calibrate n).nCal = n) ∧
    (n < 80 ∨ 120 < n → (g.calibrate n).nCal = g.nCal ∧ (1 ≤ g.calBad → (g.calibrate n).dlyFault = true)) := by
  refine ⟨fun low high => by simp [Gen.calibrate, low, high], fun h => ?_⟩
  have bad : ¬(80 ≤ n ∧ n ≤ 120) := by omega
  rw [Gen.calibrate, if_neg bad]
  exact ⟨rfl, fun again => by simp [again]⟩

theorem delayLineCalibration_counts (n : Nat) : Does (.delayLineCalibration t c n)
    (fun b => b.engine c = true ∧ (b.chan c).gen.calDue ≤ b.now ∧ (b.chan c).gen.quiet b.now = true)
    (fun b u => (80 ≤ n → n ≤ 120 → (u.chan c).gen.nCal = n) ∧
      (n < 80 ∨ 120 < n → (u.chan c).gen.nCal = (b.chan c).gen.nCal ∧ (1 ≤ (b.chan c).gen.calBad → (u.chan c).gen.dlyFault = true)) ∧
      (u.chan c).stage = (b.chan c).stage ∧ OnlyChanLog c b u) := by
  refine does_of_run _ (fun s => show execDelayLineCalibration t c n s = run t _ s from rfl) fun b ⟨he, hdue, hq⟩ => ?_
  have o : ∀ f (was is : Bool) (m : Int), OnlyChanLog c b ((b.modGen c f).chanFlag c 0x0209 was is m) := fun f _ _ _ =>
    OnlyChanLog.of (onlyChan_modChan ..) (onlyLog_chanFlag ..)
  obtain ⟨valid, bad⟩ := (b.chan c).gen.calibrate_leaves n
  dsimp only
  rw [when_of _ _ (by simp [he, hdue, hq]), (o ..).keep]
  simp only [State.chan_chanFlag, State.modGen_eq, State.chan_modChan, if_true, Chan.gen_modGen, Chan.stage_modGen]
  exact ⟨valid, bad, trivial, o ..⟩

end

/-- Settles O5: each event of the generator, at its condition, by what it does to its own channel. -/
theorem generatorActs : Obligations.GeneratorActs :=
  ⟨periodBoundary_passes, periodBoundary_begins, pwmCompare_off, pwmCompare_on, freewheelOn_follows, freewheelOn_held, freewheelOffAhead_confirms,
    freewheelOffAhead_faults, freewheelLowCurrent_turnsOff, swCmpFault_stands, delayLineCalibration_counts⟩

end Sys2Proof.Machine
end

section
/-!
PROOFS. Triggers, blanking windows and voltage calibration (R318 to R327, R354, R362, R375): a trigger is one update of its channel's generator, and a
window or a calibration one update of its cartridge.
-/
namespace Sys2Proof.Machine

/-! One cartridge. -/

theorem onlyCart_modCart (s : State) (k : Slot) (f : Cart → Cart) : OnlyCart k s (s.modCart k f) := ⟨fun j hj => by simp [hj], rfl⟩

theorem OnlyCart.keep {k : Slot} {s u : State} (h : OnlyCart k s u) : s.keep u = u := by
  refine State.keep_of ?_ ?_ <;> rw [h.2]

theorem keep_modCart (b : State) (k : Slot) (f : Cart → Cart) : b.keep (b.modCart k f) = b.modCart k f := (onlyCart_modCart b k f).keep

theorem keep_self (b : State) : b.keep b = b := State.keep_of rfl rfl

/-! Triggers. -/

/-- What a trigger samples on a path that is neither saturated nor blanked: the current, with the proof current added back for `on` (R318, R362). -/
theorem sample_of_trigger (p : Path) (temp : DeciDeg) (u : Int) (on : Nat) : p.sample temp u false false on = p.load temp u on - p.offset := rfl

/-- A trigger does not fire before the first boundary, while it is not enabled, twice in its period, or away from its position (R318). -/
theorem fires_eq_false {g : Gen} {trgB : Bool} {now : Instant}
    (h : g.begun = false ∨ bit (if trgB = true then g.act.trgb else g.act.trga) 31 = false ∨ (if trgB = true then g.firedB else g.firedA) = true ∨
      g.counterAt now ≠ bits (if trgB = true then g.act.trgb else g.act.trga) 0 24) : g.fires trgB now = false := by
  obtain h | h | h | h := h <;> simp [Gen.fires, h]

section
variable (t : Instant) (c : Ch) (u1 u2 : Int)

theorem triggerFire_keepsA : Does (.triggerFire t c false u1 u2)
    (fun b => (b.chan c).gen.fires false b.now = true ∧ (b.cart (slotOf c)).frozen = false)
    (fun b u =>
      let k := b.cart (slotOf c)
      let m := (b.chan c).meas
      let on := if k.proofOn b.now = true ∧ k.visitPos = (posOf c).val then 150000 else 0
      (u.chan c).gen.trgA1 = m.p1.load k.tMeas u1 on - m.p1.offset ∧ (u.chan c).gen.trgA2 = m.p2.load k.tMeas u2 on - m.p2.offset ∧
      (u.chan c).gen.trgATime = b.cartTime (slotOf c) / 10000 * 10000 ∧ (u.chan c).gen.trgABlank = b.blanked c 0 ∧
      (u.chan c).gen.trgACnt = (b.chan c).gen.trgACnt + 1 ∧ (u.chan c).gen.firedA = true ∧ (u.chan c).gen.trgB1 = (b.chan c).gen.trgB1 ∧
      OnlyChan c b u) := by
  refine does_of_run _ (fun s => show execTriggerFire t c false u1 u2 s = run t _ s from rfl) fun b ⟨hfire, hrun⟩ => ?_
  dsimp only
  rw [when_of _ _ (by simp [hfire, hrun]), State.modGen_eq, keep_modChan, State.chan_modChan, if_pos rfl]
  exact ⟨sample_of_trigger .., sample_of_trigger .., rfl, rfl, rfl, rfl, rfl, onlyChan_modChan ..⟩

theorem triggerFire_keepsB : Does (.triggerFire t c true u1 u2)
    (fun b => (b.chan c).gen.fires true b.now = true ∧ (b.cart (slotOf c)).frozen = false)
    (fun b u =>
      let k := b.cart (slotOf c)
      let m := (b.chan c).meas
      let on := if k.proofOn b.now = true ∧ k.visitPos = (posOf c).val then 150000 else 0
      (u.chan c).gen.trgB1 = m.p1.load k.tMeas u1 on - m.p1.offset ∧ (u.chan c).gen.trgBCnt = (b.chan c).gen.trgBCnt + 1 ∧
      (u.chan c).gen.firedB = true ∧ (u.chan c).gen.trgA1 = (b.chan c).gen.trgA1 ∧ OnlyChan c b u) := by
  refine does_of_run _ (fun s => show execTriggerFire t c true u1 u2 s = run t _ s from rfl) fun b ⟨hfire, hrun⟩ => ?_
  dsimp only
  rw [when_of _ _ (by simp [hfire, hrun]), State.modGen_eq, keep_modChan, State.chan_modChan, if_pos rfl]
  exact ⟨sample_of_trigger .., rfl, rfl, rfl, onlyChan_modChan ..⟩

theorem triggerFire_rests (trgB : Bool) : Does (.triggerFire t c trgB u1 u2)
    (fun b =>
      let g := (b.chan c).gen
      let w := if trgB = true then g.act.trgb else g.act.trga
      g.begun = false ∨ bit w 31 = false ∨ (if trgB = true then g.firedB else g.firedA) = true ∨ g.counterAt b.now ≠ bits w 0 24)
    (fun b u => u = b) := by
  refine does_of_run _ (fun s => show execTriggerFire t c trgB u1 u2 s = run t _ s from rfl) fun b h => ?_
  dsimp only
  rw [fires_eq_false h, Bool.false_and, when_false, keep_self]

end

/-! Blanking windows and calibration. -/

/-- A timer whose window has ended runs none, with its word unchanged. -/
theorem AuxTimer.close_leaves (a : AuxTimer) (now : Instant) : (a.close now).until_ = none ∧ (a.close now).sel = a.sel := by
  unfold AuxTimer.close
  dsimp only
  split
  · exact ⟨rfl, rfl⟩
  next h => exact ⟨h, rfl⟩

/-- An event of an enabled timer: its window runs its full length from here, as a fresh one or restarted (R322). -/
def AuxTimer.start (a : AuxTimer) (now : Instant) : AuxTimer :=
  let a := if a.until_.any (fun e => now < e) then a else { a.close now with since := now }
  { a with until_ := some (now + bits a.sel 16 11 * 100) }

theorem AuxTimer.start_leaves (a : AuxTimer) (now : Instant) :
    (a.start now).until_ = some (now + bits a.sel 16 11 * 100) ∧ (a.start now).sel = a.sel := by
  unfold AuxTimer.start
  dsimp only
  split
  · exact ⟨rfl, rfl⟩
  · rw [(a.close_leaves now).2]
    exact ⟨rfl, rfl⟩

/-- What a change of one timer of a cartridge leaves. -/
theorem modTimer_leaves (b : State) (k : Slot) (n : Fin 4) (f : AuxTimer → AuxTimer) :
    ((b.modCart k fun y => { y with at_ := modV y.at_ n f }).cart k).at_[n] = f ((b.cart k).at_[n]) ∧
    ∀ i : Fin 4, i ≠ n → ((b.modCart k fun y => { y with at_ := modV y.at_ n f }).cart k).at_[i] = (b.cart k).at_[i] := by
  simp only [State.cart_modCart, if_true]
  exact ⟨by rw [modV_get, if_pos rfl], fun i hi => by rw [modV_get, if_neg hi]⟩

section
variable (t : Instant) (k : Slot)

theorem blankWindowStart_runs (n src event : Fin 4) : Does (.blankWindowStart t k n src event)
    (fun b => (b.cart k).powered = true ∧ (b.cart k).frozen = false ∧ bit ((b.cart k).at_[n]).sel 31 = true ∧
      bits ((b.cart k).at_[n]).sel 0 2 = src.val ∧ bits ((b.cart k).at_[n]).sel 2 2 = event.val)
    (fun b u => ((u.cart k).at_[n]).until_ = some (b.now + bits ((b.cart k).at_[n]).sel 16 11 * 100) ∧
      ((u.cart k).at_[n]).sel = ((b.cart k).at_[n]).sel ∧ (∀ i : Fin 4, i ≠ n → (u.cart k).at_[i] = (b.cart k).at_[i]) ∧ OnlyCart k b u) := by
  refine does_of_run _ (fun s => show execBlankWindowStart t k n src event s = run t _ s from rfl) fun b ⟨hp, hf, hen, hsrc, hev⟩ => ?_
  obtain ⟨timer, others⟩ := modTimer_leaves b k n (·.start b.now)
  obtain ⟨runs, sel⟩ := ((b.cart k).at_[n]).start_leaves b.now
  dsimp only
  rw [when_of _ _ (by simpa [hp, hf] using ⟨⟨hen, hsrc⟩, hev⟩), keep_modCart]
  exact ⟨(congrArg (·.until_) timer).trans runs, (congrArg (·.sel) timer).trans sel, others, onlyCart_modCart ..⟩

theorem blankWindowEnd_ends (n : Fin 4) (e : Instant) : Does (.blankWindowEnd t k n)
    (fun b => ((b.cart k).at_[n]).until_ = some e ∧ e ≤ b.now)
    (fun b u => ((u.cart k).at_[n]).until_ = none ∧ ((u.cart k).at_[n]).sel = ((b.cart k).at_[n]).sel ∧
      (∀ i : Fin 4, i ≠ n → (u.cart k).at_[i] = (b.cart k).at_[i]) ∧ OnlyCart k b u) := by
  refine does_of_run _ (fun s => show execBlankWindowEnd t k n s = run t _ s from rfl) fun b ⟨hrun, hat⟩ => ?_
  obtain ⟨timer, others⟩ := modTimer_leaves b k n (·.close b.now)
  obtain ⟨ends, sel⟩ := ((b.cart k).at_[n]).close_leaves b.now
  rw [hrun]
  dsimp only
  rw [when_of _ _ (decide_eq_true hat), keep_modCart]
  exact ⟨(congrArg (·.until_) timer).trans ends, (congrArg (·.sel) timer).trans sel, others, onlyCart_modCart ..⟩

theorem voltageCalibration_sets (i : Fin 9) (uv : Int) : Does (.voltageCalibration t k i uv)
    (fun b => (b.cart k).powered = true ∧ 0 < uv)
    (fun b u => (u.cart k).vGain[i] = uv / 10 ∧ (∀ j : Fin 9, j ≠ i → (u.cart k).vGain[j] = (b.cart k).vGain[j]) ∧ OnlyCart k b u) := by
  refine does_of_run _ (fun s => show execVoltageCalibration t k i uv s = run t _ s from rfl) fun b ⟨hp, huv⟩ => ?_
  rw [when_of _ _ (by simp [hp, huv]), keep_modCart, State.cart_modCart, if_pos rfl]
  exact ⟨by rw [setV_get, if_pos rfl], fun j hj => by rw [setV_get, if_neg hj], onlyCart_modCart ..⟩

end

/-- Settles O22: a trigger by the pair it keeps, or by resting; a window by its timer; a calibration by the gain it sets. -/
theorem triggersAndWindows : Obligations.TriggersAndWindows :=
  ⟨triggerFire_keepsA, triggerFire_keepsB, fun t c trgB u1 u2 => triggerFire_rests t c u1 u2 trgB, blankWindowStart_runs, blankWindowEnd_ends,
    voltageCalibration_sets⟩

end Sys2Proof.Machine
end

section
/-!
PROOFS. Averages, energy and latches (R349 to R356, R618). What a stretch of samples leaves of a channel is said once, by induction on the samples; an average
reads nothing that it changes.
-/
namespace Sys2Proof.Machine

/-! What samples leave of a channel (R346 to R366). -/

/-- A path has taken samples in, and is otherwise as it was. -/
def Path.Sampled (p q : Path) : Prop := q = { p with pol := q.pol, inner := q.inner, last := q.last, half1 := q.half1, half2 := q.half2 }

/-- A channel has taken samples in, and is otherwise as it was. -/
def Chan.Sampled (x y : Chan) : Prop :=
  Path.Sampled x.meas.p1 y.meas.p1 ∧ Path.Sampled x.meas.p2 y.meas.p2 ∧
  y = { x with meas := { x.meas with
    p1 := y.meas.p1, p2 := y.meas.p2, lastV := y.meas.lastV, bucket := y.meas.bucket, offSum := y.meas.offSum } }

theorem Path.Sampled.trans {p q r : Path} (h : Path.Sampled p q) (g : Path.Sampled q r) : Path.Sampled p r := by
  unfold Path.Sampled at *
  rw [g, h]

theorem Chan.Sampled.refl (x : Chan) : Chan.Sampled x x := ⟨rfl, rfl, rfl⟩

theorem Chan.Sampled.trans {x y z : Chan} (h : Chan.Sampled x y) (g : Chan.Sampled y z) : Chan.Sampled x z := by
  obtain ⟨h1, h2, hrest⟩ := h
  obtain ⟨g1, g2, grest⟩ := g
  exact ⟨h1.trans g1, h2.trans g2, by rw [grest, hrest]⟩

section
variable {x y : Chan} (h : Chan.Sampled x y)
include h

theorem Chan.Sampled.p1 : Path.Sampled x.meas.p1 y.meas.p1 := h.1
theorem Chan.Sampled.p2 : Path.Sampled x.meas.p2 y.meas.p2 := h.2.1
theorem Chan.Sampled.stage : y.stage = x.stage := by rw [h.2.2]
theorem Chan.Sampled.prot : y.prot = x.prot := by rw [h.2.2]
theorem Chan.Sampled.crazing : y.meas.crazing = x.meas.crazing := by rw [h.2.2]
theorem Chan.Sampled.energy : y.meas.energy = x.meas.energy := by rw [h.2.2]
theorem Chan.Sampled.energyRem : y.meas.energyRem = x.meas.energyRem := by rw [h.2.2]
theorem Chan.Sampled.sum100ms : y.meas.sum100ms = x.meas.sum100ms := by rw [h.2.2]
theorem Chan.Sampled.sum1s : y.meas.sum1s = x.meas.sum1s := by rw [h.2.2]
theorem Chan.Sampled.avg100ms : y.meas.avg100ms = x.meas.avg100ms := by rw [h.2.2]
theorem Chan.Sampled.avg1s : y.meas.avg1s = x.meas.avg1s := by rw [h.2.2]

end

theorem sample_sampled (x : Chan) (k : Cart) (p : Fin 4) (a : Instant) (u : SampleIn) (sum : AvgSum) :
    Chan.Sampled x (x.sample k p a u sum).1 := ⟨rfl, rfl, rfl⟩

theorem samples_sampled (k : Cart) (p : Fin 4) (l : List SampleIn) (a : Instant) (x : Chan) (sum : AvgSum) :
    Chan.Sampled x (Chan.samples k p l a x sum).1 := by
  induction l generalizing a x sum with
  | nil => exact Chan.Sampled.refl x
  | cons u l ih => exact (sample_sampled x k p a u sum).trans (ih ..)

theorem samples_count (k : Cart) (p : Fin 4) (l : List SampleIn) (a : Instant) (x : Chan) (sum : AvgSum) :
    (Chan.samples k p l a x sum).2.n = sum.n + l.length := by
  induction l generalizing a x sum with
  | nil => rfl
  | cons u l ih =>
    rw [Chan.samples, ih, List.length_cons]
    show sum.n + 1 + l.length = sum.n + (l.length + 1)
    omega

theorem learnInner_sampled (p : Path) (l : List Int) : Path.Sampled p (p.learnInner l) := by
  unfold Path.learnInner
  split <;> rfl

/-- An average is formed of its sums, of the cartridge, and of what the paths are apart from their samples (R351, R367). -/
theorem average_congr {s u : State} {c : Ch} (now : u.now = s.now) (cart : u.cart (slotOf c) = s.cart (slotOf c))
    (p1 : Path.Sampled (s.chan c).meas.p1 (u.chan c).meas.p1) (p2 : Path.Sampled (s.chan c).meas.p2 (u.chan c).meas.p2)
    (crazing : (u.chan c).meas.crazing = (s.chan c).meas.crazing) : u.average c = s.average c := by
  have used1 : (u.chan c).meas.p1.used = (s.chan c).meas.p1.used := by rw [p1]; rfl
  have used2 : (u.chan c).meas.p2.used = (s.chan c).meas.p2.used := by rw [p2]; rfl
  have visit1 : (u.chan c).meas.p1.visitAt = (s.chan c).meas.p1.visitAt := by rw [p1]
  have visit2 : (u.chan c).meas.p2.visitAt = (s.chan c).meas.p2.visitAt := by rw [p2]
  have mean1 : (u.chan c).meas.p1.mean1s = (s.chan c).meas.p1.mean1s := by rw [p1]
  have mean2 : (u.chan c).meas.p2.mean1s = (s.chan c).meas.p2.mean1s := by rw [p2]
  funext code time a
  simp only [State.average, Meas.cls, Meas.current, Meas.disagreement, now, cart, used1, used2, visit1, visit2, mean1, mean2, crazing]

/-- Energy is added without loss while the accumulator has room (R356). -/
theorem addEnergy_lossless {m : Meas} {pos : Nat} (room : m.energy + (m.energyRem + pos) / 72000000000000 < 2 ^ 64) :
    (m.addEnergy pos).energy * 72000000000000 + (m.addEnergy pos).energyRem = m.energy * 72000000000000 + m.energyRem + pos := by
  simp only [Meas.addEnergy, Nat.mod_eq_of_lt room]
  omega

/-! The ends of intervals. -/

section
variable (t : Instant) (c : Ch) (x : List SampleIn) (mirror : MilliAmp)

theorem averageIntervalEnd_ms : Does (.averageIntervalEnd t c 0 x mirror)
    (fun b => (b.cart (slotOf c)).powered = true ∧ x.length = 20 ∧
      (b.chan c).meas.energy + ((b.chan c).meas.energyRem +
        (Chan.samples (b.cart (slotOf c)) (posOf c) x (b.onClock (slotOf c) (b.intervalEnd (slotOf c) 1000000) - 1000000) (b.chan c) {}).2.pos) /
          72000000000000 < 2 ^ 64)
    (fun b u =>
      let time := b.intervalEnd (slotOf c) 1000000
      let a := (Chan.samples (b.cart (slotOf c)) (posOf c) x (b.onClock (slotOf c) time - 1000000) (b.chan c) {}).2
      let m := (b.chan c).meas
      let n := (u.chan c).meas
      a.n = 20 ∧ n.avg1ms = b.average c 0 time a ∧ n.mirror = mirror ∧
      n.energy * 72000000000000 + n.energyRem = m.energy * 72000000000000 + m.energyRem + a.pos ∧
      n.sum100ms.n = m.sum100ms.n + 20 ∧ n.sum100ms.p = m.sum100ms.p + a.p ∧ n.sum1s.n = m.sum1s.n + 20 ∧ n.sum1s.i1 = m.sum1s.i1 + a.i1 ∧
      n.avg100ms = m.avg100ms ∧ n.avg1s = m.avg1s ∧ (u.chan c).stage = (b.chan c).stage ∧ (u.chan c).prot = (b.chan c).prot ∧ OnlyChan c b u) := by
  refine does_of_run _ (fun s => show execAverageIntervalEnd t c 0 x mirror s = run t _ s from rfl) fun b ⟨hp, hx, room⟩ => ?_
  have start : x.length * sampleNs = 1000000 := by rw [hx]; rfl
  dsimp only
  rw [when_of _ _ hp, if_pos rfl, if_neg fun h => h.2 hx, start, show intervalNs 0 = 1000000 from rfl]
  have count := samples_count (b.cart (slotOf c)) (posOf c) x (b.onClock (slotOf c) (b.intervalEnd (slotOf c) 1000000) - 1000000) (b.chan c) {}
  have taken := samples_sampled (b.cart (slotOf c)) (posOf c) x (b.onClock (slotOf c) (b.intervalEnd (slotOf c) 1000000) - 1000000) (b.chan c) {}
  generalize Chan.samples (b.cart (slotOf c)) (posOf c) x _ (b.chan c) {} = r at count taken room ⊢
  obtain ⟨z, a⟩ := r
  dsimp only at count taken room ⊢
  have n20 : a.n = 20 := by rw [count, hx]
  have same : (b.setChan c { z with meas := z.meas.tally a x mirror }).average c = b.average c := by
    refine average_congr rfl rfl ?_ ?_ ?_ <;> rw [State.chan_setChan, if_pos rfl]
    · exact taken.p1.trans (learnInner_sampled ..)
    · exact taken.p2.trans (learnInner_sampled ..)
    · exact taken.crazing
  have kept := addEnergy_lossless (m := z.meas) (pos := a.pos) (by rwa [taken.energy, taken.energyRem])
  rw [taken.energy, taken.energyRem] at kept
  have o : ∀ w f, OnlyChan c b ((b.setChan c w).modMeas c f) := fun _ _ => (onlyChan_setChan ..).mod _
  rw [same, (o ..).keep, State.modMeas_eq, State.chan_modChan, if_pos rfl, State.chan_setChan, if_pos rfl]
  refine ⟨n20, rfl, rfl, kept, ?_, ?_, ?_, ?_, taken.avg100ms, taken.avg1s, taken.stage, taken.prot, o ..⟩ <;>
    simp [Meas.tally, AvgSum.join, taken.sum100ms, taken.sum1s, n20]

/-- The 100 ms that end close the triggered means with their average (R349, R354). -/
theorem averageIntervalEnd_100ms : Does (.averageIntervalEnd t c 1 x mirror)
    (fun b => (b.cart (slotOf c)).powered = true)
    (fun b u =>
      let m := (b.chan c).meas
      let n := (u.chan c).meas
      n.avg100ms = (if m.sum100ms.n = 0 then m.avg100ms else b.average c 1 (b.intervalEnd (slotOf c) 100000000) m.sum100ms) ∧ n.sum100ms = {} ∧
      n.energy = m.energy ∧ n.avg1s = m.avg1s ∧ (u.chan c).gen = (b.chan c).gen.trigMeans ∧ (u.chan c).stage = (b.chan c).stage ∧ OnlyChan c b u) := by
  refine does_of_run _ (fun s => show execAverageIntervalEnd t c 1 x mirror s = run t _ s from rfl) fun b hp => ?_
  have o : ∀ f g, OnlyChan c b ((b.modMeas c f).modGen c g) := fun _ _ => (onlyChan_modChan ..).mod _
  dsimp only
  rw [when_of _ _ hp, if_neg (show ¬(1 : Fin 3) = 0 by decide), if_pos rfl, (o ..).keep]
  refine ⟨?_, ?_, ?_, ?_, ?_, ?_, o ..⟩ <;> simp [intervalNs, msec]

/-- Counting on the exceedance timers (R446) leaves every channel. -/
theorem chan_trackOver (b u : State) (c d : Ch) {_ : Decidable (u.active.isSome = true)} :
    (b.keep (if u.active.isSome = true then u.trackOver c else u)).chan d = u.chan d := by
  split <;> rfl

/-- Counting on the exceedance timers after a change of one channel leaves the rest but the cooling. -/
theorem trackOver_rest {b u : State} {c : Ch} (h : OnlyChan c b u) :
    let v := b.keep (if u.active.isSome = true then u.trackOver c else u)
    v = { b with chans := v.chans, cool := v.cool } := by
  obtain ⟨-, rest⟩ := h
  dsimp only
  split <;> rw [rest] <;> rfl

theorem averageIntervalEnd_1s : Does (.averageIntervalEnd t c 2 x mirror)
    (fun b => (b.cart (slotOf c)).powered = true)
    (fun b u =>
      let m := (b.chan c).meas
      let n := (u.chan c).meas
      n.avg1s = (if m.sum1s.n = 0 then m.avg1s else b.average c 2 (b.intervalEnd (slotOf c) 1000000000) m.sum1s) ∧ n.sum1s = {} ∧
      n.energy = m.energy ∧ n.avg100ms = m.avg100ms ∧ (∀ d, d ≠ c → u.chan d = b.chan d) ∧ u = { b with chans := u.chans, cool := u.cool }) := by
  refine does_of_run _ (fun s => show execAverageIntervalEnd t c 2 x mirror s = run t _ s from rfl) fun b hp => ?_
  dsimp only
  rw [when_of _ _ hp, if_neg (show ¬(2 : Fin 3) = 0 by decide), if_neg (show ¬(2 : Fin 3) = 1 by decide)]
  refine ⟨?_, ?_, ?_, ?_, fun d hd => ?_, trackOver_rest (onlyChan_modChan ..)⟩ <;> rw [chan_trackOver]
  · simp [intervalNs, sec]
  · simp
  · simp
  · simp
  · simp [hd]

end

/-! Latches and the energy save. -/

theorem OnlyChansOf.modCart {k : Slot} {s u : State} (h : OnlyChansOf k s u) (f : Cart → Cart) : OnlySlot k s (u.modCart k f) := by
  obtain ⟨chan, rest⟩ := h
  refine ⟨chan, fun j hj => ?_, by rw [rest]; rfl⟩
  rw [State.cart_modCart, if_neg hj, rest]
  rfl

theorem OnlySlot.keep {k : Slot} {s u : State} (h : OnlySlot k s u) : s.keep u = u := by
  refine State.keep_of ?_ ?_ <;> rw [h.2.2]

/-- A channel of the cartridge `k` forms its latch sample at `T`, of both paths (R355, R379). -/
def State.formLatch (k : Slot) (T : UnitTime) (x : Vector SampleIn 4) (c : Ch) (s : State) : State :=
  let a := ((s.chan c).sample (s.cart k) (posOf c) (s.onClock k T - sampleNs) x[posOf c] {}).2
  s.modMeas c fun m => { m with latch := some (s.average c 3 T a) }

theorem onlyChan_formLatch (k : Slot) (T : UnitTime) (x : Vector SampleIn 4) (c : Ch) (s : State) : OnlyChan c s (s.formLatch k T x c) :=
  onlyChan_modChan ..

/-- What is done for each position of a cartridge is done over its channels. -/
theorem overList_positions (k : Slot) (f : Ch → State → State) (s : State) :
    overList (List.finRange 4) (fun p s => f (chOf k p) s) s = overList (chansOf k) f s := by
  rw [overList, overList, chansOf, List.foldl_map]

/-- The latch sample that a channel forms is formed of that channel, of its cartridge and of the clock alone. -/
theorem formLatch_congr {k : Slot} {T : UnitTime} {x : Vector SampleIn 4} {c : Ch} {s u : State} (now : u.now = s.now)
    (cart : ∀ j, u.cart j = s.cart j) (chan : u.chan c = s.chan c) :
    (u.formLatch k T x c).chan c = (s.formLatch k T x c).chan c := by
  have same : u.average c = s.average c := average_congr now (cart _) (by rw [chan]; rfl) (by rw [chan]; rfl) (by rw [chan])
  simp only [State.formLatch, State.modMeas_eq, State.chan_modChan, if_true, same, chan, cart, State.onClock]

theorem latchInstant_samples (t : Instant) (k : Slot) (x : Vector SampleIn 4) (T : UnitTime) : Does (.latchInstant t k x)
    (fun b => (b.cart k).latchAt = some T ∧ (b.cart k).powered = true ∧ (b.cart k).holder.isSome = true ∧ T ≤ b.cartTime k)
    (fun b u => (∀ p : Fin 4, u.chan (chOf k p) = { b.chan (chOf k p) with meas := { (b.chan (chOf k p)).meas with
        latch := some (b.average (chOf k p) 3 T (Chan.sample (b.chan (chOf k p)) (b.cart k) p (b.onClock k T - 50000) x[p] {}).2) } }) ∧
      u.cart k = { b.cart k with latchAt := none } ∧ OnlySlot k b u) := by
  refine does_of_run _ (fun s => show execLatchInstant t k x s = run t _ s from rfl) fun b ⟨hT, hp, hh, hat⟩ => ?_
  have each : ∀ p (s : State), s.formLatch k T x (chOf k p) = s.modMeas (chOf k p) fun m => { m with
      latch := some (s.average (chOf k p) 3 T ((s.chan (chOf k p)).sample (s.cart k) p (s.onClock k T - sampleNs) x[p] {}).2) } :=
    fun p s => by simp only [State.formLatch, posOf_chOf]
  have turns := overList_positions k (State.formLatch k T x) b
  have chans := onlyChansOf_overList k (State.formLatch k T x) (onlyChan_formLatch k T x) (chansOf k) (fun c hc => (chansOf_mem k c).1 hc) b
  simp only [each] at turns
  dsimp only
  rw [hT]
  dsimp only
  rw [when_of _ _ (by simp [hp, hh, hat]), turns, (chans.modCart _).keep]
  refine ⟨fun p => ?_, ?_, chans.modCart _⟩
  · obtain ⟨s', others, same, hu⟩ := over_at _ (fun c s => (onlyChan_formLatch k T x c s).toLog) (chansOf k) (chansOf_nodup k) _
      (chOf_mem_chansOf k p) b
    rw [State.chan_modCart, hu, formLatch_congr (by rw [others]) (fun j => by rw [others]; rfl) same, each, State.modMeas_eq,
      State.chan_modChan, if_pos rfl]
    rfl
  · rw [State.cart_modCart, if_pos rfl, chans.2]
    rfl

theorem latchComplete_completes (t : Instant) (c : Ctl) (T : UnitTime) : Does (.latchComplete t)
    (fun b => b.active = some c ∧ (b.ctl c).latchAt = some T ∧ T + 2000000 ≤ b.utime c)
    (fun b u => u.ctl c = { b.ctl c with latchAt := none, latched := some T } ∧ OnlyCtl c b u) := by
  refine does_of_run _ (fun s => show execLatchComplete t s = run t _ s from rfl) fun b ⟨ha, hT, hat⟩ => ?_
  have o := fun f => onlyCtl_modCtl b c f
  have due : decide (T + (2 * msec : Nat) ≤ b.utime c) = true := decide_eq_true hat
  rw [ha]
  dsimp only
  rw [hT]
  dsimp only
  rw [when_of _ _ due, (o _).2.keep]
  exact ⟨by simp, o _⟩

theorem energySave_saves (t : Instant) (k : Slot) : Does (.energySave t k)
    (fun b => (b.cart k).powered = true)
    (fun b u => (∀ c, slotOf c = k → (u.chan c).meas = { (b.chan c).meas with energySaved := (b.chan c).meas.energy } ∧
      (u.chan c).stage = (b.chan c).stage ∧ (u.chan c).prot = (b.chan c).prot) ∧ OnlyChansOf k b u) := by
  refine does_of_run _ (fun s => show execEnergySave t k s = run t _ s from rfl) fun b hp => ?_
  have one : ∀ c (s : State), OnlyChan c s (s.modMeas c fun m => { m with energySaved := m.energy }) := fun c s => onlyChan_modChan ..
  have o := onlyChansOf_overList k _ one (chansOf k) (fun c hc => (chansOf_mem k c).1 hc) b
  rw [when_of _ _ hp, o.keep]
  refine ⟨fun c hc => ?_, o⟩
  obtain ⟨s', -, same, hu⟩ := over_at _ (fun c s => (one c s).toLog) (chansOf k) (chansOf_nodup k) c ((chansOf_mem k c).2 hc) b
  rw [hu, State.modMeas_eq, State.chan_modChan, if_pos rfl, same]
  exact ⟨rfl, rfl, rfl⟩

/-- Settles O19: the ends of intervals by what their samples leave, the latches by what each channel forms of its own sample, the save by the
accumulators. -/
theorem averagesAndLatches : Obligations.AveragesAndLatches :=
  ⟨averageIntervalEnd_ms, averageIntervalEnd_100ms, averageIntervalEnd_1s, latchInstant_samples, latchComplete_completes, energySave_saves⟩

end Sys2Proof.Machine
end

section
/-!
PROOFS. Calibration visits and offsets (R361 to R366). A visit changes one channel and its cartridge; what the tests at its end leave of the channel is said
once of each test.
-/
namespace Sys2Proof.Machine

/-! The tests at the end of a visit. -/

/-- VISIT_STARVED marks the channel and logs, and does nothing else (R380). -/
theorem onlyChanLog_starve (s : State) (c : Ch) : OnlyChanLog c s (s.starve c) :=
  OnlyChanLog.of (onlyChan_modChan ..) (onlyLog_chanFlag ..)

theorem chan_starve (s : State) (c : Ch) :
    (s.starve c).chan c = (s.chan c).modMeas fun m => { m with starved := decide (30 ≤ m.p1.rejRow) || decide (30 ≤ m.p2.rejRow) } := by
  simp [State.starve, Chan.modMeas]

theorem onlyChanLog_exclude (s : State) (c : Ch) : OnlyChanLog c s (s.exclude c) := by
  unfold State.exclude
  dsimp only
  split
  · split
    · exact OnlyChanLog.refl ..
    · exact OnlyChanLog.of (onlyChan_modChan ..) (onlyLog_chanEvent ..)
  · exact OnlyChanLog.refl ..

/-- An exclusion marks a path and leaves the channel otherwise as it was (R370). -/
theorem chan_exclude (s : State) (c : Ch) : ∃ e1 e2, (s.exclude c).chan c = (s.chan c).modMeas fun m =>
    { m with p1 := { m.p1 with excluded := e1 }, p2 := { m.p2 with excluded := e2 } } := by
  have kept : s.chan c = (s.chan c).modMeas fun m => { m with
      p1 := { m.p1 with excluded := (s.chan c).meas.p1.excluded }, p2 := { m.p2 with excluded := (s.chan c).meas.p2.excluded } } := rfl
  unfold State.exclude
  dsimp only
  split
  · split
    · exact ⟨_, _, kept⟩
    next n _ =>
      rw [State.chan_chanEvent, State.modMeas_eq, State.chan_modChan, if_pos rfl]
      by_cases h : n = 1
      · exact ⟨true, (s.chan c).meas.p2.excluded, by simp [h, Chan.modMeas]⟩
      · exact ⟨(s.chan c).meas.p1.excluded, true, by simp [h, Chan.modMeas]⟩
  · exact ⟨_, _, kept⟩

/-- The tests at the end of a visit leave what the visit found of each path (R370, R380). -/
theorem visitTests_keep (s : State) (c : Ch) : OnlyChanLog c s ((s.starve c).exclude c) ∧
    ∃ e1 e2, (((s.starve c).exclude c).chan c).meas.p1 = { (s.chan c).meas.p1 with excluded := e1 } ∧
      (((s.starve c).exclude c).chan c).meas.p2 = { (s.chan c).meas.p2 with excluded := e2 } := by
  obtain ⟨e1, e2, u⟩ := chan_exclude (s.starve c) c
  rw [u, chan_starve]
  exact ⟨(onlyChanLog_starve s c).trans (onlyChanLog_exclude ..), e1, e2, rfl, rfl⟩

/-! The visit's end of each path (R361, R364). -/

theorem Path.visited_accepts {p : Path} (temp : DeciDeg) (now : Instant) (h : halvesAgree p.half1.amplitude p.half2.amplitude = true) :
    (p.visited temp now false).gain = (p.half1.amplitude + p.half2.amplitude) / 2 / 100 ∧ (p.visited temp now false).visitOk = true ∧
    (p.visited temp now false).visitAt = some now ∧ (p.visited temp now false).rejRow = 0 := by
  simp [Path.visited, h]

theorem Path.visited_rejects {p : Path} (temp : DeciDeg) (now : Instant) (h : halvesAgree p.half1.amplitude p.half2.amplitude = false) :
    p.visited temp now false = p.reject := by
  simp [Path.visited, h]

/-! Visits: one channel, its cartridge and the logs. -/

/-- A change of a channel and of its cartridge, and what then changes the channel and the logs alone. -/
theorem visit_frame {k : Slot} {p : Fin 4} {b u : State} {g : Meas → Meas} {f : Cart → Cart}
    (h : OnlyChanLog (chOf k p) ((b.modMeas (chOf k p) g).modCart k f) u) :
    u.cart k = f (b.cart k) ∧ (∀ d, d ≠ chOf k p → u.chan d = b.chan d) ∧ OnlySlotLog k b u := by
  have first : OnlySlotLog k b (b.modMeas (chOf k p) g) := by simpa using (onlyChan_modChan b (chOf k p) (·.modMeas g)).toLog.toSlot
  have last : OnlySlotLog k ((b.modMeas (chOf k p) g).modCart k f) u := by simpa using h.toSlot
  obtain ⟨chan, -, rest⟩ := h
  refine ⟨?_, fun d hd => ?_, (first.trans (onlySlotLog_modCart ..)).trans last⟩
  · rw [rest]
    exact (State.cart_modCart ..).trans (if_pos rfl)
  · rw [chan d hd, State.chan_modCart, State.modMeas_eq, State.chan_modChan, if_neg hd]

/-- The tests after a change of a channel and of its cartridge. -/
theorem visitEnd_leaves (b : State) (k : Slot) (p : Fin 4) (g : Meas → Meas) (f : Cart → Cart) :
    let u := (((b.modMeas (chOf k p) g).modCart k f).starve (chOf k p)).exclude (chOf k p)
    (∃ e1 e2, (u.chan (chOf k p)).meas.p1 = { (g (b.chan (chOf k p)).meas).p1 with excluded := e1 } ∧
      (u.chan (chOf k p)).meas.p2 = { (g (b.chan (chOf k p)).meas).p2 with excluded := e2 }) ∧
    u.cart k = f (b.cart k) ∧ (∀ d, d ≠ chOf k p → u.chan d = b.chan d) ∧ OnlySlotLog k b u := by
  obtain ⟨o, e1, e2, p1, p2⟩ := visitTests_keep ((b.modMeas (chOf k p) g).modCart k f) (chOf k p)
  rw [State.chan_modCart, State.modMeas_eq, State.chan_modChan, if_pos rfl] at p1 p2
  exact ⟨⟨e1, e2, p1, p2⟩, visit_frame o⟩

/-- The position that a visit notes is the position of its channel. -/
theorem visit_position (p : Fin 4) : (⟨p.val % 4, Nat.mod_lt _ (by decide)⟩ : Fin 4) = p := by revert p; decide

theorem abandonVisit_eq {s : State} {k : Slot} {p : Fin 4} (hv : (s.cart k).visit = some p.val) :
    s.abandonVisit k = ((s.modMeas (chOf k p) fun m => { m with p1 := m.p1.reject, p2 := m.p2.reject }).modCart k fun x =>
      { x with visit := none, visitStop := min x.visitStop s.now }).starve (chOf k p) := by
  rw [State.abandonVisit, hv]
  dsimp only
  rw [visit_position]
  rfl

section
variable (t : Instant) (k : Slot)

theorem visitStart_begins (p : Fin 4) : Does (.visitStart t k p)
    (fun b => (b.cart k).powered = true ∧ (b.cart k).visit = none ∧
      0 ≤ ((b.now : Int) + b.cycleOff k) % 10000000000 - 2500000000 * p.val ∧
      ((b.now : Int) + b.cycleOff k) % 10000000000 - 2500000000 * p.val < 1000000)
    (fun b u =>
      let m := (b.chan (chOf k p)).meas
      (b.visitBarred (chOf k p) = false →
        u.cart k = { b.cart k with visit := some p.val, visitPos := p.val, visitAt := b.now, visitStop := b.now + 2000000000, grid := b.cycleOff k } ∧
        u.chan (chOf k p) = { b.chan (chOf k p) with meas := { m with
          p1 := { m.p1 with half1 := {}, half2 := {} }, p2 := { m.p2 with half1 := {}, half2 := {} } } } ∧
        (∀ d, d ≠ chOf k p → u.chan d = b.chan d) ∧ OnlySlot k b u) ∧
      (b.visitBarred (chOf k p) = true → u = b)) := by
  refine does_of_run _ (fun s => show execVisitStart t k p s = run t _ s from rfl) fun b ⟨hp, hv, from0, to1⟩ => ?_
  have place : ((b.now : Int) + b.cycleOff k) % (10 * sec : Nat) - (p.val * (2500 * msec) : Nat) =
      ((b.now : Int) + b.cycleOff k) % 10000000000 - 2500000000 * p.val := by
    simp [sec, msec, Int.mul_comm]
  dsimp only
  rw [place, hp, hv, decide_eq_true from0, decide_eq_true (show _ < ((msec : Nat) : Int) from to1)]
  refine ⟨fun free => ?_, fun barred => ?_⟩
  · have chans : ∀ g, OnlyChansOf k b (b.modMeas (chOf k p) g) := fun g => by
      simpa using (onlyChan_modChan b (chOf k p) (·.modMeas g)).toChansOf
    rw [when_of _ _ (by simp [free]), ((chans _).modCart _).keep]
    refine ⟨?_, ?_, fun d hd => ?_, (chans _).modCart _⟩
    · rw [State.cart_modCart, if_pos rfl]
      rfl
    · rw [State.chan_modCart, State.modMeas_eq, State.chan_modChan, if_pos rfl]
      rfl
    · rw [State.chan_modCart, State.modMeas_eq, State.chan_modChan, if_neg hd]
  · rw [barred]
    exact keep_self b

theorem visitEnd_judges (p : Fin 4) : Does (.visitEnd t k)
    (fun b =>
      let m := (b.chan (chOf k p)).meas
      (b.cart k).visit = some p.val ∧ (b.cart k).visitStop ≤ b.now ∧ (b.cart k).proofBad = false ∧
      halvesAgree m.p1.half1.amplitude m.p1.half2.amplitude = true ∧ halvesAgree m.p2.half1.amplitude m.p2.half2.amplitude = false)
    (fun b u =>
      let m := (b.chan (chOf k p)).meas
      let n := (u.chan (chOf k p)).meas
      n.p1.gain = (m.p1.half1.amplitude + m.p1.half2.amplitude) / 2 / 100 ∧ n.p1.visitOk = true ∧ n.p1.visitAt = some b.now ∧ n.p1.rejRow = 0 ∧
      n.p2.gain = m.p2.gain ∧ n.p2.visitOk = false ∧ n.p2.rejRow = m.p2.rejRow + 1 ∧
      (u.cart k).visit = none ∧ (∀ d, d ≠ chOf k p → u.chan d = b.chan d) ∧ OnlySlotLog k b u) := by
  refine does_of_run _ (fun s => show execVisitEnd t k s = run t _ s from rfl) fun b ⟨hv, hstop, hproof, agree, differ⟩ => ?_
  obtain ⟨gain, ok, at_, row⟩ := Path.visited_accepts (b.cart k).tMeas b.now agree
  have rejected := Path.visited_rejects (b.cart k).tMeas b.now differ
  obtain ⟨⟨e1, e2, p1, p2⟩, cart, others, o⟩ := visitEnd_leaves b k p
    (fun m => { m with p1 := m.p1.visited (b.cart k).tMeas b.now false, p2 := m.p2.visited (b.cart k).tMeas b.now false })
    (fun x => { x with visit := none })
  dsimp only
  rw [hv]
  dsimp only
  rw [visit_position, when_of _ _ (decide_eq_true hstop), hproof, o.keep, cart, p1, p2]
  exact ⟨gain, ok, at_, row, congrArg (·.gain) rejected, congrArg (·.visitOk) rejected, congrArg (·.rejRow) rejected, rfl, others, o⟩

theorem visitAbandoned_rejects (p : Fin 4) (sat : Bool) : Does (.visitAbandoned t k sat)
    (fun b => (b.cart k).visit = some p.val)
    (fun b u =>
      let m := (b.chan (chOf k p)).meas
      let n := (u.chan (chOf k p)).meas
      (sat = true ∨ b.visitBarred (chOf k p) = true →
        n.p1 = m.p1.reject ∧ n.p2 = m.p2.reject ∧
        u.cart k = { b.cart k with visit := none, visitStop := min (b.cart k).visitStop b.now } ∧
        (∀ d, d ≠ chOf k p → u.chan d = b.chan d) ∧ OnlySlotLog k b u) ∧
      (sat = false ∧ b.visitBarred (chOf k p) = false → u = b)) := by
  refine does_of_run _ (fun s => show execVisitAbandoned t k sat s = run t _ s from rfl) fun b hv => ?_
  dsimp only
  rw [hv]
  dsimp only
  rw [visit_position]
  refine ⟨fun ends => ?_, fun ⟨hs, hb⟩ => ?_⟩
  · have tests := onlyChanLog_starve ((b.modMeas (chOf k p) fun m => { m with p1 := m.p1.reject, p2 := m.p2.reject }).modCart k fun x =>
      { x with visit := none, visitStop := min x.visitStop b.now }) (chOf k p)
    obtain ⟨cart, others, o⟩ := visit_frame tests
    rw [when_of _ _ (by simpa using ends), abandonVisit_eq hv, o.keep, chan_starve, State.chan_modCart, State.modMeas_eq, State.chan_modChan,
      if_pos rfl]
    exact ⟨rfl, rfl, cart, others, o⟩
  · rw [hs, hb]
    exact keep_self b

end

theorem meanOf_pos {n : Nat} (sum : Int) (h : 0 < n) : meanOf sum n = sum / (n : Int) := by
  rw [meanOf, Nat.max_eq_right h]

theorem offsetLearn_learns (t : Instant) (c : Ch) : Does (.offsetLearn t c)
    (fun b => (b.cart (slotOf c)).powered = true ∧ (b.chan c).stage.output = .off ∧ (b.chan c).stage.ser = false ∧
      (b.chan c).stage.offAt + 200000000 ≤ b.now ∧ (b.chan c).meas.offSum.off = (b.chan c).stage.offAt ∧ 0 < (b.chan c).meas.offSum.n)
    (fun b u =>
      let m := (b.chan c).meas
      (u.chan c).meas.p1 = { m.p1 with offset := m.offSum.s1 / (m.offSum.n : Int) } ∧
      (u.chan c).meas.p2 = { m.p2 with offset := m.offSum.s2 / (m.offSum.n : Int) } ∧ OnlyChan c b u) := by
  refine does_of_run _ (fun s => show execOffsetLearn t c s = run t _ s from rfl) fun b ⟨hp, ho, hs, hat, hoff, hn⟩ => ?_
  dsimp only
  rw [when_of _ _ (by simp [hp, ho, hs, hoff, msec, hat, Nat.ne_of_gt hn]), State.modMeas_eq, keep_modChan, State.chan_modChan, if_pos rfl]
  refine ⟨?_, ?_, onlyChan_modChan ..⟩ <;> simp [meanOf_pos _ hn]

/-- Settles O20: a visit by the one channel and the cartridge that it changes, its end by what the tests leave of each path. -/
theorem visitsCalibrate : Obligations.VisitsCalibrate :=
  ⟨visitStart_begins, visitEnd_judges, visitAbandoned_rejects, offsetLearn_learns⟩

end Sys2Proof.Machine
end

section
/-!
PROOFS. The comparison of the measurement paths (R369 to R371, R380, R1000): an evaluation is one update of its channel, and what follows from it logs,
with at most the exclusion of a path beside it.
-/
namespace Sys2Proof.Machine

/-- Raising or clearing the PATH_FAIL of a path logs, and does nothing else (R1000). -/
theorem onlyLog_pathAlarm (s : State) (c : Ch) (path : Nat) (on : Bool) : OnlyLog s (s.pathAlarm c path on) := by
  unfold State.pathAlarm
  dsimp only
  split
  · exact OnlyLog.refl s
  · exact (onlyLog_modCtl _ _ _ (Logged_setAlarm ..)).trans (onlyLog_logAt ..)

theorem OnlyLog.ite {s u : State} (h : OnlyLog s u) (p : Prop) {_ : Decidable p} : OnlyLog s (if p then u else s) := by
  split
  · exact h
  · exact OnlyLog.refl s

/-- The state in which an evaluation has noted the means `a` and `z` of the paths (R369). -/
def State.evaluated (s : State) (c : Ch) (a z : Int) : State :=
  s.modMeas c fun m => { m with
    p1 := { m.p1 with mean1s := a }, p2 := { m.p2 with mean1s := z }
    disagree := if disagrees a z then (s.chan c).meas.disagree + 1 else 0
    agreeSince := s.track (agrees a z && !(s.chan c).meas.p1.refBad && !(s.chan c).meas.p2.refBad) m.agreeSince }

/-- The crazing flag of a channel set at a disagreement beyond its bound (R369, R370). -/
def State.craze (s : State) (c : Ch) (d bound : Nat) : State :=
  ((s.modMeas c fun m => { m with crazing := true }).chanAlarm c 0x0601 true 0 1 d bound).exclude c

theorem onlyChanLog_craze (s : State) (c : Ch) (d bound : Nat) : OnlyChanLog c s (s.craze c d bound) :=
  ((onlyChan_modChan ..).toLog.alarm ..).trans (onlyChanLog_exclude ..)

theorem craze_leaves (s : State) (c : Ch) (d bound : Nat) :
    ((s.craze c d bound).chan c).meas.crazing = true ∧ ((s.craze c d bound).chan c).stage = (s.chan c).stage := by
  obtain ⟨e1, e2, u⟩ := chan_exclude ((s.modMeas c fun m => { m with crazing := true }).chanAlarm c 0x0601 true 0 1 d bound) c
  rw [State.craze, u, State.chan_chanAlarm, State.modMeas_eq, State.chan_modChan, if_pos rfl]
  exact ⟨rfl, rfl⟩

/-- PATH_COMPARISON where a sliding second has samples of each path (R369). -/
theorem does_pathComparison (t : Instant) (c : Ch) {cond : State → Prop} {res : State → State → Prop}
    (due : ∀ b, cond b → (b.cart (slotOf c)).powered = true ∧ (∃ d, (b.ctl d).running = true) ∧ 0 < (b.chan c).meas.window.n1 ∧
      0 < (b.chan c).meas.window.n2)
    (h : ∀ b, cond b →
      let m := (b.chan c).meas
      let a := m.window.s1 / (m.window.n1 : Int)
      let z := m.window.s2 / (m.window.n2 : Int)
      res b (b.keep (if (if disagrees a z then m.disagree + 1 else 0) ≥ 10 ∧ ¬m.crazing = true ∧ m.p1.used = true ∧ m.p2.used = true then
          (b.evaluated c a z).craze c (a - z).natAbs (max a.natAbs z.natAbs / 500 + 2000)
        else b.evaluated c a z))) : Does (.pathComparison t c) cond res := by
  refine does_of_run _ (fun s => show execPathComparison t c s = run t _ s from rfl) fun b hb => ?_
  obtain ⟨hp, ⟨d, hd⟩, h1, h2⟩ := due b hb
  have running : ((b.ctl .a).running || (b.ctl .b).running) = true := by cases d <;> simp [hd]
  dsimp only
  rw [when_of _ _ (by simp [hp, running, Nat.ne_of_gt h1, Nat.ne_of_gt h2]), meanOf_pos _ h1, meanOf_pos _ h2]
  exact h b hb

section
variable (t : Instant) (c : Ch)

theorem pathComparison_crazes : Does (.pathComparison t c)
    (fun b =>
      let m := (b.chan c).meas
      let w := m.window
      (b.cart (slotOf c)).powered = true ∧ (∃ d, (b.ctl d).running = true) ∧ 0 < w.n1 ∧ 0 < w.n2 ∧ m.crazing = false ∧ m.p1.used = true ∧
      m.p2.used = true ∧ 9 ≤ m.disagree ∧ disagrees (w.s1 / (w.n1 : Int)) (w.s2 / (w.n2 : Int)) = true)
    (fun b u => (u.chan c).meas.crazing = true ∧ (u.chan c).stage = (b.chan c).stage ∧ OnlyChanLog c b u) := by
  refine does_pathComparison t c (fun b ⟨hp, hr, h1, h2, _⟩ => ⟨hp, hr, h1, h2⟩) fun b ⟨_, _, _, _, hc, u1, u2, h9, hd⟩ => ?_
  have o : ∀ a z d bound, OnlyChanLog c b ((b.evaluated c a z).craze c d bound) := fun _ _ _ _ =>
    (onlyChan_modChan ..).toLog.trans (onlyChanLog_craze ..)
  dsimp only
  rw [if_pos hd, if_pos ⟨Nat.succ_le_succ h9, by simp [hc], u1, u2⟩, (o ..).keep]
  obtain ⟨crazing, stage⟩ := craze_leaves _ c _ _
  exact ⟨crazing, stage.trans (by simp [State.evaluated]), o ..⟩

theorem pathComparison_agrees : Does (.pathComparison t c)
    (fun b =>
      let w := (b.chan c).meas.window
      (b.cart (slotOf c)).powered = true ∧ (∃ d, (b.ctl d).running = true) ∧ 0 < w.n1 ∧ 0 < w.n2 ∧
      disagrees (w.s1 / (w.n1 : Int)) (w.s2 / (w.n2 : Int)) = false)
    (fun b u =>
      let w := (b.chan c).meas.window
      (u.chan c).meas.disagree = 0 ∧ (u.chan c).meas.crazing = (b.chan c).meas.crazing ∧
      (u.chan c).meas.p1.mean1s = w.s1 / (w.n1 : Int) ∧ (u.chan c).meas.p2.mean1s = w.s2 / (w.n2 : Int) ∧ OnlyChan c b u) := by
  refine does_pathComparison t c (fun b ⟨hp, hr, h1, h2, _⟩ => ⟨hp, hr, h1, h2⟩) fun b ⟨_, _, _, _, hd⟩ => ?_
  dsimp only
  rw [hd, if_neg (by simp), State.evaluated, State.modMeas_eq, keep_modChan, State.chan_modChan, if_pos rfl]
  exact ⟨by simp [hd], rfl, rfl, rfl, onlyChan_modChan ..⟩

theorem crazingClear_returns (a : Instant) : Does (.crazingClear t c)
    (fun b => (b.chan c).meas.agreeSince = some a ∧ a + 60000000000 ≤ b.now ∧ (b.chan c).meas.visitedSince a = true ∧
      ((b.chan c).meas.p1.failed = false ∨ (b.chan c).meas.p2.failed = false))
    (fun b u => (u.chan c).meas.crazing = false ∧ (u.chan c).meas.p1.used = true ∧ (u.chan c).meas.p2.used = true ∧ OnlyChanLog c b u) := by
  refine does_of_run _ (fun s => show execCrazingClear t c s = run t _ s from rfl) fun b ⟨ha, h60, hv, hf⟩ => ?_
  have cleared : ∀ u, OnlyLog (b.modMeas c fun m => { m with
        crazing := false, disagree := 0, p1 := { m.p1 with excluded := false, failed := false }
        p2 := { m.p2 with excluded := false, failed := false } }) u →
      ((b.keep u).chan c).meas.crazing = false ∧ ((b.keep u).chan c).meas.p1.used = true ∧ ((b.keep u).chan c).meas.p2.used = true ∧
      OnlyChanLog c b (b.keep u) := fun u log => by
    have o := OnlyChanLog.of (onlyChan_modChan ..) log
    rw [o.keep, log.chan]
    exact ⟨by simp, by simp [Path.used], by simp [Path.used], o⟩
  dsimp only
  rw [ha]
  dsimp only
  rw [when_of _ _ (by simpa [hv, sec, h60] using hf)]
  exact cleared _ (((onlyLog_pathAlarm ..).ite _).trans ((onlyLog_pathAlarm ..).ite _) |>.trans ((onlyLog_chanAlarm ..).ite _))

/-- A path fails while the other works and reads below 90 A: it is marked, and the failure logged (R380, R1000). -/
theorem pathFail_fails : Does (.pathFail t c false true)
    (fun b => (b.cart (slotOf c)).powered = true ∧ (b.chan c).meas.p1.failed = false ∧ (b.chan c).meas.p2.failed = false ∧
      (((b.chan c).meas.i2).getD 0).natAbs < 90000000)
    (fun b u => (u.chan c).meas.p1.failed = true ∧ (u.chan c).meas.p2 = (b.chan c).meas.p2 ∧ OnlyChanLog c b u) := by
  refine does_of_run _ (fun s => show execPathFail t c false true s = run t _ s from rfl) fun b ⟨hp, h1, h2, hi⟩ => ?_
  have log : ∀ f, OnlyLog (b.modMeas c f) ((b.modMeas c f).pathAlarm c 1 true) := fun f => onlyLog_pathAlarm ..
  have o : ∀ f, OnlyChanLog c b ((b.modMeas c f).pathAlarm c 1 true) := fun f => OnlyChanLog.of (onlyChan_modChan ..) (log f)
  dsimp only
  rw [when_of _ _ hp]
  simp only [Bool.false_eq_true, if_false, if_true, h1, h2, hi, or_true]
  rw [(o _).keep, (log _).chan]
  exact ⟨by simp, by simp, o _⟩

/-- A path that fails while the other reads 90 A or more stays in use (R380). -/
theorem pathFail_rests : Does (.pathFail t c true true)
    (fun b => (b.cart (slotOf c)).powered = true ∧ (b.chan c).meas.p2.failed = false ∧ (b.chan c).meas.p1.failed = false ∧
      90000000 ≤ (((b.chan c).meas.i1).getD 0).natAbs)
    (fun b u => u = b) := by
  refine does_of_run _ (fun s => show execPathFail t c true true s = run t _ s from rfl) fun b ⟨hp, h2, h1, hi⟩ => ?_
  have loud : ¬(((b.chan c).meas.i1).getD 0).natAbs < 90000000 := Nat.not_lt.2 hi
  dsimp only
  rw [when_of _ _ hp]
  simp only [if_true, h1, h2, loud, Bool.false_eq_true, or_self, if_false]
  exact keep_self b

end

/-- Settles O21: an evaluation by the update that it makes and by what the crazing flag then leaves, the return and the failure of a path by what they
log. -/
theorem pathsAreCompared : Obligations.PathsAreCompared :=
  ⟨pathComparison_crazes, pathComparison_agrees, crazingClear_returns, pathFail_fails, pathFail_rests⟩

end Sys2Proof.Machine
end

section
/-!
PROOFS. A cartridge's withdrawal and return (R410 to R413, R419). What its channels' turn-off, its loss of supply and its forced pairs leave is said once
each; every event is then an update of the cartridge with one of these beside it.
-/
namespace Sys2Proof.Machine

/-! One cartridge and its channels. -/

theorem OnlyCart.chansOf {k : Slot} {s u v : State} (h : OnlyCart k s u) (g : OnlyChansOf k u v) : OnlySlot k s v := by
  obtain ⟨hcart, hrest⟩ := h
  obtain ⟨gchan, grest⟩ := g
  refine ⟨fun d hd => ?_, fun j hj => ?_, by rw [grest, hrest]⟩
  · rw [gchan d hd, hrest]
    rfl
  · rw [grest]
    exact hcart j hj

/-- An update of a cartridge, and then of its channels one by one. -/
theorem onlySlot_modCart_overList (s : State) (k : Slot) (g : Cart → Cart) (f : Ch → State → State) (h : ∀ c s, OnlyChan c s (f c s)) :
    OnlySlot k s (overList (chansOf k) f (s.modCart k g)) ∧ (overList (chansOf k) f (s.modCart k g)).cart k = g (s.cart k) := by
  refine ⟨(onlyCart_modCart s k g).chansOf (onlyChansOf_overList k f h _ (fun c hc => (chansOf_mem k c).1 hc) _), ?_⟩
  rw [cart_of_carts (carts_overList f h _ _), State.cart_modCart, if_pos rfl]

/-- A withdrawal touches each channel alone (R410). -/
theorem onlyChan_withdrawChan (s : State) (c : Ch) : OnlyChan c s (s.withdrawChan c) := by
  unfold State.withdrawChan
  dsimp only
  cases (s.chan c).stage.output with
  | freewheel => exact onlyChan_setChan ..
  | highZ => exact OnlyChan.refl ..
  | off => exact onlyChan_modChan ..
  | decay => exact onlyChan_modChan ..
  | on => exact onlyChan_decay ..
  | pwm => exact onlyChan_decay ..

/-- A channel that a withdrawal has turned off does not conduct (R410). -/
theorem withdrawChan_output (s : State) (c : Ch) : ((s.withdrawChan c).chan c).stage.output.conducts = false := by
  unfold State.withdrawChan
  dsimp only
  cases e : (s.chan c).stage.output with
  | freewheel => simp [Stage.toOff]
  | highZ => simp [e]
  | off => simp [e]
  | decay => simp [e]
  | on => simp [(decay_chan ..).1]
  | pwm => simp [(decay_chan ..).1]

theorem onlyChan_joinCheck (s : State) (c : Ch) : OnlyChan c s (s.joinCheck c) := onlyChan_modChan ..

theorem resume_of_running {s : State} {k : Slot} (h : (s.cart k).frozen = false) : s.resume k = s := by
  simp [State.resume, h]

section
variable (t : Instant) (k : Slot)

theorem leverOpen_withdraws : Does (.leverOpen t k)
    (fun b => (b.cart k).seated = true ∧ (b.cart k).lever = false ∧ (b.cart k).band ≠ .dark ∧ (b.cart k).frozen = false)
    (fun b u => u.cart k = { b.cart k with lever := true, leverAt := some b.now, removing := true, left := false } ∧
      (∀ c, slotOf c = k → (u.chan c).stage.output.conducts = false) ∧ OnlySlot k b u) := by
  refine does_of_run _ (fun s => show execLeverOpen t k s = run t _ s from rfl) fun b ⟨hs, hl, hb, hf⟩ => ?_
  obtain ⟨o, cart⟩ := onlySlot_modCart_overList b k
    (fun y => { y with lever := true, leverAt := some b.now, removing := y.band ≠ .dark, left := false }) _
    (fun c s => onlyChan_withdrawChan s c)
  dsimp only
  rw [when_of _ _ (by simp [hs, hl]), resume_of_running hf, if_pos (by simp [Cart.powered, hs, hb]), o.keep, cart]
  refine ⟨by simp [hb], fun c hc => ?_, o⟩
  obtain ⟨s', -, -, hu⟩ := over_at _ (fun c s => (onlyChan_withdrawChan s c).toLog) (chansOf k) (chansOf_nodup k) c ((chansOf_mem k c).2 hc) _
  rw [hu]
  exact withdrawChan_output s' c

theorem leverClose_returns : Does (.leverClose t k)
    (fun b => (b.cart k).seated = true ∧ (b.cart k).lever = true)
    (fun b u => u.cart k = { b.cart k with lever := false, removing := false, left := false, leverAt := none } ∧ OnlySlot k b u) := by
  refine does_of_run _ (fun s => show execLeverClose t k s = run t _ s from rfl) fun b ⟨hs, hl⟩ => ?_
  have follow : ∀ c s, OnlyChan c s ((if (b.cart k).holder.isSome then s.joinCheck c else s).settle c) := fun c s => by
    split
    · exact (onlyChan_joinCheck s c).trans (onlyChan_settle ..)
    · exact onlyChan_settle ..
  obtain ⟨o, cart⟩ := onlySlot_modCart_overList b k (fun y => { y with lever := false, removing := false, left := false, leverAt := none }) _ follow
  dsimp only
  rw [when_of _ _ (by simp [hs, hl]), o.keep]
  exact ⟨cart, o⟩

theorem left_marks : Does (.left t k)
    (fun b => (b.cart k).powered = true ∧ (b.cart k).removing = true ∧ ∀ c, slotOf c = k → (b.chan c).stage.allOff = true)
    (fun b u => u.cart k = { b.cart k with left := true } ∧ OnlyCart k b u) := by
  refine does_of_run _ (fun s => show execLeft t k s = run t _ s from rfl) fun b ⟨hp, hr, hoff⟩ => ?_
  have all : (chansOf k).all (fun c => (b.chan c).stage.allOff) = true := List.all_eq_true.2 fun c hc => hoff c ((chansOf_mem k c).1 hc)
  rw [when_of _ _ (by rw [hp, hr, all]; rfl), keep_modCart, State.cart_modCart, if_pos rfl]
  exact ⟨rfl, onlyCart_modCart ..⟩

end

theorem twinJoin_joins (t : Instant) (c : Ch) : Does (.twinJoin t c)
    (fun b => (b.chan c).ctrl.joinWait = true ∧ (b.chan (partner c)).stage.running = true ∧ 1 ≤ (b.chan c).ctrl.mark ∧ (b.chan c).ctrl.mark ≤ 8 ∧
      (b.cart (slotOf (partner c))).holder.isSome = true ∧ (b.cart (slotOf (partner c))).seated = true)
    (fun b u => (u.chan c).ctrl.noStart = true ∧ (u.chan c).ctrl.joinWait = false ∧ (u.chan c).stage = (b.chan c).stage ∧ OnlyChan c b u) := by
  refine does_of_run _ (fun s => show execTwinJoin t c s = run t _ s from rfl) fun b ⟨hw, hr, h1, h8, hh, hs⟩ => ?_
  have started : (b.chan (partner c)).stage.phase ≠ .start := fun e => by simp [Stage.running, e] at hr
  have twin : (b.chan c).ctrl.twinned = true := by simp [Ctrl.twinned, h1, h8]
  dsimp only
  rw [when_of _ _ (by simp [hw, started]), State.joinCheck, State.modCtrl_eq, keep_modChan, State.chan_modChan, if_pos rfl]
  exact ⟨by simp [twin, hh, hs, hr], by simp [started], rfl, onlyChan_modChan ..⟩

/-! A cartridge that goes dark. -/

section
variable {k : Slot} {s u v : State}

theorem OnlySlotMode.trans (h : OnlySlotMode k s u) (g : OnlySlotMode k u v) : OnlySlotMode k s v := by
  obtain ⟨hchan, hcart, hlog, hrest⟩ := h
  obtain ⟨gchan, gcart, glog, grest⟩ := g
  exact ⟨fun d hd => (gchan d hd).trans (hchan d hd), fun j hj => (gcart j hj).trans (hcart j hj), hlog.trans glog, by rw [grest, hrest]⟩

theorem OnlySlotLog.toMode (h : OnlySlotLog k s u) : OnlySlotMode k s u := by
  obtain ⟨chan, cart, log, rest⟩ := h
  exact ⟨chan, cart, log, by rw [rest]⟩

theorem OnlySlotMode.keep (h : OnlySlotMode k s u) : s.keep u = u := by
  obtain ⟨-, -, -, rest⟩ := h
  refine State.keep_of ?_ ?_ <;> rw [rest]

end

theorem onlySlotMode_noteMode (s : State) (k : Slot) (cause : Nat) : OnlySlotMode k s (s.noteMode cause) := by
  obtain ⟨u, log, h⟩ := noteMode_log s cause
  obtain ⟨chan, cart, -, rest⟩ := (log.toSlot k).toMode
  rw [h]
  exact ⟨chan, cart, fun c => by cases c <;> exact log.1 _, by rw [rest]⟩

theorem onlySlotMode_draw (s : State) (k : Slot) : OnlySlotMode k s s.draw.2 :=
  ⟨fun _ _ => rfl, fun _ _ => rfl, fun c => by cases c <;> exact Ctlr.Logged.refl _, rfl⟩

theorem onlySlotMode_mayLose (s : State) (c : Ch) : OnlySlotMode (slotOf c) s (s.mayLose c) := by
  unfold State.mayLose when
  dsimp only
  split
  · exact (onlySlotMode_draw s _).trans (onlyChan_modChan ..).toLog.toSlot.toMode
  · exact (OnlySlotLog.refl _ s).toMode

/-- What touches the cartridge of a channel, its channels, the logs and the unit mode, done over the channels of one cartridge. -/
theorem onlySlotMode_overList (k : Slot) (f : Ch → State → State) (h : ∀ c s, OnlySlotMode (slotOf c) s (f c s)) (l : List Ch)
    (hl : ∀ c ∈ l, slotOf c = k) (s : State) : OnlySlotMode k s (overList l f s) := by
  induction l generalizing s with
  | nil => exact (OnlySlotLog.refl k s).toMode
  | cons c l ih =>
    have first : OnlySlotMode k s (f c s) := hl c (by simp) ▸ h c s
    exact first.trans (ih (fun d hd => hl d (by simp [hd])) (f c s))

/-- A channel in the dark: every switch off, its generator stopped, and nothing of its own waits (R239, R341). -/
def Chan.darkened (x : Chan) (was : BusBand) (now : Instant) : Chan :=
  { x with
    stage := { x.stage.toOff now with
      restartAt := none, revUntil := none, serRetry := none
      serRun := if was = .dark then x.stage.serRun else now - x.stage.serTestAt }
    gen := { x.gen.stop with pending := false }
    prot := { x.prot.endReg now with cleanSince := none, held := false }
    ctrl := { x.ctrl with hand := .none, ramp := none, openF := false, insHold := none, joinWait := false, noStart := false } }

/-- A cartridge in the dark: its engine holds nothing (R239, R964). -/
def Cart.darkened (x : Cart) (now : Instant) : Cart :=
  { x with
    band := .dark, bandAt := now, ovOff := false, ovSince := none, frozen := false, visit := none, visitStop := min x.visitStop now
    holder := none, armedBy := none, armed := [], removing := false, left := false, latchAt := none
    flt := Vector.replicate 2 {}, at_ := Vector.replicate 4 {} }

/-- The state in which the supply of a cartridge ends: its glaze latches may be lost, and a halt has ended (R827, R964). -/
def State.supplyLost (s : State) (k : Slot) : State :=
  let v := overList (chansOf k) (fun c s => s.mayLose c) s
  if (s.cart k).frozen then v.logUnit 0x0E03 0 (k.val + 1) (k.val + 1) (stdBody 1 0 0 0 0 (s.cart k).serial) else v

theorem onlySlotMode_supplyLost (s : State) (k : Slot) : OnlySlotMode k s (s.supplyLost k) :=
  (onlySlotMode_overList k (fun c s => s.mayLose c) (fun c s => onlySlotMode_mayLose s c) (chansOf k) (fun c hc => (chansOf_mem k c).1 hc) s).trans
    (((onlyLog_logUnit ..).ite _).toSlot k).toMode

/-- The channels of a cartridge that goes dark, in a state in which its supply has ended. -/
def State.darkChans (s : State) (k : Slot) (was : BusBand) : State := overList (chansOf k) (fun c s => s.modChan c (·.darkened was s.now)) s

theorem cartDark_eq (s : State) (k : Slot) :
    s.cartDark k = (((s.supplyLost k).darkChans k (s.cart k).band).modCart k
      (·.darkened ((s.supplyLost k).darkChans k (s.cart k).band).now)).noteMode := rfl

theorem darkChans_leaves (s : State) (k : Slot) (was : BusBand) :
    OnlySlotLog k s (s.darkChans k was) ∧
    ∀ c, slotOf c = k → ((s.darkChans k was).chan c).stage.output = .off ∧ ((s.darkChans k was).chan c).stage.ser = false := by
  have one : ∀ c (s : State), OnlyChanLog c s (s.modChan c (·.darkened was s.now)) := fun c s => (onlyChan_modChan ..).toLog
  refine ⟨onlySlotLog_chansOf k _ one s, fun c hc => ?_⟩
  obtain ⟨s', -, -, hu⟩ := over_at _ one (chansOf k) (chansOf_nodup k) c ((chansOf_mem k c).2 hc) s
  rw [State.darkChans, hu, State.chan_modChan, if_pos rfl]
  exact ⟨rfl, rfl⟩

/-- A cartridge that goes dark changes with its channels, the logs and the unit mode; nobody holds it, and its switches are off (R239). -/
theorem cartDark_leaves (s : State) (k : Slot) :
    OnlySlotMode k s (s.cartDark k) ∧ ((s.cartDark k).cart k).band = .dark ∧ ((s.cartDark k).cart k).holder = none ∧
    ∀ c, slotOf c = k → ((s.cartDark k).chan c).stage.output = .off ∧ ((s.cartDark k).chan c).stage.ser = false := by
  have lost := onlySlotMode_supplyLost s k
  obtain ⟨dark, off⟩ := darkChans_leaves (s.supplyLost k) k (s.cart k).band
  rw [cartDark_eq]
  generalize (s.supplyLost k).darkChans k (s.cart k).band = v at dark off
  have cart : (((v.modCart k (·.darkened v.now)).noteMode).cart k) = (v.cart k).darkened v.now := by
    rw [cart_of_carts (State.carts_noteMode ..), State.cart_modCart, if_pos rfl]
  have chan : ∀ c, (((v.modCart k (·.darkened v.now)).noteMode).chan c) = v.chan c := fun c => by
    rw [State.chan, State.chans_noteMode]
    rfl
  rw [cart]
  refine ⟨((lost.trans dark.toMode).trans (onlySlotLog_modCart ..).toMode).trans (onlySlotMode_noteMode ..), rfl, rfl, fun c hc => ?_⟩
  rw [chan]
  exact off c hc

/-- A cartridge out of its slot is dark (R411, R971). -/
theorem unseat_leaves (s : State) (k : Slot) :
    OnlySlotMode k s (s.unseat k) ∧ ((s.unseat k).cart k).seated = false ∧ ((s.unseat k).cart k).band = .dark ∧
    ((s.unseat k).cart k).holder = none ∧
    ∀ c, slotOf c = k → ((s.unseat k).chan c).stage.output = .off ∧ ((s.unseat k).chan c).stage.ser = false := by
  obtain ⟨o, band, holder, off⟩ := cartDark_leaves s k
  unfold State.unseat
  generalize s.cartDark k = v at o band holder off ⊢
  rw [State.cart_modCart, if_pos rfl]
  exact ⟨o.trans (onlySlotLog_modCart ..).toMode, rfl, band, holder, off⟩

theorem slotLeft_empties (t : Instant) (k : Slot) : Does (.slotLeft t k)
    (fun b => (b.cart k).seated = true ∧ (b.cart k).left = true)
    (fun b u => (u.cart k).seated = false ∧ (u.cart k).band = .dark ∧ (u.cart k).holder = none ∧
      (∀ c, slotOf c = k → (u.chan c).stage.output = .off ∧ (u.chan c).stage.ser = false) ∧ OnlySlotMode k b u) := by
  refine does_of_run _ (fun s => show execSlotLeft t k s = run t _ s from rfl) fun b ⟨hs, hl⟩ => ?_
  obtain ⟨o, seated, band, holder, off⟩ := unseat_leaves b k
  have log := onlyLog_logUnit (b.unseat k) 0x0302 0 (k.val + 1) (k.val + 1) (stdBody 1 0 0 0 0 (b.cart k).serial)
  have all := o.trans (log.toSlot k).toMode
  dsimp only
  rw [when_of _ _ (by rw [hs, hl]; rfl)]
  generalize (b.unseat k).logUnit 0x0302 0 (k.val + 1) (k.val + 1) (stdBody 1 0 0 0 0 (b.cart k).serial) = u at log all ⊢
  rw [all.keep, log.cart]
  exact ⟨seated, band, holder, fun c hc => by rw [log.chan]; exact off c hc, all⟩

/-! Pairs forced by a cartridge drawn without leave. -/

/-- The twin pairs and the logs have changed. -/
def OnlyTwinsLog (s u : State) : Prop := Logged s u ∧ u = { s with twins := u.twins, ctlA := u.ctlA, ctlB := u.ctlB }

section
variable {s u v : State}

theorem OnlyTwinsLog.refl (s : State) : OnlyTwinsLog s s := ⟨Logged.refl s, rfl⟩

theorem OnlyTwinsLog.trans (h : OnlyTwinsLog s u) (g : OnlyTwinsLog u v) : OnlyTwinsLog s v := by
  obtain ⟨hlog, hrest⟩ := h
  obtain ⟨glog, grest⟩ := g
  exact ⟨hlog.trans glog, by rw [grest, hrest]⟩

theorem OnlyTwinsLog.cart (h : OnlyTwinsLog s u) (k : Slot) : u.cart k = s.cart k := by rw [h.2]; rfl
theorem OnlyTwinsLog.chan (h : OnlyTwinsLog s u) (c : Ch) : u.chan c = s.chan c := by rw [h.2]; rfl
theorem OnlyTwinsLog.now (h : OnlyTwinsLog s u) : u.now = s.now := by rw [h.2]
theorem OnlyTwinsLog.pending (h : OnlyTwinsLog s u) : u.pending = s.pending := by rw [h.2]

theorem OnlyLog.toTwins (h : OnlyLog s u) : OnlyTwinsLog s u := ⟨h.1, by rw [h.2]⟩

end

theorem onlyTwinsLog_modTwin (s : State) (p : Pair) (f : Twin → Twin) : OnlyTwinsLog s (s.modTwin p f) :=
  ⟨fun c => by cases c <;> exact Ctlr.Logged.refl _, rfl⟩

theorem onlyLog_pairFlag (s : State) (p : Pair) (code : Nat) (was is : Bool) (meas limit : Int) :
    OnlyLog s (s.pairFlag p code was is meas limit) := by
  unfold State.pairFlag
  split
  · exact OnlyLog.refl s
  · exact onlyLog_alarmUnit ..

/-- What a controller finds of the configuration is not in its log. -/
theorem Logged.twinned {s u : State} (h : Logged s u) (p : Pair) : u.twinned p = s.twinned p := by
  have ra : u.ctlA.role = s.ctlA.role := (h .a).role
  have rb : u.ctlB.role = s.ctlB.role := (h .b).role
  have lead : u.lead = s.lead := by simp only [State.lead, State.active, ra, rb]
  have items : (u.ctl s.lead).mram.items = (s.ctl s.lead).mram.items := by rw [(h _).2]
  have item : u.item 0x0201 (p.val + 1) = s.item 0x0201 (p.val + 1) := by rw [State.item, lead, State.itemAt, items]; rfl
  rw [State.twinned, item]
  rfl

/-- TWIN_FORCED of one pair, where it is a twin (R419). -/
def State.forcePair (s : State) (p : Pair) : State :=
  if s.twinned p then (s.modTwin p fun w => { w with forced := true }).pairFlag p 0x0308 (s.twin p).forced true else s

theorem onlyTwinsLog_forcePair (s : State) (p : Pair) : OnlyTwinsLog s (s.forcePair p) := by
  unfold State.forcePair
  split
  · exact (onlyTwinsLog_modTwin ..).trans (onlyLog_pairFlag ..).toTwins
  · exact OnlyTwinsLog.refl s

theorem forced_forcePair {s : State} {p q : Pair} (h : (s.twin q).forced = true ∨ (q = p ∧ s.twinned p = true)) :
    ((s.forcePair p).twin q).forced = true := by
  unfold State.forcePair
  split
  next tw =>
    rw [(onlyLog_pairFlag ..).twin, State.twin_modTwin]
    split
    · rfl
    next apart => exact h.resolve_right fun e => apart e.1
  next tw => exact h.resolve_right fun e => tw e.2

/-- Pairs forced one after another: each of them that is a twin is forced, and stays so. -/
theorem forced_overList (l : List Pair) (s : State) (q : Pair) (h : (s.twin q).forced = true ∨ (q ∈ l ∧ s.twinned q = true)) :
    ((overList l (fun p s => s.forcePair p) s).twin q).forced = true := by
  induction l generalizing s with
  | nil => simpa [overList] using h
  | cons p l ih =>
    refine ih (s.forcePair p) ?_
    obtain h | ⟨hq, tw⟩ := h
    · exact .inl (forced_forcePair (.inl h))
    · obtain rfl | hq := List.mem_cons.1 hq
      · exact .inl (forced_forcePair (.inr ⟨rfl, tw⟩))
      · exact .inr ⟨hq, ((onlyTwinsLog_forcePair s p).1.twinned q).trans tw⟩

theorem onlyTwinsLog_overList {α : Type} (f : α → State → State) (h : ∀ x s, OnlyTwinsLog s (f x s)) (l : List α) (s : State) :
    OnlyTwinsLog s (overList l f s) := by
  induction l generalizing s with
  | nil => exact OnlyTwinsLog.refl s
  | cons x l ih => exact (h x s).trans (ih _)

/-- Forcing the pairs of a cartridge changes the pairs and the logs, and forces each of its twins (R419). -/
theorem forcePairs_leaves (s : State) (k : Slot) :
    OnlyTwinsLog s (s.forcePairs k) ∧ ∀ c, slotOf c = k → s.twinned (pairOf c) = true → ((s.forcePairs k).twin (pairOf c)).forced = true :=
  ⟨onlyTwinsLog_overList (fun p s => s.forcePair p) (fun p s => onlyTwinsLog_forcePair s p) _ s,
    fun c hc tw => forced_overList _ s _ (.inr ⟨List.mem_map_of_mem ((chansOf_mem k c).2 hc), tw⟩)⟩

theorem slotLost_forces (t : Instant) (k : Slot) : Does (.slotLost t k)
    (fun b => (b.cart k).seated = true ∧ (b.cart k).left = false)
    (fun b u => (u.cart k).seated = false ∧ (u.cart k).holder = none ∧
      (∀ c, slotOf c = k → (u.chan c).stage.output = .off ∧ (b.twinned (pairOf c) = true → (u.twin (pairOf c)).forced = true)) ∧
      (∀ c, slotOf c ≠ k → u.chan c = b.chan c) ∧ (∀ j, j ≠ k → u.cart j = b.cart j) ∧ Logged b u) := by
  refine does_of_run _ (fun s => show execSlotLost t k s = run t _ s from rfl) fun b ⟨hs, hl⟩ => ?_
  obtain ⟨o, seated, -, holder, off⟩ := unseat_leaves b k
  have alarm := onlyLog_alarmUnit (b.unseat k) 0x0303 (k.val + 1) true (k.val + 1) 1 0 0 0 (b.cart k).serial
  have before := o.trans (alarm.toSlot k).toMode
  dsimp only
  rw [when_of _ _ (by rw [hs, hl]; rfl)]
  generalize (b.unseat k).alarmUnit 0x0303 (k.val + 1) true (k.val + 1) 1 0 0 0 (b.cart k).serial = v at alarm before ⊢
  obtain ⟨twins, forced⟩ := forcePairs_leaves v k
  obtain ⟨chans, carts, log, rest⟩ := before
  have now : v.now = b.now := by rw [rest]
  have pending : v.pending = b.pending := by rw [rest]
  rw [State.keep_of (twins.now.trans now) (twins.pending.trans pending), twins.cart, alarm.cart]
  refine ⟨seated, holder, fun c hc => ⟨?_, fun tw => forced c hc ((log.twinned _).trans tw)⟩, fun c hc => (twins.chan c).trans (chans c hc),
    fun j hj => (twins.cart j).trans (carts j hj), log.trans twins.1⟩
  rw [twins.chan, alarm.chan]
  exact (off c hc).1

/-- Settles O24: the lever and the join by the one update of the cartridge or the channel; a cartridge out of its slot by what the dark leaves of it, and one
drawn without leave by its forced pairs beside that. -/
theorem withdrawalAndReturn : Obligations.WithdrawalAndReturn :=
  ⟨leverOpen_withdraws, left_marks, slotLeft_empties, slotLost_forces, leverClose_returns, twinJoin_joins⟩

end Sys2Proof.Machine
end

section
/-!
PROOFS. The sharing loop (R396 to R405) and the journal. Where the wire model of a pair reaches 1.0, the loop has the pair tripped by a transaction, which
commits and releases whatever the journal holds under that transaction's number. A state whose journal numbers are not fresh (R857) holds another
transaction there, and a cycle of the loop makes its changes.
-/
namespace Sys2Proof.Machine

/-- A prepared transaction under the number that the next transaction of a controller at its reset gets: it withdraws JSN 7. -/
def staleSlot : JSlot := { jsn := 1, st := .prepared, changes := [.withdraw 7 0] }

/-- An ACTIVE controller with CH01 and CH05 configured as a twin, both seen on in START, and with a stale transaction in its journal. -/
def staleCtl : Ctlr :=
  { role := .active
    seen := Vector.replicate 4 { at_ := some 0, words := [0x100] }
    mram := { items := [⟨0x0201, 1, 1⟩], slots := [staleSlot] } }

/-- A unit under that controller, with the wire models of its pairs beyond 1.0, and JSN 7 armed at every cartridge. -/
def staleUnit : State :=
  { ctlA := staleCtl
    carts := Vector.replicate 4 { band := .normal, armed := [⟨7, 0, []⟩] }
    twins := Vector.replicate 8 { x := 2 ^ 61 } }

/-- Refutes O23: its first clause says that the cartridges stand as they did, of every state and not of those with fresh journal numbers alone. At
`staleUnit` the trip of the pair releases the stale transaction, and JSN 7 is armed at no cartridge any more (R561). -/
theorem not_sharingLoopTrims : ¬ Obligations.SharingLoopTrims := by
  rintro ⟨h, -⟩
  obtain ⟨u, hu, -, -, -, -, -, -, carts⟩ := h 0 0 0 .a staleUnit (by decide +kernel)
  cases (show exec (.sharingLoop 0 0 0) staleUnit = .next u from hu)
  have armed := congrArg (fun v : Vector Cart 4 => v[0].armed) carts
  revert armed
  decide +kernel

end Sys2Proof.Machine
end
